-- ==== Sys2Proof/Word.lean ====
section
/-! DEFINITION. The word type, the numbers of the part's units, and the sparse store (a list of key and value pairs in one canonical
form) that every memory of the model uses. -/

namespace Sys2Proof

/-- A 32-bit register or instruction word (R4, R161). -/
abbrev Word := BitVec 32

/-- A program identity STL0 to STL3 (R213). -/
abbrev Stl := Fin 4
/-- A physical pair of cores, 0 to 4 (R213). -/
abbrev PairN := Fin 5
/-- A general register s0 to s15 (R161). -/
abbrev RegN := Fin 16
/-- A loop LP0 to LP7 (R70). -/
abbrev LoopN := Fin 8
/-- A phase PH00 to PH23 (R70). -/
abbrev PhaseN := Fin 24
/-- A channel MCH000 to MCH191 (R105). -/
abbrev ChanN := Fin 192
/-- A converter CVA to CVD (R105). -/
abbrev ConvN := Fin 4
/-- A crier 0 to 15 (R126). -/
abbrev CrierN := Fin 16
/-- A rail RL00 to RL71 (R134). -/
abbrev RailN := Fin 72
/-- An SQ pin 0 to 63. -/
abbrev SqN := Fin 64
/-- A Ledger source LS000 to LS127 (R319). -/
abbrev SrcN := Fin 128
/-- A cable port P0, P1 (R271). -/
abbrev PortN := Fin 2
/-- An input of the power path: 0 DCIN, 1 P0, 2 P1 (R237). -/
abbrev InputN := Fin 3
/-- An interrupt target (R352). -/
abbrev Target := Fin 7
/-- A timer TM0 to TM15 (R359). -/
abbrev TmrN := Fin 16

/-- A sparse store: what no entry lists reads as the default value. -/
abbrev Cells (α : Type) := List (Nat × α)

variable {α : Type}

/-- The value at a key. -/
def Cells.look [Inhabited α] (l : Cells α) (a : Nat) : α :=
  match l with
  | [] => default
  | c :: t => if a = c.1 then c.2 else Cells.look t a

/-- No entry at a key. -/
def Cells.del (l : Cells α) (a : Nat) : Cells α := l.filter (fun c => c.1 != a)

/-- An entry put in its place of a store that has none at its key. -/
def Cells.ins (l : Cells α) (a : Nat) (v : α) : Cells α :=
  match l with
  | [] => [(a, v)]
  | c :: t => if a < c.1 then (a, v) :: c :: t else c :: Cells.ins t a v

/-- The store with a value at a key; the default value leaves no entry. -/
def Cells.set [Inhabited α] [DecidableEq α] (l : Cells α) (a : Nat) (v : α) : Cells α :=
  if v = default then l.del a else (l.del a).ins a v

/-- Keys strictly rising. -/
def Cells.rising (l : Cells α) : Bool :=
  match l with
  | [] => true
  | c :: t => t.all (fun d => c.1 < d.1) && Cells.rising t

/-- The canonical form: keys strictly rising, and no entry that holds the default value. -/
def Cells.wf [Inhabited α] [DecidableEq α] (l : Cells α) : Bool :=
  l.rising && l.all (fun c => c.2 != default)

/-- A sparse store in pages, each page the entries of 2^16 keys. -/
abbrev Pages (α : Type) := Cells (Cells α)

/-- The page of a key. -/
def pageOf (k : Nat) : Nat := k / 2 ^ 16

/-- The value at a key. -/
def Pages.look [Inhabited α] (p : Pages α) (k : Nat) : α := Cells.look (Cells.look p (pageOf k)) k

/-- The store with a value at a key; a page without entries is not listed. -/
def Pages.set [Inhabited α] [DecidableEq α] (p : Pages α) (k : Nat) (v : α) : Pages α :=
  Cells.set p (pageOf k) (Cells.set (Cells.look p (pageOf k)) k v)

/-- The store without the entries whose key fails a test. -/
def Pages.keep (p : Pages α) (f : Nat → Bool) : Pages α :=
  (p.map (fun c => (c.1, c.2.filter (fun d => f d.1)))).filter (fun c => !c.2.isEmpty)

/-- The canonical form: pages in rising order, none empty, each in canonical form with the keys of its own page. -/
def Pages.wf [Inhabited α] [DecidableEq α] (p : Pages α) : Bool :=
  Cells.wf p && p.all (fun c => Cells.wf c.2 && c.2.all (fun d => pageOf d.1 == c.1))

end Sys2Proof
end

