-- ==== Sys2Proof/Syntax.lean ====
section
/-! DEFINITION. The commands: one constructor of Instr per row of spec/opcode_table.json, in the table's order, with the operands its rule
names. What the surroundings supply (a level, a measured value, a message, an outcome) is an operand. The names of the Tarragon
instructions carry a leading t. -/

namespace Sys2Proof

/-- Who makes a register access (R6, R391): a stall identity, the SPI or SMBus host link, or the debug port. -/
inductive Writer where
  | stl (s : Stl)
  | spi
  | smbus
  | debug
  deriving DecidableEq, Repr

/-- The source that raises VAO (R47). -/
inductive Raiser where
  | dcin
  | p0
  | p1
  | vbat
  deriving DecidableEq, Repr

/-- A supply whose monitor makes a BOR reset (R52); the order is that of RST_CAUSE.BOR_SRC codes 1 to 5. -/
inductive Supply where
  | vaoC
  | vcore
  | vana
  | vioS
  | vioP
  deriving DecidableEq, Repr

/-- What stands at a loop's sense inputs as a command finds it (R73, R75, R84): VSEN in µV, and the ISEN voltages in µV of the phases named. -/
structure LoopSense where
  vsen : Nat
  isen : List (Nat × Nat)
  deriving DecidableEq, Repr

/-- A loop, and what stands at its sense inputs. -/
structure LoopAt where
  n : LoopN
  m : LoopSense
  deriving DecidableEq, Repr

/-- A phase, and its ISEN voltage in µV (R74). -/
structure PhaseAt where
  k : PhaseN
  visen : Nat
  deriving DecidableEq, Repr

/-- A pre-start check (R85): VSEN in µV as the check began, and what stands at the sense inputs now. -/
structure CheckSense where
  v0 : Nat
  m : LoopSense
  deriving DecidableEq, Repr

/-- How long, in ns, the levels of a phase fault's causes have stood (R95): ISEN out of range, stage fault, imbalance. -/
structure FaultTimes where
  range : Nat
  stage : Nat
  imbalance : Nat
  deriving DecidableEq, Repr

/-- What stands at the sense inputs of a faulty phase's loop, and for how long (R95). -/
structure FaultSense where
  m : LoopSense
  times : FaultTimes
  deriving DecidableEq, Repr

/-- The release of the reset (R53, R375): the SMBus address the straps give, and whether the supplies have fallen and risen again in order since an
ordering breach (R51). -/
structure HoldEnd where
  addr : BitVec 7
  reordered : Bool
  deriving DecidableEq, Repr

/-- A side of a crier, the input's voltage in µV, and for how many ns it has stood there (R126). -/
structure CrierSense where
  hi : Bool
  uv : Nat
  ns : Nat
  deriving DecidableEq, Repr

/-- What a pair had done of the instruction in progress as its cores disagreed (R220): the instruction where its side effect was issued, and how many
words of a COPYB or MEASB were written. -/
structure CoreIssue where
  word : Option Word
  moved : Nat
  deriving DecidableEq, Repr

/-- An input that has left its range, and whether it still stands above the pre-regulator's threshold (R43, R241). -/
structure InputLeft where
  i : InputN
  above : Bool
  deriving DecidableEq, Repr

/-- An input whose debounce ends, and those whose debounce ends on the same slow tick (R241, R268). -/
structure InputsSettled where
  i : InputN
  same : List InputN
  deriving DecidableEq, Repr

/-- VBAT in mV, and whether the charge current is still above its bound (R255). -/
structure ChgSense where
  vbat : Nat
  high : Bool
  deriving DecidableEq, Repr

/-- V_c over the update in µV, and the highest shunt voltage of the rest, of either sign, in nV (R302). -/
structure RestSense where
  v : Nat
  peak : Nat
  deriving DecidableEq, Repr

/-- What one scan delivers (R105, R108, R118, R125): for each channel the converters' uncorrected results of its slots in nV; V(TREF) - V(RGND_Gg) of
each group in nV; each converter's uncorrected result for REF_C in nV; the converters with a conversion that did not complete; and, in an
offset-check scan, each converter's zero result in µV. -/
structure ScanSample where
  chans : List (Nat × List Int)
  tref : List Nat
  refc : List Int
  notReady : List Nat
  zero : List Int
  deriving DecidableEq, Repr

/-- A change of load as R303 measures it: the mean cell voltage in µV and the mean shunt voltage V(SHP) - V(SHN) in nV before and after the step; the
lowest and the highest shunt voltage over the 10 s before t_s, and from t_s + 10 ms to t_s + 2 s; and the slow ticks since t_s. -/
structure StepRef where
  vBefore : Nat
  vAfter : Nat
  sBefore : Int
  sAfter : Int
  bLo : Int
  bHi : Int
  aLo : Int
  aHi : Int
  ago : Nat
  deriving DecidableEq, Repr

/-- What the gauge's front end gives one update (R298, R299): V(SHP) - V(SHN) integrated over the time since the update before, in nV·s, positive into
the battery, the mean voltage of each cell in µV, and a change of load whose windows have passed. -/
structure GaugeSample where
  shunt : Int
  cells : List Nat
  step : Option StepRef
  deriving DecidableEq, Repr

/-- Why the selected input is lost (R243): below its loss level (it may still stand above the pre-regulator's stop threshold, R432), above its
overvoltage level, or by reverse current (the input may still be in range). The end of a port's sink contract is reported by the port. -/
inductive LossCause where
  | level (above : Bool)
  | ov
  | reverse (inRange : Bool)
  deriving DecidableEq, Repr

/-- What a presence test measures (R260), in mV: V1 and V2; whether VBAT reached 0.95 × CELLS × VREG in step 3c before its end; VBAT at the
end. -/
structure PresenceResult where
  v1 : Nat
  v2 : Nat
  rose : Bool
  vEnd : Nat
  deriving DecidableEq, Repr

/-- The Rp level a sink sees (R276). -/
inductive RpLevel where
  | dflt
  | a15
  | a30
  deriving DecidableEq, Repr

/-- What a port meets at its CC lines (R273): a partner's termination whose debounce begins, seen as source (Rd) or as sink (Rp); or, debounced, the
role in which the port attaches, on CC2 or CC1: as sink with the Rp level seen, as source with Ra on the other line or not. -/
inductive Attach where
  | wait (source : Bool)
  | sink (cc2 : Bool) (lvl : RpLevel)
  | source (cc2 ra : Bool)
  deriving DecidableEq, Repr

/-- How an SPI frame is ill-formed (R373): an undefined command byte; a write frame of a wrong number of bits; a frame that begins while an
earlier write is being applied; or a read or status frame that ends before its frame CRC, after a number of words has been read. -/
inductive SpiBad where
  | command
  | length
  | busy
  | cut (addr : BitVec 16) (words : Fin 257)
  deriving DecidableEq, Repr

/-- The commands of the part, one per row of the table of operations and events. -/
inductive Instr where
  /-- VBKUP_RISE (R22): VBKUP rises into its operating range from OFF, and the backup domain starts running in BACKUP. -/
  | vbkupRise
  /-- VAO_RISE (R47): The highest max-select input rises above the pre-regulator start threshold, VAO comes up and a POR start begins. -/
  | vaoRise (raiser : Raiser) (also : List Raiser) (coreExt anaExt : Bool)
  /-- VCOLLAPSE (R25): VAO falls below VCOLLAPSE for its filter time, every state and transition ends, and the part goes to BACKUP or OFF. -/
  | vcollapse
  /-- SUPPLY_BROWNOUT (R52): An own supply falls below its monitor threshold for its filter time and a BOR reset releases the outputs. -/
  | supplyBrownout (src : Supply)
  /-- HOSTIO_LOW (R54): VIO_H falls below its threshold; HOSTIO_LOW is set, the Ledger source is raised and host-link sampling stops without a reset. -/
  | hostioLow
  /-- HOSTIO_RESUME (R54): VIO_H has stayed above its good level for 1 ms and the host links resume from their reset state. -/
  | hostioResume
  /-- ORDER_VIOL_DETECT (R51): While the part is held in reset, an ordering rule of R50 is broken; ORDER_VIOL and RULE are set, LOGGED is cleared and the part stays in reset. -/
  | orderViolDetect (rule : BitVec 2)
  /-- ORDER_VIOL_CLEAR (R51): A write of 1 to ORDER_STAT.ORDER_VIOL clears the breach record together with LOGGED. -/
  | orderViolClear (w : Writer)
  /-- RESET_HOLD_END (R53): The 1.0 ms reset hold after all supplies are good ends; bank modes and SMBus straps are sampled and the internal reset and RESET_N are released. -/
  | resetHoldEnd (viohMode viopMode : Bool) (rel : HoldEnd)
  /-- PIN_RESET (R55): RESET_N is held low from outside for at least 1.0 µs; a cold PIN reset releases the outputs and flushes staged records. -/
  | pinReset
  /-- HOST_RESET (R56): A write of 0xA5 to SOFT_RST.KEY starts a warm HOST reset with reverse-order shutdown. -/
  | hostReset (w : Writer)
  /-- SOFT_RST_KEY_BAD (R56): A non-zero SOFT_RST.KEY other than 0xA5 is written and KEY_BAD is set without a reset. -/
  | softRstKeyBad (w : Writer) (key : BitVec 8)
  /-- WARM_TMO_EXPIRY (R57): WARM_TMO expires during a warm reset's shutdown, and the outputs still enabled are released to their pull-downs. -/
  | warmTmoExpiry
  /-- ROM_BOOT_STAGE (R63): After reset release, STL0 runs the ROM boot stage: FCLK start, OTP read, SRAM zeroing, Daybook flush, slot selection, load and boot program start. -/
  | romBootStage
  /-- BOOT_WINDOW_TIMEOUT (R66): The boot window closes 50 ms after the boot program started without SEAL; SEAL_TMO is set and SEAL_TIMEOUT is raised. -/
  | bootWindowTimeout
  /-- PWR_REQ_STANDBY (R23): A STANDBY request is accepted when no loop is enabled and no sequence is in progress, or refused otherwise. -/
  | pwrReqStandby (w : Writer)
  /-- STANDBY_ENTRY_DONE (R26): Entry to STANDBY completes; V and W fields reset, converter fences clear and any pending wake event is presented. -/
  | standbyEntryDone
  /-- PWR_REQ_RUN (R23): A RUN request is accepted in STANDBY outside SHIP_PEND when an input is qualified or a battery is available, and the transition begins. -/
  | pwrReqRun (w : Writer)
  /-- RUN_TRANSITION_END (R24): The RUN transition ends in ACTIVE, HOLD or STANDBY as inputs decide, and any held request is acted on. -/
  | runTransitionEnd
  /-- PWR_REQ_SHIP (R33): A SHIP request is accepted and the Keeper begins powering every enabled rail down in reverse order. -/
  | pwrReqShip (w : Writer)
  /-- PWR_REQ_CANCEL (R34): A CANCEL request in SHIP_PEND clears the ship flag, unblocks the VBAT leg and returns the part to STANDBY. -/
  | pwrReqCancel (w : Writer)
  /-- PWR_REQ_UNDEFINED (R22): An undefined REQ code is written and PWR_STATE.REQ_BAD is set. -/
  | pwrReqUndefined (w : Writer) (req : BitVec 4)
  /-- SHIP_PEND_INPUT_REMOVED (R34): The last input is removed in SHIP_PEND, VAO collapses and the part is in SHIP. -/
  | shipPendInputRemoved
  /-- STBY_CFG_WRITE (R27): A write of SCAN_P in STANDBY stops the bursts or retimes the next burst at once. -/
  | stbyCfgWrite (w : Writer) (v : Word)
  /-- STANDBY_BURST (R27): The burst period elapses in STANDBY and one full Scales scan runs as a burst. -/
  | standbyBurst
  /-- FCLK_USABLE (R19): FCLK becomes usable after starting, and events held by blocks are registered. -/
  | fclkUsable
  /-- FCLK_LOCK (R19): FCLK locks to the crystal and takes the crystal's accuracy. -/
  | fclkLock
  /-- CLK_FAULT (R319): FCLK is not locked 2 ms after starting with a crystal fitted and CLK_FAULT is raised. -/
  | clkFault
  /-- FCLK_STOP (R18): 100 µs after the last FCLK demand clears in STANDBY, FCLK stops. -/
  | fclkStop
  /-- VBAT_LEG_WINDOW_END (R37): The 10 ms VBAT-leg unblock window ends without VAO rising; the leg is blocked again and, after an alarm, ALARM_NOSRC is set. -/
  | vbatLegWindowEnd
  /-- HOLD_DWELL_END (R40): The 200 ms HOLD dwell ends and, if an input is qualified, the part returns to ACTIVE and raises INPUT_BACK. -/
  | holdDwellEnd
  /-- PHASE_CURRENT_LIMIT (R74): A phase's current exceeds IPH_MAX during its on-time and its high-side pulse ends within 40 ns. -/
  | phaseCurrentLimit (p : PhaseAt)
  /-- HIGH_SIDE_SHORT (R86): During the pre-start check VSEN rises or exceeds the pre-bias limit; the input switch opens and the loop enters HSS_BLOCK. -/
  | highSideShort (n : LoopN) (m : CheckSense)
  /-- PRESTART_CHECK_PASS (R85): 100 µs of pre-start check elapse without a short; V_PRE is taken and the soft start begins. -/
  | prestartCheckPass (n : LoopN) (m : CheckSense)
  /-- SOFT_START_END (R81): The reference reaches TARGET, the loop enters RUN and its phases switch in continuous conduction. -/
  | softStartEnd (n : LoopN)
  /-- LOOP_STOP_COMPLETE (R83): A RAMPDOWN stop reaches 0 mV, the phases go to high impedance and the input switch opens. -/
  | loopStopComplete (n : LoopN)
  /-- RUSH_START (R88): VSEN falls below V_TGT minus RUSH_TH and every active phase is driven high at once. -/
  | rushStart (l : LoopAt)
  /-- RUSH_END (R88): VSEN recovers to half the rush threshold, or 4 switching periods pass, and interleaved operation resumes. -/
  | rushEnd (l : LoopAt)
  /-- BRAKE_START (R89): VSEN rises above V_TGT plus BRAKE_TH and every phase of the loop goes to high impedance. -/
  | brakeStart (l : LoopAt)
  /-- BRAKE_END (R89): VSEN falls back to half the brake threshold, or 2 µs pass, and interleaved operation resumes. -/
  | brakeEnd (l : LoopAt)
  /-- PG_ASSERT (R93): After the soft start, VSEN has stayed within PG_WIN for PG_ON_DLY and PGn asserts. -/
  | pgAssert (l : LoopAt)
  /-- PG_DEASSERT (R93): VSEN stays outside PG_WIN for PG_OFF_FILT and PGn deasserts. -/
  | pgDeassert (l : LoopAt)
  /-- PHASE_FAULT_DETECT (R95): A phase shows ISEN_RANGE, STAGE_FLT or IMBALANCE; its cause is recorded and PHASE_FLT is raised. -/
  | phaseFaultDetect (k : PhaseN) (m : FaultSense)
  /-- PHASE_READMIT (R98): A phase readmission takes effect once any rush, braking or soft start has ended, starting the READMIT_CHECK period. -/
  | phaseReadmit (k : PhaseN)
  /-- READMIT_CHECK_END (R98): The one-period READMIT_CHECK of a readmitted phase ends; it rejoins with B_k = 0 or a new PHASE_FLT is raised. -/
  | readmitCheckEnd (k : PhaseN) (visen : Nat)
  /-- HSS_CLEAR (R86): A write of 1 to LPn_STAT.HSS clears the high-side short and unblocks the loop. -/
  | hssClear (w : Writer) (n : LoopN)
  /-- SYNC_LOSS (R102): No valid SYNC_IN edge arrives for 2 expected periods; the frame holds and SYNC_LOSS is raised. -/
  | syncLoss
  /-- SYNC_LOCK (R102): The frame locks to SYNC_IN after acquisition and LOCK is set. -/
  | syncLock (khz : Nat)
  /-- SCAN_END (R119): A scan's reference slot ends; converter checks are acted on, channels are judged and the next scan starts. -/
  | scanEnd (sample : ScanSample)
  /-- CHN_CFG_WRITE (R113): A CHn_CFG write resets the channel's counters and sets zone NONE and STALE, or is ignored whole for SHUNT on an odd channel. -/
  | chnCfgWrite (w : Writer) (n : ChanN) (v : Word)
  /-- CHN_THRESHOLD_WRITE (R113): A CHn_OV or CHn_UV write resets the eight counters and keeps the zone, subject to threshold locks. -/
  | chnThresholdWrite (w : Writer) (n : ChanN) (uv : Bool) (v : Word)
  /-- CRIER_TRIP (R127): A crier side trips after its filter, sets TRIP_HI or TRIP_LO, raises its sources and the Keeper applies CRIER_ACT. -/
  | crierTrip (c : CrierN) (side : CrierSense)
  /-- CRIER_RELEASE (R127): A crier side releases after its filter and the Keeper takes the new output. -/
  | crierRelease (c : CrierN) (side : CrierSense)
  /-- CRIER_CFG_WRITE (R128): A write of CRc_CFG or CRc_THR blanks the crier's report for 5 µs, or leaves EN at 0 in a bad channel mode. -/
  | crierCfgWrite (w : Writer) (c : CrierN) (thr : Bool) (v : Word)
  /-- CRIER_BLANK_END (R128): The 5 µs blank ends and each side whose output differs from the one held is reported. -/
  | crierBlankEnd (c : CrierN) (uv ns : Nat)
  /-- KEEPER_ON_REQUEST (R141): An ON request to KPR_CTRL starts RISING, is latched as PEND_ON, or is refused while SEQ_LATCH is set. -/
  | keeperOnRequest (w : Writer)
  /-- KEEPER_OFF_REQUEST (R141): An OFF request to KPR_CTRL aborts a power-up or starts a reverse-order shutdown. -/
  | keeperOffRequest (w : Writer)
  /-- TOFF_MIN_EXPIRY (R143): With PEND_ON set, tOFF_MIN in OFF elapses and the Keeper enters RISING. -/
  | toffMinExpiry
  /-- SHUTDOWN_STEP (R145): A reverse-order shutdown step completes after max(DN_DLY, C_i) and the next rail on the stack is stopped, or FALLING ends in OFF. -/
  | shutdownStep
  /-- SHUTDOWN_TIMEOUT (R146): A shutdown has not emptied its stack within SD_TMO; the remaining outputs are released and SHUTDOWN_TMO is raised. -/
  | shutdownTimeout
  /-- UP_TIMEOUT (R149): A rail in START is not GOOD within UP_TMO; SEQ_LATCH is set and every enabled rail is shut down. -/
  | upTimeout (r : RailN)
  /-- BLIND_TIMEOUT (R151): The blind period exceeds BLIND_TMO; the Keeper shuts down every rail and sets SEQ_LATCH with cause BLIND. -/
  | blindTimeout
  /-- SQ_PG_FILTER (R136): An SQ PG input holds its level for PG_FILT and the Keeper takes the change. -/
  | sqPgFilter (p : SqN) (level : Bool)
  /-- SQ_RAIL_GOOD_DELAY (R136): An SQ rail without CHAN or PG_SRC becomes GOOD 1 µs after its pin is asserted. -/
  | sqRailGoodDelay (p : SqN)
  /-- LATCH_CLEAR (R150): A write of 1 to KPR_LATCH.CLR clears SEQ_LATCH when the record was read or acknowledged, or sets CLR_REFUSED. -/
  | latchClear (w : Writer)
  /-- DAYBOOK_ACK (R150): The host sets KPR_LATCH.DAYBOOK_ACK, acknowledging the latch record. -/
  | daybookAck (w : Writer)
  /-- DAYBOOK_UNIT_WRITE_DONE (R155): A 64-byte Daybook write unit completes and the next unit or record is written. -/
  | daybookUnitWriteDone (ok : Bool)
  /-- DAYBOOK_TOKEN (R156): A second passes on the tick count and the rate bucket gains a token. -/
  | daybookToken
  /-- TIMED_RECORD (R157): TIMED_S seconds elapse and a TIMED record is staged, starting FCLK in STANDBY. -/
  | timedRecord
  /-- DBK_CFG_WRITE (R157): A DBK_CFG write that changes TIMED_S restarts the TIMED period. -/
  | dbkCfgWrite (w : Writer) (v : Word)
  /-- HOST_SNAPSHOT (R157): A write of DBK_SNAP.GO stages a HOST record with the DBK_MASK channels. -/
  | hostSnapshot (w : Writer)
  /-- DAYBOOK_CRC_READ (R405): A read of a record's CRC word through the Daybook window sets LATCH_READ when it is the latch record. -/
  | daybookCrcRead (w : Writer) (rec : Fin 16)
  /-- ADD (R189): Adds two registers and writes Z, N, C and V. -/
  | tAdd (st : Stl) (rd ra rb : RegN)
  /-- SUB (R189): Subtracts two registers and writes Z, N, C and V. -/
  | tSub (st : Stl) (rd ra rb : RegN)
  /-- AND (R189): Bitwise AND of two registers, writing Z and N. -/
  | tAnd (st : Stl) (rd ra rb : RegN)
  /-- OR (R189): Bitwise OR of two registers, writing Z and N. -/
  | tOr (st : Stl) (rd ra rb : RegN)
  /-- XOR (R189): Bitwise XOR of two registers, writing Z and N. -/
  | tXor (st : Stl) (rd ra rb : RegN)
  /-- SHL (R190): Shifts a register left by rb[7:0]. -/
  | tShl (st : Stl) (rd ra rb : RegN)
  /-- SHR (R190): Shifts a register right logically by rb[7:0]. -/
  | tShr (st : Stl) (rd ra rb : RegN)
  /-- ASR (R190): Shifts a register right arithmetically by rb[7:0]. -/
  | tAsr (st : Stl) (rd ra rb : RegN)
  /-- MUL16 (R191): Multiplies the low 16 bits of two registers unsigned. -/
  | tMul16 (st : Stl) (rd ra rb : RegN)
  /-- CMP (R189): Compares two registers by subtraction, writing only flags. -/
  | tCmp (st : Stl) (ra rb : RegN)
  /-- JR (R197): Jumps to the address in a register. -/
  | tJr (st : Stl) (ra : RegN)
  /-- ADDI (R189): Adds a sign-extended 14-bit immediate. -/
  | tAddi (st : Stl) (rd ra : RegN) (imm : BitVec 14)
  /-- ANDI (R189): ANDs a zero-extended immediate. -/
  | tAndi (st : Stl) (rd ra : RegN) (imm : BitVec 14)
  /-- ORI (R189): ORs a zero-extended immediate. -/
  | tOri (st : Stl) (rd ra : RegN) (imm : BitVec 14)
  /-- XORI (R189): XORs a zero-extended immediate. -/
  | tXori (st : Stl) (rd ra : RegN) (imm : BitVec 14)
  /-- SHLI (R190): Shifts left by an immediate amount. -/
  | tShli (st : Stl) (rd ra : RegN) (imm : BitVec 14)
  /-- SHRI (R190): Shifts right logically by an immediate amount. -/
  | tShri (st : Stl) (rd ra : RegN) (imm : BitVec 14)
  /-- ASRI (R190): Shifts right arithmetically by an immediate amount. -/
  | tAsri (st : Stl) (rd ra : RegN) (imm : BitVec 14)
  /-- CMPI (R189): Compares a register with a sign-extended immediate. -/
  | tCmpi (st : Stl) (ra : RegN) (imm : BitVec 14)
  /-- LDI (R192): Loads a zero-extended 20-bit immediate. -/
  | tLdi (st : Stl) (rd : RegN) (imm : BitVec 20)
  /-- LUI (R192): Loads a 20-bit immediate into bits 31:12. -/
  | tLui (st : Stl) (rd : RegN) (imm : BitVec 20)
  /-- LD (R193): Loads a word from shared data. -/
  | tLd (st : Stl) (rd ra : RegN) (imm : BitVec 14)
  /-- ST (R193): Stores a word to shared data at retirement. -/
  | tSt (st : Stl) (rd ra : RegN) (imm : BitVec 14)
  /-- PIN (R195): Reads a register-map word; a read of a register that acts on read carries an issue number. -/
  | tPin (st : Stl) (rd ra : RegN) (imm : BitVec 14)
  /-- POUT (R196): Writes a register-map word as a side effect, refused only by the protection map. -/
  | tPout (st : Stl) (rd ra : RegN) (imm : BitVec 14)
  /-- BR (R197): Branches to a PC-relative target when its condition holds. -/
  | tBr (st : Stl) (cond : BitVec 4) (off : BitVec 20)
  /-- CALL (R197): Pushes the return address and branches when its condition holds. -/
  | tCall (st : Stl) (cond : BitVec 4) (off : BitVec 20)
  /-- RET (R197): Pops the call stack into PC. -/
  | tRet (st : Stl)
  /-- WAIT (R178): Evaluates a condition with a timeout and gates the stall's clock while it waits. -/
  | tWait (st : Stl) (inv : Bool) (sel : BitVec 5) (ra : RegN) (tmo : BitVec 16)
  /-- WAITT (R178): Waits for a condition or a TNOW deadline held in a register. -/
  | tWaitt (st : Stl) (inv : Bool) (sel : BitVec 5) (ra : RegN) (imm : BitVec 16)
  /-- WAIT_RESUME (R178): A waiting stall's condition becomes true and it resumes and retires with Z = 0. -/
  | waitResume (st : Stl)
  /-- WAIT_TIMEOUT (R178): A wait's timeout or deadline falls due and the instruction retires with Z = 1. -/
  | waitTimeout (st : Stl)
  /-- RDT (R166): Copies TNOW into a register. -/
  | tRdt (st : Stl) (rd : RegN)
  /-- RAMP (R78): Sets a loop's target and rate through the Keeper, starting or slewing the loop. -/
  | tRamp (st : Stl) (cls : BitVec 4) (unit : BitVec 8) (rp : RegN)
  /-- ENAB (R198): Asks the Keeper to start a loop or SQ rail. -/
  | tEnab (st : Stl) (cls : BitVec 4) (unit : BitVec 8)
  /-- DISB (R198): Asks the Keeper to stop a loop or SQ rail. -/
  | tDisb (st : Stl) (cls : BitVec 4) (unit : BitVec 8)
  /-- FENCE (R198): Asks the Keeper to fence a phase, converter or crier. -/
  | tFence (st : Stl) (cls : BitVec 4) (unit : BitVec 8)
  /-- ADMIT (R198): Asks the Keeper to readmit a fenced phase, converter or crier. -/
  | tAdmit (st : Stl) (cls : BitVec 4) (unit : BitVec 8)
  /-- MEAS (R201): Reads a channel's VALUE. -/
  | tMeas (st : Stl) (rd ra : RegN) (imm : BitVec 14)
  /-- MEASB (R202): Copies the CHn_DATA words of a run of channels into shared data. -/
  | tMeasb (st : Stl) (rd ra rb : RegN)
  /-- JUDGE (R203): Reads a channel's CHn_DATA and sets flags from its zone. -/
  | tJudge (st : Stl) (rd ra : RegN) (imm : BitVec 14)
  /-- LOG (R204): Stages a PROG record with one register of user data. -/
  | tLog (st : Stl) (rd ra : RegN) (imm : BitVec 14)
  /-- LOGB (R205): Stages a PROG record with a block of shared-data words. -/
  | tLogb (st : Stl) (rd ra rb : RegN)
  /-- RAISE (R207): Raises a programmable Ledger source as one event. -/
  | tRaise (st : Stl) (ra : RegN) (imm : BitVec 14)
  /-- SEND (R208): Posts a word to another identity's mailbox or the host mailbox. -/
  | tSend (st : Stl) (rd ra : RegN) (imm : BitVec 14)
  /-- RECV (R209): Takes or peeks the oldest word of the issuer's receive mailbox. -/
  | tRecv (st : Stl) (rd : RegN) (imm : BitVec 14)
  /-- SEAL (R210): STL0 closes the boot window, locking RWL fields and imaging the protection map. -/
  | tSeal (st : Stl)
  /-- YIELD (R183): Waits without timeout for an interrupt or a mailbox word. -/
  | tYield (st : Stl)
  /-- HALT (R185): Stops the stall with its architectural state intact. -/
  | tHalt (st : Stl)
  /-- COPYB (R194): Copies a block of words within shared data in ascending order. -/
  | tCopyb (st : Stl) (rd ra rb : RegN)
  /-- UNASSIGNED_OPCODE (R186): A stall executes an unassigned opcode and faults with ILLEGAL. -/
  | unassignedOpcode (st : Stl) (word : Word)
  /-- LOCKSTEP_MISMATCH (R215): A pair's two cores disagree and the mismatch is registered, leading to takeover, second failure or a STALL reset. -/
  | lockstepMismatch (pair : PairN) (issue : CoreIssue)
  /-- TAKEOVER_COMPLETE (R219): The spare has loaded the shadow state and starts executing as the identity; a TAKEOVER record is staged. -/
  | takeoverComplete (dur : BitVec 12)
  /-- SPARE_SELF_TEST (R216): Every 100 ms the standing spare runs its lockstep self-test; a mismatch fences it and raises SPARE_LOST. -/
  | spareSelfTest (ok : Bool)
  /-- SHADOW_BANK_ERROR (R218): A double-bit error marks a shadow bank invalid and sets SHADOW_ERR. -/
  | shadowBankError (st : Stl)
  /-- STALL_START (R230): A START bit of STL_CTRL starts a stopped identity or resumes a halted one. -/
  | stallStart (w : Writer) (st : Stl)
  /-- STALL_RESTART (R230): A RESTART bit of STL_CTRL runs the identity from its entry with reset state, keeping ISN. -/
  | stallRestart (w : Writer) (st : Stl)
  /-- WATCHDOG_KICK (R232): A POUT of 0x5A to STL_WDKICKs by identity s restarts its watchdog count, otherwise KICK_BAD is set. -/
  | watchdogKick (w : Writer) (st : Stl) (v : Word)
  /-- WATCHDOG_EARLY (R232): The watchdog count reaches TMO / 2; WD_EARLY is set. -/
  | watchdogEarly (st : Stl)
  /-- WATCHDOG_EXPIRY (R232): The watchdog count reaches TMO; WD_EXP is set, STALL_WDT is raised and, with RST = 1, a WDT reset follows. -/
  | watchdogExpiry (st : Stl)
  /-- HOST_MAILBOX_POST (R234): The host writes MBX_INs and the word joins that identity's mailbox, or HOST_FULL is set. -/
  | hostMailboxPost (w : Writer) (st : Stl) (v : Word)
  /-- MAILBOX_POP (R234): MBX_CTRL.POP removes the oldest word of the host mailbox. -/
  | mailboxPop (w : Writer)
  /-- MAILBOX_FLUSH_HOST (R235): MBX_CTRL.FLUSH_HOST empties the host mailbox. -/
  | mailboxFlushHost (w : Writer)
  /-- MAILBOX_FLUSH_RX (R235): A FLUSH_RX bit empties that identity's receive mailbox. -/
  | mailboxFlushRx (w : Writer) (st : Stl)
  /-- INPUT_IN_RANGE (R241): An enabled input comes into its range and enters DEBOUNCE. -/
  | inputInRange (i : InputN)
  /-- INPUT_OUT_OF_RANGE (R241): A non-selected input leaves its range and goes to ABSENT. -/
  | inputOutOfRange (out : InputLeft)
  /-- INPUT_DEBOUNCE_END (R241): An input stays in range for 100 ms, becomes READY and may be selected. -/
  | inputDebounceEnd (ready : InputsSettled)
  /-- INPUT_UPGRADE (R247): A higher-priority input has been READY for 1 s and the selection moves to it. -/
  | inputUpgrade (i : InputN)
  /-- INPUT_LOSS (R243): The selected input crosses its loss or OV level, reverses current or loses its contract; its switch opens. -/
  | inputLoss (cause : LossCause)
  /-- INPUT_SWITCH_FAIL (R244): A closed input switch has not brought VIN within 300 mV after 1 ms; the input goes to FAULT. -/
  | inputSwitchFail (i : InputN)
  /-- SEARCH_STEP (R249): A T_STEP of the input-current search elapses and the limit is raised, lowered on a dip, or the search ends. -/
  | searchStep (vin0 vin reg : Nat)
  /-- SEARCH_RESTART (R251): PP_CTRL.SRCH_GO restarts the search on the selected DCIN input without opening its switch. -/
  | searchRestart (w : Writer)
  /-- SUPPLEMENT_START (R250): The input limit or floor binds, the battery carries the remainder and SUPPL is set. -/
  | supplementStart
  /-- SUPPLEMENT_END (R250): The battery has carried no current for 1 ms and SUPPL clears. -/
  | supplementEnd
  /-- BAT_GO (R254): PP_CTRL.BAT_GO starts the BATFET soft closure, or is ignored with BAT_CMD_BAD. -/
  | batGo (w : Writer)
  /-- BATFET_SOFTSTART_END (R254): VSYS comes within 200 mV of VBAT and the BATFET takes its R253 mode. -/
  | batfetSoftstartEnd
  /-- BATFET_SOFTSTART_FAIL (R254): VSYS is not within 1 V of VBAT after 50 ms; the BATFET reopens and BFET_SS_FAIL is set. -/
  | batfetSoftstartFail
  /-- CHARGER_PHASE_CHANGE (R255): VBAT crosses VPRE or VREG and the charger moves from PRECHARGE to FAST or from FAST to CV. -/
  | chargerPhaseChange (vbat : Nat)
  /-- CHARGE_TERMINATION (R255): Current stays below ITERM for 60 s in CV and the charger enters DONE. -/
  | chargeTermination
  /-- RECHARGE (R255): VBAT stays below VREG minus VRECHG for 10 s in DONE and the charger returns to FAST. -/
  | recharge
  /-- PRE_TMO_EXPIRY (R258): PRE_TMO expires in PRECHARGE and the charger enters FAULT. -/
  | preTmoExpiry
  /-- SAFE_TMO_EXPIRY (R258): SAFE_TMO expires in FAST or CV and the charger enters FAULT. -/
  | safeTmoExpiry
  /-- CHARGE_OVERCURRENT (R255): Charge current stays above its bound for 100 µs and the charger enters FAULT with CHG_OC. -/
  | chargeOvercurrent
  /-- CHG_CLR (R255): PP_CTRL.CHG_CLR leaves charger FAULT, or FAULT is re-entered at once. -/
  | chgClr (w : Writer) (now : ChgSense)
  /-- CHG_NEED (R259): In STANDBY, VBAT stays low for 10 s with an input qualified and CHG_NEED is raised. -/
  | chgNeed
  /-- PRESENCE_TEST_PERIOD (R260): PT_PERIOD, or 1 s while BATT_ABSENT, elapses and a presence test starts. -/
  | presenceTestPeriod
  /-- RETEST (R260): PP_CTRL.RETEST runs a presence test and leaves an input's FAULT. -/
  | retest (w : Writer)
  /-- PRESENCE_TEST_END (R260): A presence test ends PRESENT, ABSENT or SHORT and the BATFET takes its mode. -/
  | presenceTestEnd (r : PresenceResult)
  /-- BATTERY_REMOVAL (R262): Removal is detected while charging; charge stops, the BATFET opens and BATT_ABSENT is set. -/
  | batteryRemoval
  /-- BATTERY_UNDERVOLTAGE (R264): VBAT stays below CELLS × VBUV for 10 ms on the battery; BUV is set and R42 starts in HOLD or STANDBY. -/
  | batteryUndervoltage
  /-- DISCHARGE_OVERCURRENT (R265): Discharge current stays above IDIS_MAX for 1 ms and BATT_OCP is raised. -/
  | dischargeOvercurrent
  /-- DISCHARGE_SHORT (R265): Shunt voltage exceeds 80 mV for 5 µs and the BATFET opens. -/
  | dischargeShort
  /-- CONVERTER_RESTART (R267): 1 ms after a release that is not a reset, the converter restarts with its limit and targets. -/
  | converterRestart
  /-- TYPEC_ATTACH (R273): A partner's termination is debounced and the port attaches in its role. -/
  | typecAttach (x : PortN) (a : Attach)
  /-- TYPEC_DETACH (R292): The CC line is open for tPDDebounce; a source port opens its switch and discharges VBUS. -/
  | typecDetach (x : PortN)
  /-- DRP_TOGGLE (R273): The DRP toggle period switches the port between source and sink presentation. -/
  | drpToggle (x : PortN)
  /-- RP_LEVEL_CHANGE (R276): A source's new Rp level holds for tPDDebounce and the sink's levels and intake follow it. -/
  | rpLevelChange (x : PortN) (lvl : RpLevel)
  /-- SOURCE_CAP_TIMEOUT (R277): No Source_Capabilities arrives within 620 ms; the port sends Hard_Reset when safe or sets NO_PD. -/
  | sourceCapTimeout (x : PortN)
  /-- SOURCE_CAPABILITIES (R278): A Source_Capabilities or EPR_Source_Capabilities is received, stored and answered with a Request chosen by the sink policy. -/
  | sourceCapabilities (x : PortN) (rev3 epr : Bool) (pdos : List Word)
  /-- ACCEPT_MESSAGE (R279): An Accept is received and the transition limits of R276 apply. -/
  | acceptMessage (x : PortN)
  /-- REJECT_MESSAGE (R279): A Reject is received and the previous contract stays in force. -/
  | rejectMessage (x : PortN)
  /-- WAIT_MESSAGE (R279): A Wait is received; the previous contract stays and a new request is scheduled. -/
  | waitMessage (x : PortN)
  /-- WAIT_RETRY (R279): 100 ms after a Wait, the port requests again, or after three Waits requests 5 V. -/
  | waitRetry (x : PortN)
  /-- PS_RDY (R279): PS_RDY is received and the new contract takes effect in PORTx_CONTRACT. -/
  | psRdy (x : PortN)
  /-- REQUEST_MESSAGE (R282): As source, a Request or EPR_Request is accepted if within an offered object, otherwise rejected. -/
  | requestMessage (x : PortN) (rev3 epr : Bool) (rdo : Word)
  /-- GET_SOURCE_CAP (R289): A Get_Source_Cap is received and answered. -/
  | getSourceCap (x : PortN)
  /-- GET_SINK_CAP (R289): A Get_Sink_Cap is received and answered. -/
  | getSinkCap (x : PortN)
  /-- PR_SWAP (R287): An incoming PR_Swap is accepted or rejected by PRS_POL and role. -/
  | prSwap (x : PortN)
  /-- DR_SWAP (R287): An incoming DR_Swap is accepted when DRS_EN = 1. -/
  | drSwap (x : PortN)
  /-- VCONN_SWAP (R284): An incoming VCONN_Swap is accepted or rejected by VCONN state and VCONN_EN. -/
  | vconnSwap (x : PortN)
  /-- SOFT_RESET_MESSAGE (R289): A Soft_Reset is received and handled by the policy engine. -/
  | softResetMessage (x : PortN)
  /-- PING_MESSAGE (R289): A Ping is received. -/
  | pingMessage (x : PortN)
  /-- HARD_RESET_RECEIVED (R290): A Hard_Reset is received; a sink ends its contract as a loss, a source restores vSafe5V after discharge. -/
  | hardResetReceived (x : PortN)
  /-- SOURCE_HARD_RESET_RESTORE (R290): 700 ms after discharging VBUS to vSafe0V, a source port restores vSafe5V. -/
  | sourceHardResetRestore (x : PortN)
  /-- EPR_MODE_MESSAGE (R281): An EPR_Mode message advances the EPR entry or exit sequence. -/
  | eprModeMessage (x : PortN) (action : BitVec 8)
  /-- EPR_KEEPALIVE_TIMER (R281): 375 ms elapse in EPR mode and EPR_KeepAlive is sent. -/
  | eprKeepaliveTimer (x : PortN)
  /-- EPR_EXIT (R281): EPR_EN written 0 makes the port request an SPR object and send EPR_Mode Exit. -/
  | eprExit (w : Writer) (x : PortN)
  /-- PPS_REFRESH (R280): 8 s elapse under a PPS contract and the Request is repeated. -/
  | ppsRefresh (x : PortN)
  /-- PPS_WRITE (R280): A PORTx_PPS write under a PPS contract causes a new Request, held until PS_RDY during a transition. -/
  | ppsWrite (w : Writer) (x : PortN) (v : Word)
  /-- BIST_MESSAGE (R289): A BIST message starts Carrier Mode or Test Data. -/
  | bistMessage (x : PortN) (carrier : Bool)
  /-- DISCOVER_IDENTITY_REPLY (R284): A cable's Discover Identity reply is received and reported in PORTx_CABLE. -/
  | discoverIdentityReply (x : PortN) (ack eprCap : Bool) (icap vmax : BitVec 2)
  /-- UNSUPPORTED_MESSAGE (R289): A message outside the handled set is answered with Not_Supported and NSUP is set. -/
  | unsupportedMessage (x : PortN)
  /-- SOURCE_SUPPLY_READY (R282): At source attach, Px_VSRC reaches 4.75–5.50 V; the source switch closes, VCONN is applied and capabilities are sent. -/
  | sourceSupplyReady (x : PortN)
  /-- SOURCE_SETTLED (R283): VBUS stays within ±5 % of the new voltage for 1 ms and PS_RDY is sent. -/
  | sourceSettled (x : PortN)
  /-- SOURCE_SETTLE_TIMEOUT (R283): A source transition takes longer than 250 ms; Hard_Reset is sent and SETTLE_FAIL set. -/
  | sourceSettleTimeout (x : PortN)
  /-- VBUS_SINK_OV (R286): VBUS exceeds the sink OV level, a loss follows and three trips in 60 s put the port in DISABLED. -/
  | vbusSinkOv (x : PortN)
  /-- SOURCE_OVERCURRENT (R285): Source current exceeds its limit for 5 ms and the port opens its source switch and recovers. -/
  | sourceOvercurrent (x : PortN)
  /-- SOURCE_SHORT (R285): Source current exceeds twice the offer plus 1 A for 10 µs and the port recovers. -/
  | sourceShort (x : PortN)
  /-- SOURCE_OVERVOLTAGE (R285): VBUS exceeds 1.15 × the present voltage for 10 µs and the port recovers. -/
  | sourceOvervoltage (x : PortN)
  /-- SOURCE_REVERSE_CURRENT (R285): VBUS exceeds Px_VSRC + 20 mV for 1 µs and the port recovers. -/
  | sourceReverseCurrent (x : PortN)
  /-- ERROR_RECOVERY_END (R285): The 25 ms ErrorRecovery rest ends and the port attaches afresh. -/
  | errorRecoveryEnd (x : PortN)
  /-- CC_OVERVOLTAGE (R285): A CC line exceeds 6.0 V and terminations and VCONN are disconnected. -/
  | ccOvervoltage (x : PortN)
  /-- CC_OV_RECOVERY (R285): Both CC lines stay below 5.5 V for 10 ms and the port leaves ErrorRecovery. -/
  | ccOvRecovery (x : PortN)
  /-- VCONN_OVERCURRENT (R285): VCONN current exceeds 250 mA for 100 µs and VCONN is turned off until detach. -/
  | vconnOvercurrent (x : PortN)
  /-- SWAP_RETRY (R288): After a colliding swap met Wait, a random 100–300 ms delay ends and the swap may be retried. -/
  | swapRetry (x : PortN)
  /-- DISCHARGE_TIMEOUT (R292): VBUS is still above 0.8 V 650 ms after a source detach; SETTLE_FAIL is set. -/
  | dischargeTimeout (x : PortN)
  /-- CMD_RENEGOTIATE (R295): PORTx_CTRL command 1 sends Get_Source_Cap as sink or Source_Capabilities as source. -/
  | cmdRenegotiate (w : Writer) (x : PortN)
  /-- CMD_PR_SWAP (R295): PORTx_CTRL command 2 sends PR_Swap. -/
  | cmdPrSwap (w : Writer) (x : PortN)
  /-- CMD_DR_SWAP (R295): PORTx_CTRL command 3 sends DR_Swap. -/
  | cmdDrSwap (w : Writer) (x : PortN)
  /-- CMD_HARD_RESET (R295): PORTx_CTRL command 4 sends Hard_Reset. -/
  | cmdHardReset (w : Writer) (x : PortN)
  /-- CMD_CLR_LATCH (R286): PORTx_CTRL command 6 leaves the DISABLED state. -/
  | cmdClrLatch (w : Writer) (x : PortN)
  /-- PORT_COMMAND_RELEASE (R295): A held port command or configuration write is acted on when the exchange under way ends. -/
  | portCommandRelease (x : PortN)
  /-- GAUGE_UPDATE (R301): Every second the gauge predicts and corrects its state, updates user charge, levels and cell checks. -/
  | gaugeUpdate (m : GaugeSample)
  /-- RELAXED_REFERENCE (R302): Current stays below I_REST for 30 min, or a further 60 min, and a relaxed reference is applied. -/
  | relaxedReference (rest : RestSense)
  /-- REF_STALE_SET (R304): 72 h pass with no accepted reference; REF_STALE is set and GG_STALE raised. -/
  | refStaleSet
  /-- NEW_PACK (R311): GG_CTRL.NEW_PACK resets Q_FC to DESIGN, restarts the estimate and writes a LEARN record, or is ignored in HOLD. -/
  | newPack (w : Writer)
  /-- JOURNAL_WRITE_DONE (R312): A gauge journal record write completes in its slot. -/
  | journalWriteDone (ok : Bool)
  /-- GAUGE_START_ESTIMATE (R315): After a cold reset the gauge takes its saved record and open-circuit voltage, and VALID is set within 150 ms. -/
  | gaugeStartEstimate (v : Nat) (shunt : Int)
  /-- LEDGER_WINDOW_EXPIRY (R323): A source's counting window has been open for WIN without escalation; COUNT returns to 0. -/
  | ledgerWindowExpiry (n : SrcN)
  /-- QUIET_PERIOD_END (R326): A fenced unit's quiet period ends; it is readmitted below RCV_MAX, otherwise WAIT_HOST is set. -/
  | quietPeriodEnd (n : SrcN)
  /-- HOST_ADMIT (R327): The host writes LG_ADMIT with ADMIT = 1 and the unit is readmitted without changing RCV. -/
  | hostAdmit (w : Writer) (n : SrcN)
  /-- RCV_CLR (R327): The host writes LG_ADMIT with RCV_CLR = 1 and the source's recovery counter returns to 0. -/
  | rcvClr (w : Writer) (n : SrcN)
  /-- STICKY_CLEAR (R324): A write of 1 to an LG_STICKY bit clears it and its CUR_CLASS and ESC, unless grave. -/
  | stickyClear (w : Writer) (j : Fin 4) (v : Word)
  /-- FLTBUS_IN (R330): FLTBUS_N reads low for 1 µs while this part does not drive it and FLTBUS_IN is raised. -/
  | fltbusIn
  /-- BACKUP_DOMAIN_RESET (R333): The backup domain's supply falls below its retention threshold and every K field resets. -/
  | backupDomainReset
  /-- SUPPLY_CHANGEOVER (R333): The backup domain changes between VAO and VBKUP without losing state or ticks. -/
  | supplyChangeover (toBackup : Bool)
  /-- VBKUP_LOW (R334): VBKUP falls below its low threshold and VBKUP_LOW is set and raised. -/
  | vbkupLow
  /-- CRYSTAL_LOSS (R336): No crystal edge arrives within 8 RC periods; the slow clock moves to the RC and XTAL_LOST is raised. -/
  | crystalLoss
  /-- CRYSTAL_RETURN (R336): The crystal runs for 32 768 ticks within ±2 % and the slow clock returns to it. -/
  | crystalReturn
  /-- TRIM_WINDOW (R339): A 2^20-tick trim window starts; the domain measures its temperature and latches the trim n. -/
  | trimWindow (temp : Int)
  /-- BACKUP_WRITE_SYNC (R343): A write to a backup-domain register reaches the domain and SYNC_BUSY clears. -/
  | backupWriteSync
  /-- RTC_SET (R344): RTC_SETH is written with GO = 1, requesting a time load. -/
  | rtcSet (w : Writer) (hi : BitVec 24)
  /-- RTC_TIME_LOAD (R344): At the first tick after both set writes reach the domain, the seconds count takes the new value and UNSET clears. -/
  | rtcTimeLoad
  /-- ALARM_FIRE (R345): The seconds count reaches the armed alarm value; ALM_FLAG sets, EN clears and a wake may follow. -/
  | alarmFire
  /-- PWRBTN_PRESS (R347): PWRBTN_N stays low for 3277 slow ticks; BTN is set and in SHIP or SHIP_PEND the press wakes or cancels. -/
  | pwrbtnPress
  /-- SOFTWARE_PEND (R354): A write of 1 to IS_PSETj sets a source's software latch. -/
  | softwarePend (w : Writer) (j : Fin 8) (v : Word)
  /-- SOFTWARE_CLEAR (R354): A write of 1 to IS_PCLRj clears a source's software latch and pending state. -/
  | softwareClear (w : Writer) (j : Fin 8) (v : Word)
  /-- IRQ_CLAIM (R356): A read of ICt_CLAIM by the target's server returns and activates the highest-priority presentable source. -/
  | irqClaim (w : Writer) (t : Target)
  /-- IRQ_COMPLETE (R357): A write to ICt_COMPLETE ends the service of an active source, or sets COMP_BAD. -/
  | irqComplete (w : Writer) (t : Target) (v : Word)
  /-- TIMER_MATCH (R360): A timer tick makes the count equal M; MATCH_F sets, the pin action applies and the timer may stop. -/
  | timerMatch (n : TmrN)
  /-- TIMER_OVERFLOW (R360): A timer tick wraps the count to 0; OVF_F sets, the pin action applies and the timer may stop. -/
  | timerOverflow (n : TmrN)
  /-- TIMER_START (R362): A write of RUN = 1 starts a timer from its present count. -/
  | timerStart (w : Writer) (n : TmrN)
  /-- TIMER_STOP (R362): A write of RUN = 0 stops a timer and the count holds. -/
  | timerStop (w : Writer) (n : TmrN)
  /-- GSTART (R362): TM_GLOBAL.GSTART starts every armed timer on one edge. -/
  | gstart (w : Writer)
  /-- GSTOP (R362): TM_GLOBAL.GSTOP stops every armed timer on one edge. -/
  | gstop (w : Writer)
  /-- TIMER_MAT_HI_WRITE (R364): A MAT_HI write commits the match shadow at the next tick, or at once while stopped. -/
  | timerMatHiWrite (w : Writer) (n : TmrN) (v : Word)
  /-- TIMER_COUNT_READ (R363): A count read while running returns all ones and sets RD_RUN_ERR. -/
  | timerCountRead (w : Writer) (n : TmrN) (hi : Bool)
  /-- SPI_READ_FRAME (R371): A 0x0B read frame reads n words in ascending order and sends them with a frame CRC. -/
  | spiReadFrame (addr : BitVec 16) (burst hdrCrc : BitVec 8) (early : Nat)
  /-- SPI_WRITE_FRAME (R370): A 0x02 write frame is checked at CS_N rising and its words are applied, or none on a CRC failure. -/
  | spiWriteFrame (addr : BitVec 16) (burst : BitVec 8) (words : List Word) (crc : BitVec 8)
  /-- SPI_STATUS_FRAME (R372): A 0x05 status frame returns the status byte. -/
  | spiStatusFrame (hdrCrc : BitVec 8) (early : Bool)
  /-- SPI_FRAME_BAD (R373): An ill-formed SPI frame is discarded whole and FRAME_BAD is set. -/
  | spiFrameBad (kind : SpiBad)
  /-- MFR_REG_PTR (R376): SMBus command 0xD0 writes or reads the register pointer. -/
  | mfrRegPtr (wr : Option (BitVec 16)) (pec : Option (BitVec 8))
  /-- MFR_REG_DATA_WRITE (R376): A Block Write of 0xD1 writes n words at the pointer, or none on a bad count or PEC. -/
  | mfrRegDataWrite (data : List (BitVec 8)) (pec : Option (BitVec 8))
  /-- MFR_REG_DATA_READ (R376): A Block Read of 0xD1 reads RD_WORDS words at the pointer. -/
  | mfrRegDataRead
  /-- MFR_REG_LEN (R376): SMBus command 0xD2 writes or reads RD_WORDS. -/
  | mfrRegLen (wr : Option (BitVec 8)) (pec : Option (BitVec 8))
  /-- SMBUS_TIMEOUT (R375): SCL stays low for 25 ms; the transaction is abandoned and TIMEOUT is set. -/
  | smbusTimeout
  /-- PAGE (R378): PMBus PAGE selects a loop page, channel page or all pages. -/
  | page (wr : Option (BitVec 8)) (pec : Option (BitVec 8))
  /-- CLEAR_FAULTS (R379): CLEAR_FAULTS clears the status latches of the page or of every page. -/
  | clearFaults (pec : Option (BitVec 8))
  /-- CAPABILITY (R379): Returns 0xD0. -/
  | capability
  /-- VOUT_MODE (R379): Returns 0x14, LINEAR16 with exponent −12. -/
  | voutMode
  /-- VOUT_COMMAND (R379): Reads a loop's TARGET in LINEAR16; a write is NACKed. -/
  | voutCommand (wr : Bool)
  /-- VOUT_OV_FAULT_LIMIT (R379): Reads the voltage channel's OVF threshold. -/
  | voutOvFaultLimit (wr : Bool)
  /-- VOUT_OV_WARN_LIMIT (R379): Reads the voltage channel's OVW threshold. -/
  | voutOvWarnLimit (wr : Bool)
  /-- VOUT_UV_WARN_LIMIT (R379): Reads the voltage channel's UVW threshold. -/
  | voutUvWarnLimit (wr : Bool)
  /-- VOUT_UV_FAULT_LIMIT (R379): Reads the voltage channel's UVF threshold. -/
  | voutUvFaultLimit (wr : Bool)
  /-- STATUS_BYTE (R380): Returns the low byte of STATUS_WORD. -/
  | statusByte
  /-- STATUS_WORD (R380): Returns the page's status word. -/
  | statusWord
  /-- STATUS_VOUT (R380): Reads or clears the page's voltage status latches. -/
  | statusVout (wr : Option (BitVec 8)) (pec : Option (BitVec 8))
  /-- STATUS_IOUT (R380): Reads or clears the page's current status latches. -/
  | statusIout (wr : Option (BitVec 8)) (pec : Option (BitVec 8))
  /-- STATUS_TEMPERATURE (R380): Reads or clears the page's temperature status latches. -/
  | statusTemperature (wr : Option (BitVec 8)) (pec : Option (BitVec 8))
  /-- STATUS_CML (R379): Reads or clears the link-wide communication status. -/
  | statusCml (wr : Option (BitVec 8)) (pec : Option (BitVec 8))
  /-- READ_VOUT (R381): Returns the voltage channel's VALUE in LINEAR16. -/
  | readVout
  /-- READ_IOUT (R381): Returns the shunt channel's current in LINEAR11. -/
  | readIout
  /-- PMBUS_REVISION (R379): Returns 0x44. -/
  | pmbusRevision
  /-- MFR_ID (R379): Returns "LALVO". -/
  | mfrId
  /-- MFR_MODEL (R379): Returns "SCN4192". -/
  | mfrModel
  /-- MFR_REVISION (R379): Returns DEV_ID.REV as two ASCII hex digits. -/
  | mfrRevision
  /-- MFR_READ_RAW (R379): Returns CHn_DATA of the page's voltage channel. -/
  | mfrReadRaw
  /-- PMBUS_INVALID_COMMAND (R379): An unsupported command code is NACKed and STATUS_CML bit 7 is set. -/
  | pmbusInvalidCommand (code : BitVec 8)
  /-- ALERT_RESPONSE (R382): An Alert Response Address read is answered and SMBALERT_N released when this part wins arbitration. -/
  | alertResponse (win : Bool)
  /-- LIFECYCLE_REQUEST (R387): A SEC_LC_REQ write with KEY 0x4C requests the next lifecycle step, or sets REQ_BAD. -/
  | lifecycleRequest (w : Writer) (v : Word)
  /-- LIFECYCLE_OTP_DONE (R387): The lifecycle OTP bit is programmed and a HOST reset follows. -/
  | lifecycleOtpDone
  /-- OTP_HASH_PROGRAM (R389): A SEC_OTP_CMD write programs a key hash from SEC_HASHBUF, or sets BAD. -/
  | otpHashProgram (w : Writer) (v : Word)
  /-- OTP_HASH_DONE (R389): Key-hash programming completes and HASH_SET shows it. -/
  | otpHashDone
  /-- DEBUG_OPEN (R394): The DBG command OPEN opens a session in FAB, DEVELOP or RETURN and raises DEBUG_OPEN. -/
  | debugOpen
  /-- DEBUG_CHALLENGE (R394): The DBG command CHALLENGE draws a nonce into SEC_NONCE. -/
  | debugChallenge
  /-- DEBUG_RESPONSE (R394): A debugger response with scope, key and signature is received for verification. -/
  | debugResponse (scope : BitVec 8) (key sig : BitVec 512)
  /-- DEBUG_RESPONSE_VERIFIED (R394): Verification completes; the session opens with its scope or FAILS rises. -/
  | debugResponseVerified
  /-- NONCE_EXPIRY (R394): 60 s pass after a challenge and the nonce is spent. -/
  | nonceExpiry
  /-- DEBUG_CLOSE (R395): The DBG command CLOSE ends the session, resuming halted stalls and removing perturbations. -/
  | debugClose
  /-- TRST_LOW (R395): TRST_N is driven low and the debug session ends. -/
  | trstLow
  /-- DEBUG_HALT (R398): A halt request stops an identity at its next retirement. -/
  | debugHalt (st : Stl)
  /-- DEBUG_STEP (R398): A step runs one instruction of a halted identity. -/
  | debugStep (st : Stl)
  /-- IDCODE (R394): The TAP IDCODE instruction reads 0x1419_2B43. -/
  | idcode
  /-- EXTEST (R399): EXTEST halts every stall and lets the boundary register drive pins, or is refused as BYPASS. -/
  | extest
  /-- TPERT_APPLY (R400): A TPERT write applies a perturbation, raises TPERT_ON and increments APPLIED. -/
  | tpertApply (w : Writer) (addr : BitVec 16) (v : Word)
  /-- TPERT_LOCKSTEP_ONESHOT (R400): A LOCK_MM bit forces one mismatch of an identity at its next retirement. -/
  | tpertLockstepOneshot (w : Writer) (v : Word)
  /-- TPERT_REF_FAIL (R400): A REF_FAIL bit forces one failed reference check of a converter. -/
  | tpertRefFail (w : Writer) (v : Word)
  /-- NVM_WINDOW_WRITE (R409): A window write is accepted into the 16-word NVM queue, or dropped when the queue is full. -/
  | nvmWindowWrite (w : Writer) (off : BitVec 14) (v : Word)
  /-- NVM_UNIT_WRITE_DONE (R409): A 64-byte NVM unit write completes, is read back and the next queued unit starts. -/
  | nvmUnitWriteDone (ok : Bool)
  /-- BOOT_CFG_WRITE (R406): A BOOT_CFG write is queued to NVM and takes effect at the next boot. -/
  | bootCfgWrite (w : Writer) (v : Word)
  /-- REGISTER_WRITE (R9): A write to a register without a row of its own acts on each field by its type, subject to protection and locks. -/
  | registerWrite (w : Writer) (addr : BitVec 16) (v : Word)
  /-- PORT_FEED_ENTRY (R252): A selected cable-port input has its switch closed and its converter running, enters FEED and is qualified, which can clear ON_BATT, end HOLD after the dwell and clear the empty or ship flag. -/
  | portFeedEntry (x : PortN)
  /-- VBUS_DISCHARGED (R292): VBUS falls below vSafe0V (0.8 V), or below the new voltage + 5 % in a falling transition, and the source port releases Px_DSC, starting the 700 ms wait of a source hard reset. -/
  | vbusDischarged (x : PortN)
  /-- FLTBUS_N_HIGH (R330): FLTBUS_N has read high for 1 µs, re-arming the FLTBUS_IN detector so that a later low raises it again. -/
  | fltbusNHigh
  /-- VBKUP_LOW_CLEAR (R334): VBKUP rises back above the VBKUP_LOW threshold plus its hysteresis and BK_STAT.VBKUP_LOW clears. -/
  | vbkupLowClear
  /-- TIMER_MATCH_COMMIT (R364): At the next tick after a MAT_HI write to a running timer, the match shadow moves into M and MAT_PEND clears. -/
  | timerMatchCommit (n : TmrN)
  /-- DEBUG_LOCKOUT_END (R394): 10 s after a failed debug response, CHALLENGE is accepted again. -/
  | debugLockoutEnd
  /-- EXTENDED_CONTROL_MESSAGE (R289): An Extended_Control message (EPR_Get_Source_Cap, EPR_Get_Sink_Cap, EPR_KeepAlive or EPR_KeepAlive_Ack) is received and handled by the policy engine. -/
  | extendedControlMessage (x : PortN) (kind : BitVec 8)
  /-- SINK_CAPABILITIES_MESSAGE (R289): A Sink_Capabilities data message is received and handled by the policy engine. -/
  | sinkCapabilitiesMessage (x : PortN) (pdos : List Word)
  /-- NOT_SUPPORTED_MESSAGE (R289): A Not_Supported control message from the partner is received and handled by the policy engine. -/
  | notSupportedMessage (x : PortN)
  deriving DecidableEq, Repr

end Sys2Proof
end

