-- ==== Sys2Proof/Decode.lean ====
section
/-! DEFINITION. The Tarragon instruction words (R168 to R172): a decoder, total on any word, and an encoder. A decoded instruction is a
command of the identity that meets the word. The table of commands gives no bits, so `decodeTableWord` spells none. -/

namespace Sys2Proof

/-- The register number at a bit of a word (R168). -/
def regAt (n k : Nat) : RegN := Fin.ofNat 16 (n / 2 ^ k)

/-- Format A (R168). -/
def fmtA (n : Nat) (f : RegN → RegN → RegN → Instr) : Option Instr :=
  if n % 2 ^ 14 = 0 then some (f (regAt n 22) (regAt n 18) (regAt n 14)) else none

/-- Format B (R168). -/
def fmtB (n : Nat) (f : RegN → RegN → BitVec 14 → Instr) : Option Instr :=
  if n / 2 ^ 14 % 16 = 0 then some (f (regAt n 22) (regAt n 18) (BitVec.ofNat 14 n)) else none

/-- Format C (R168). -/
def fmtC (n : Nat) (f : RegN → BitVec 20 → Instr) : Option Instr :=
  if n / 2 ^ 20 % 4 = 0 then some (f (regAt n 22) (BitVec.ofNat 20 n)) else none

/-- Format D (R168). -/
def fmtD (n : Nat) (f : BitVec 4 → BitVec 20 → Instr) : Option Instr :=
  if n / 2 ^ 20 % 4 = 0 then some (f (BitVec.ofNat 4 (n / 2 ^ 22)) (BitVec.ofNat 20 n)) else none

/-- A unit class that R172 lists. -/
def classOk (c : Nat) : Bool := 1 ≤ c && c ≤ 5

/-- Format E (R168), with a class that R172 lists. -/
def fmtE (n : Nat) (f : BitVec 4 → BitVec 8 → RegN → Instr) : Option Instr :=
  if n % 2 ^ 10 = 0 ∧ classOk (n / 2 ^ 22 % 16) then some (f (BitVec.ofNat 4 (n / 2 ^ 22)) (BitVec.ofNat 8 (n / 2 ^ 14)) (regAt n 10)) else none

/-- Format E of an instruction that does not use rp (R172). -/
def fmtE0 (n : Nat) (f : BitVec 4 → BitVec 8 → Instr) : Option Instr :=
  if n / 2 ^ 10 % 16 = 0 then fmtE n (fun c u _ => f c u) else none

/-- A wait selector that R181 lists. -/
def selOk (sel : Nat) : Bool := sel ≤ 20

/-- Format W (R168), with a selector that R181 lists. -/
def fmtW (n : Nat) (f : Bool → BitVec 5 → RegN → BitVec 16 → Instr) : Option Instr :=
  if selOk (n / 2 ^ 21 % 32) then some (f (n.testBit 20) (BitVec.ofNat 5 (n / 2 ^ 21)) (regAt n 16) (BitVec.ofNat 16 n)) else none

/-- An instruction without a field: every bit but the opcode is 0. -/
def fmt0 (n : Nat) (i : Instr) : Option Instr := if n % 2 ^ 26 = 0 then some i else none

/-- A register field that the instruction does not use is s0. -/
def unused (n k : Nat) (r : Option Instr) : Option Instr := if n / 2 ^ k % 16 = 0 then r else none

/-- The immediate of a shift: bits 13:5 are 0 (R169). -/
def shiftImm (n : Nat) (r : Option Instr) : Option Instr := if n % 2 ^ 14 < 32 then r else none

/-- The instruction that a word is for identity st (R168, R171); none for an ILLEGAL word. -/
def decode (st : Stl) (w : Word) : Option Instr :=
  let n := w.toNat
  match n / 2 ^ 26 with
  | 0x01 => fmtA n (.tAdd st)
  | 0x02 => fmtA n (.tSub st)
  | 0x03 => fmtA n (.tAnd st)
  | 0x04 => fmtA n (.tOr st)
  | 0x05 => fmtA n (.tXor st)
  | 0x06 => fmtA n (.tShl st)
  | 0x07 => fmtA n (.tShr st)
  | 0x08 => fmtA n (.tAsr st)
  | 0x09 => fmtA n (.tMul16 st)
  | 0x0A => unused n 22 (fmtA n (fun _ ra rb => .tCmp st ra rb))
  | 0x0B => unused n 22 (unused n 14 (fmtA n (fun _ ra _ => .tJr st ra)))
  | 0x0C => fmtB n (.tAddi st)
  | 0x0D => fmtB n (.tAndi st)
  | 0x0E => fmtB n (.tOri st)
  | 0x0F => fmtB n (.tXori st)
  | 0x10 => shiftImm n (fmtB n (.tShli st))
  | 0x11 => shiftImm n (fmtB n (.tShri st))
  | 0x12 => shiftImm n (fmtB n (.tAsri st))
  | 0x13 => unused n 22 (fmtB n (fun _ ra imm => .tCmpi st ra imm))
  | 0x14 => fmtC n (.tLdi st)
  | 0x15 => fmtC n (.tLui st)
  | 0x16 => fmtB n (.tLd st)
  | 0x17 => fmtB n (.tSt st)
  | 0x18 => fmtB n (.tPin st)
  | 0x19 => fmtB n (.tPout st)
  | 0x1A => fmtD n (.tBr st)
  | 0x1B => fmtD n (.tCall st)
  | 0x1C => fmt0 n (.tRet st)
  | 0x1D => fmtW n (.tWait st)
  | 0x1E => fmtW n (.tWaitt st)
  | 0x1F => unused n 18 (unused n 14 (fmtA n (fun rd _ _ => .tRdt st rd)))
  | 0x20 => fmtE n (.tRamp st)
  | 0x21 => fmtE0 n (.tEnab st)
  | 0x22 => fmtE0 n (.tDisb st)
  | 0x23 => fmtE0 n (.tFence st)
  | 0x24 => fmtE0 n (.tAdmit st)
  | 0x25 => fmtB n (.tMeas st)
  | 0x26 => fmtA n (.tMeasb st)
  | 0x27 => fmtB n (.tJudge st)
  | 0x28 => fmtB n (.tLog st)
  | 0x29 => fmtA n (.tLogb st)
  | 0x2A => unused n 22 (fmtB n (fun _ ra imm => .tRaise st ra imm))
  | 0x2B => fmtB n (.tSend st)
  | 0x2C => unused n 18 (fmtB n (fun rd _ imm => .tRecv st rd imm))
  | 0x2D => fmt0 n (.tSeal st)
  | 0x2E => fmt0 n (.tYield st)
  | 0x2F => fmt0 n (.tHalt st)
  | 0x30 => fmtA n (.tCopyb st)
  | _ => none

/-- Words of the formats (R168). -/
def wordA (op : Nat) (rd ra rb : RegN) : Word := BitVec.ofNat 32 (op * 2 ^ 26 + rd.val * 2 ^ 22 + ra.val * 2 ^ 18 + rb.val * 2 ^ 14)
def wordB (op : Nat) (rd ra : RegN) (imm : BitVec 14) : Word := BitVec.ofNat 32 (op * 2 ^ 26 + rd.val * 2 ^ 22 + ra.val * 2 ^ 18 + imm.toNat)
def wordC (op : Nat) (rd : RegN) (imm : BitVec 20) : Word := BitVec.ofNat 32 (op * 2 ^ 26 + rd.val * 2 ^ 22 + imm.toNat)
def wordD (op : Nat) (cond : BitVec 4) (off : BitVec 20) : Word := BitVec.ofNat 32 (op * 2 ^ 26 + cond.toNat * 2 ^ 22 + off.toNat)
def wordE (op : Nat) (cls : BitVec 4) (unit : BitVec 8) (rp : RegN) : Word :=
  BitVec.ofNat 32 (op * 2 ^ 26 + cls.toNat * 2 ^ 22 + unit.toNat * 2 ^ 14 + rp.val * 2 ^ 10)
def wordW (op : Nat) (inv : Bool) (sel : BitVec 5) (reg : RegN) (imm : BitVec 16) : Word :=
  BitVec.ofNat 32 (op * 2 ^ 26 + sel.toNat * 2 ^ 21 + inv.toNat * 2 ^ 20 + reg.val * 2 ^ 16 + imm.toNat)

/-- The identity and the word of a Tarragon instruction (R168, R171); none for a command that is none. -/
def encode (i : Instr) : Option (Stl × Word) :=
  match i with
  | .tAdd st rd ra rb => some (st, wordA 0x01 rd ra rb)
  | .tSub st rd ra rb => some (st, wordA 0x02 rd ra rb)
  | .tAnd st rd ra rb => some (st, wordA 0x03 rd ra rb)
  | .tOr st rd ra rb => some (st, wordA 0x04 rd ra rb)
  | .tXor st rd ra rb => some (st, wordA 0x05 rd ra rb)
  | .tShl st rd ra rb => some (st, wordA 0x06 rd ra rb)
  | .tShr st rd ra rb => some (st, wordA 0x07 rd ra rb)
  | .tAsr st rd ra rb => some (st, wordA 0x08 rd ra rb)
  | .tMul16 st rd ra rb => some (st, wordA 0x09 rd ra rb)
  | .tCmp st ra rb => some (st, wordA 0x0A 0 ra rb)
  | .tJr st ra => some (st, wordA 0x0B 0 ra 0)
  | .tAddi st rd ra imm => some (st, wordB 0x0C rd ra imm)
  | .tAndi st rd ra imm => some (st, wordB 0x0D rd ra imm)
  | .tOri st rd ra imm => some (st, wordB 0x0E rd ra imm)
  | .tXori st rd ra imm => some (st, wordB 0x0F rd ra imm)
  | .tShli st rd ra imm => some (st, wordB 0x10 rd ra imm)
  | .tShri st rd ra imm => some (st, wordB 0x11 rd ra imm)
  | .tAsri st rd ra imm => some (st, wordB 0x12 rd ra imm)
  | .tCmpi st ra imm => some (st, wordB 0x13 0 ra imm)
  | .tLdi st rd imm => some (st, wordC 0x14 rd imm)
  | .tLui st rd imm => some (st, wordC 0x15 rd imm)
  | .tLd st rd ra imm => some (st, wordB 0x16 rd ra imm)
  | .tSt st rd ra imm => some (st, wordB 0x17 rd ra imm)
  | .tPin st rd ra imm => some (st, wordB 0x18 rd ra imm)
  | .tPout st rd ra imm => some (st, wordB 0x19 rd ra imm)
  | .tBr st cond off => some (st, wordD 0x1A cond off)
  | .tCall st cond off => some (st, wordD 0x1B cond off)
  | .tRet st => some (st, wordA 0x1C 0 0 0)
  | .tWait st inv sel ra tmo => some (st, wordW 0x1D inv sel ra tmo)
  | .tWaitt st inv sel ra imm => some (st, wordW 0x1E inv sel ra imm)
  | .tRdt st rd => some (st, wordA 0x1F rd 0 0)
  | .tRamp st cls unit rp => some (st, wordE 0x20 cls unit rp)
  | .tEnab st cls unit => some (st, wordE 0x21 cls unit 0)
  | .tDisb st cls unit => some (st, wordE 0x22 cls unit 0)
  | .tFence st cls unit => some (st, wordE 0x23 cls unit 0)
  | .tAdmit st cls unit => some (st, wordE 0x24 cls unit 0)
  | .tMeas st rd ra imm => some (st, wordB 0x25 rd ra imm)
  | .tMeasb st rd ra rb => some (st, wordA 0x26 rd ra rb)
  | .tJudge st rd ra imm => some (st, wordB 0x27 rd ra imm)
  | .tLog st rd ra imm => some (st, wordB 0x28 rd ra imm)
  | .tLogb st rd ra rb => some (st, wordA 0x29 rd ra rb)
  | .tRaise st ra imm => some (st, wordB 0x2A 0 ra imm)
  | .tSend st rd ra imm => some (st, wordB 0x2B rd ra imm)
  | .tRecv st rd imm => some (st, wordB 0x2C rd 0 imm)
  | .tSeal st => some (st, wordA 0x2D 0 0 0)
  | .tYield st => some (st, wordA 0x2E 0 0 0)
  | .tHalt st => some (st, wordA 0x2F 0 0 0)
  | .tCopyb st rd ra rb => some (st, wordA 0x30 rd ra rb)
  | _ => none

/-- The command that a word of the table's bits spells: the table gives its rows no bits, so none. -/
def decodeTableWord (_nbits _w : Nat) : Option Instr := none

end Sys2Proof
end

