-- ==== Sys2Proof/Config.lean ====
section
/-! DEFINITION. What the spec leaves open: free values, and the mathematics it names without giving (hash and signature). Each is opaque,
so that no proof can see a value of it. -/

namespace Sys2Proof.Config
open Sys2Proof

/-- SHA-256 of a byte string (R64, R390): named by the spec, not given by it (DESIGN CHOICE, log 6). -/
opaque sha256 : List (BitVec 8) → BitVec 256

/-- Whether an ECDSA P-256 signature verifies a digest under a public key (R390, R394; DESIGN CHOICE, log 6). -/
opaque ecdsa : BitVec 512 → BitVec 256 → BitVec 512 → Bool

/-- A free value: nothing constrains it (DESIGN CHOICE, log 3). -/
opaque freeValue : Nat → BitVec 128

end Sys2Proof.Config
end

