-- ==== Sys2Proof/Machine/State.lean ====
section
/-! DEFINITION. The state of the part as plain data, and the reasons a step can stop. The register fields and the scalars of the
blocks stand in one sparse store (`fld`), keyed by the fields that Sys2Proof/Machine/Fields.lean names; what has a shape of its own (queues,
memories, staged records, the gauge's estimate) has a field of its own. -/

namespace Sys2Proof.Machine
open Sys2Proof

/-- The type of a register field (R9). -/
inductive FTy where
  | rw
  | ro
  | w1c
  | set
  | clr
  | wo
  | rwl
  deriving DecidableEq, Repr

/-- The retention code of a field (R11): V, W, S, K, N; `a` is held in the VAO domain (R14, R329); `l` is a live state of a block (R13),
kept by warm resets and STANDBY and returned to its reset value by a cold reset; `m` is kept until the main domain loses power. -/
inductive Kept where
  | v
  | w
  | s
  | k
  | n
  | a
  | l
  | m
  deriving DecidableEq, Repr

/-- The number of a retention code inside a store key. -/
def Kept.code (x : Kept) : Nat :=
  match x with
  | .v => 0
  | .w => 1
  | .s => 2
  | .k => 3
  | .n => 4
  | .a => 5
  | .l => 6
  | .m => 7

/-- A field of `count` like units: the byte address of unit n is base + stride * n; `lsb` and `width` place the field in the register;
`rst` is its value at reset, or `rsts` unit by unit. -/
structure Fld where
  base : Nat
  stride : Nat
  count : Nat
  lsb : Nat
  width : Nat
  ty : FTy
  kept : Kept
  rst : Nat
  rsts : List Nat
  deriving DecidableEq, Repr

/-- The store key of unit n of a field; its low three bits carry the retention code. -/
def Fld.key (f : Fld) (n : Nat) : Nat := ((f.base + f.stride * n) * 32 + f.lsb) * 8 + f.kept.code

/-- The value of unit n of a field at reset. -/
def Fld.dflt (f : Fld) (n : Nat) : Nat := f.rsts.getD n f.rst

/-- A Daybook record in staging (R159, R160): what its trigger fixed. SEQ, REPEAT, FLAGS.DROPS and the CRC enter when it is written. -/
structure Record where
  ty : Nat
  flags : Nat
  tick : Nat
  wall : Nat
  tnow : Nat
  pwr : Nat
  kstate : Nat
  origin : Nat
  sticky : Nat
  railOn : Nat
  user : List (BitVec 8)
  mask : Nat
  snap : List Word
  rep : Nat
  rail : Nat
  lsrc : Nat
  ev : List (BitVec 8)
  latch : Bool
  deriving DecidableEq, Repr

/-- A Daybook source that has staged a record: the tick count of its last staged record and its repeats since (R156). A Ledger source n
is n, the host is 128, and log id i of identity s is 256 + 65536 s + i. -/
structure Gap where
  src : Nat
  last : Nat
  rep : Nat
  deriving DecidableEq, Repr

/-- An accepted gauge reference (R302, R303): whether relaxed, its open-circuit voltage in mV, the x it implies on its own, and the charge
counted (mAh) when it was applied (R310). -/
structure GRef where
  relaxed : Bool
  x : Rat
  q : Rat
  deriving DecidableEq, Repr

/-- The gauge's estimate (R298 to R317): chemical state of charge x, its variance, resistance per cell in mΩ, capacity in mAh, the
charge counted so far in mAh, user charge and full user charge in mAh, the accepted references newest first, the tick of the last
reference, hours carried from before it, the kind of the journal record being written (0 none, 1 LEARN, 2 STATE) and its bytes, whether a
learning update waits for the next update, and whether a start estimate is due and with or without a STATE prior. -/
structure Gauge where
  x : Rat
  p : Rat
  r0 : Rat
  qfc : Rat
  q : Rat
  qu : Rat
  fcc : Rat
  refs : List GRef
  refTick : Nat
  hrs0 : Nat
  writing : Nat
  image : List (BitVec 8)
  learnNext : Bool
  startDue : Bool
  prior : Bool
  deriving DecidableEq, Repr

/-- The memory of a loop's compensator (R75): u[n-1], d[n-1], e[n-1] and e[n-2], with e in units of 0.25 mV and duty in 1/65536 of the period. -/
structure Comp where
  u : Rat
  d : Rat
  e1 : Rat
  e2 : Rat
  deriving DecidableEq, Repr

/-- A compensator at reset (DESIGN CHOICE, log 63: the spec gives no value). -/
def Comp.reset : Comp := { u := 0, d := 0, e1 := 0, e2 := 0 }

/-- The state of the part. -/
structure State where
  /-- The commands that wait, first in, first out. -/
  pending : List Instr
  /-- The model's own counter of free values drawn: no field of the spec. -/
  free : Nat
  /-- Register fields and block scalars, each held as its difference (exclusive or) from its value at reset. -/
  fld : Pages Nat
  /-- Instruction memories: word a of pair p at 8192 p + a (R163, R228). -/
  imem : Cells Word
  /-- Shared data, byte by byte (R164). -/
  sdata : List Host.Cell
  /-- NVM, byte by byte (R408). -/
  nvm : List Host.Cell
  /-- The NVM write queue: byte offset and word, oldest first (R409). -/
  nvmq : List (Nat × Word)
  /-- The enable stack, top first (R145). -/
  stack : List Nat
  /-- The rails of a BRANCH shutdown in progress, in the order in which they stop (R145). -/
  branch : List Nat
  /-- Staged Daybook records, oldest first (R155). -/
  staging : List Record
  /-- Daybook sources with a record inside SRC_GAP or with repeats to report (R156). -/
  gap : List Gap
  /-- Mailbox words, oldest first: receive mailboxes 0 to 3, host mailbox 4 (R234). -/
  mail : List (Nat × Word)
  /-- Ledger events raised and not yet registered, oldest first (R322, R7). -/
  evq : List Nat
  /-- Backup-domain register writes under way: address and word, oldest first (R343). -/
  bkq : List (Nat × Word)
  /-- The gauge's estimate. -/
  gauge : Gauge
  /-- The compensators of the loops (R75). -/
  comp : Vector Comp 8
  /-- The balance corrections B_k of the phases, as fractions of the period (R76). -/
  bal : Vector Rat 24
  /-- The words the part last sent on SPI, SMBus or the debug port. -/
  out : List Word
  deriving DecidableEq, Repr

/-- Why the machine stops with a fault. The spec gives every command an effect, so no command raises one. -/
inductive Fault where
  /-- Raised by nothing: the model has no fault (safe). -/
  | noEffect
  deriving DecidableEq, Repr

/-- Why a command is refused by the model. -/
inductive Refusal where
  /-- Raised by an arm of Dispatch whose command has no meaning yet (safe). -/
  | notModelled (mnemonic : String)
  deriving DecidableEq, Repr

/-- The outcome of a meaning. -/
abbrev Out := Host.Outcome State Fault Refusal

/-- The gauge before its first start estimate: nothing known, R0_INIT and DESIGN at their reset values (R315; DESIGN CHOICE, log 5). -/
def Gauge.reset : Gauge :=
  { x := 0, p := 0, r0 := 40, qfc := 2000, q := 0, qu := 0, fcc := 0, refs := [], refTick := 0, hrs0 := 0,
    writing := 0, image := [], learnNext := false, startDue := true, prior := true }

/-- The part right after reset: every register field at its Reset column, every block state at the value its log entry names. -/
def State.reset : State :=
  { pending := [], free := 0, fld := [], imem := [], sdata := [], nvm := [], nvmq := [], stack := [], branch := [], staging := [],
    gap := [], mail := [], evq := [], bkq := [], gauge := Gauge.reset, comp := Vector.replicate 8 Comp.reset, bal := Vector.replicate 24 0,
    out := [] }

/-- Unit n of a field; a unit the field does not have reads 0. -/
def State.get (s : State) (f : Fld) (n : Nat) : Nat :=
  if n < f.count then Nat.xor (Pages.look s.fld (f.key n)) (f.dflt n) else 0

/-- Unit n of a field set to a value, cut to the field's width; a unit the field does not have takes nothing. -/
def State.put (s : State) (f : Fld) (n v : Nat) : State :=
  if n < f.count then { s with fld := Pages.set s.fld (f.key n) (Nat.xor (v % 2 ^ f.width) (f.dflt n)) } else s

/-- Unit n of a field is not 0. -/
def State.is (s : State) (f : Fld) (n : Nat) : Bool := s.get f n != 0

/-- Unit n of a field set to 0 or 1. -/
def State.mark (s : State) (f : Fld) (n : Nat) (b : Bool) : State := s.put f n (if b then 1 else 0)

/-- Bit i of unit n of a field. -/
def State.bit (s : State) (f : Fld) (n i : Nat) : Bool := (s.get f n).testBit i

/-- Bit i of unit n of a field set or cleared. -/
def State.setBit (s : State) (f : Fld) (n i : Nat) (b : Bool) : State :=
  s.put f n (if b then s.get f n ||| 2 ^ i else s.get f n - (s.get f n &&& 2 ^ i))

/-- Unit n of a field as a 32-bit word. -/
def State.word (s : State) (f : Fld) (n : Nat) : Word := BitVec.ofNat 32 (s.get f n)

/-- Unit n of a field counted up, saturating at a limit. -/
def State.sat (s : State) (f : Fld) (n lim : Nat) : State :=
  s.put f n (if s.get f n < lim then s.get f n + 1 else s.get f n)

/-- Every field of a retention code returned to its reset value (R12). -/
def State.drop (s : State) (code : Kept) : State := { s with fld := Pages.keep s.fld (fun k => k % 8 != code.code) }

end Sys2Proof.Machine
end

