-- ==== Sys2Proof/Machine/Fields.lean ====
section
/-! DEFINITION. The register fields of the part, one constant per field of the field tables of spec/ (bits, type, reset value and
retention code as the tables give them), and the state the blocks hold besides their registers, each with the retention code that R60, R61 or its
own rule gives it. A register address bears the fields with that address; a block's own state stands at addresses from 0x10000 up,
which no access reaches. Retention codes beyond V, W, S, K, N: A lives in the VAO domain (R14), L is a live state that its block
keeps (R13) and a cold reset returns to its reset value, M is kept until the main domain loses power. -/

namespace Sys2Proof.Reg
open Sys2Proof.Machine

/-- 00_scope.md, DEV_ID.PART_ID -/
def DEV_ID_PART_ID : Fld := ⟨0x0, 0, 1, 16, 16, .ro, .n, 16786, []⟩
/-- 00_scope.md, DEV_ID.REV -/
def DEV_ID_REV : Fld := ⟨0x0, 0, 1, 8, 8, .ro, .n, 16, []⟩
/-- 17_register_map.md, SOFT_RST.KEY_BAD -/
def SOFT_RST_KEY_BAD : Fld := ⟨0x4, 0, 1, 8, 1, .w1c, .v, 0, []⟩
/-- 17_register_map.md, SOFT_RST.KEY -/
def SOFT_RST_KEY : Fld := ⟨0x4, 0, 1, 0, 8, .wo, .v, 0, []⟩
/-- 17_register_map.md, RST_CAUSE.BOR_SRC -/
def RST_CAUSE_BOR_SRC : Fld := ⟨0x8, 0, 1, 8, 3, .ro, .k, 0, []⟩
/-- 17_register_map.md, RST_CAUSE.STALL -/
def RST_CAUSE_STALL : Fld := ⟨0x8, 0, 1, 5, 1, .ro, .k, 0, []⟩
/-- 17_register_map.md, RST_CAUSE.WDT -/
def RST_CAUSE_WDT : Fld := ⟨0x8, 0, 1, 4, 1, .ro, .k, 0, []⟩
/-- 17_register_map.md, RST_CAUSE.HOST -/
def RST_CAUSE_HOST : Fld := ⟨0x8, 0, 1, 3, 1, .ro, .k, 0, []⟩
/-- 17_register_map.md, RST_CAUSE.PIN -/
def RST_CAUSE_PIN : Fld := ⟨0x8, 0, 1, 2, 1, .ro, .k, 0, []⟩
/-- 17_register_map.md, RST_CAUSE.BOR -/
def RST_CAUSE_BOR : Fld := ⟨0x8, 0, 1, 1, 1, .ro, .k, 0, []⟩
/-- 17_register_map.md, RST_CAUSE.POR -/
def RST_CAUSE_POR : Fld := ⟨0x8, 0, 1, 0, 1, .ro, .k, 0, []⟩
/-- 17_register_map.md, RST_CFG.WARM_TMO -/
def RST_CFG_WARM_TMO : Fld := ⟨0xc, 0, 1, 0, 10, .rw, .s, 200, []⟩
/-- 17_register_map.md, ORDER_STAT.LOGGED -/
def ORDER_STAT_LOGGED : Fld := ⟨0x10, 0, 1, 3, 1, .ro, .k, 0, []⟩
/-- 17_register_map.md, ORDER_STAT.RULE -/
def ORDER_STAT_RULE : Fld := ⟨0x10, 0, 1, 1, 2, .ro, .k, 0, []⟩
/-- 17_register_map.md, ORDER_STAT.ORDER_VIOL -/
def ORDER_STAT_ORDER_VIOL : Fld := ⟨0x10, 0, 1, 0, 1, .w1c, .k, 0, []⟩
/-- 17_register_map.md, SUP_STAT.ANA_EXT -/
def SUP_STAT_ANA_EXT : Fld := ⟨0x14, 0, 1, 4, 1, .ro, .m, 0, []⟩
/-- 17_register_map.md, SUP_STAT.CORE_EXT -/
def SUP_STAT_CORE_EXT : Fld := ⟨0x14, 0, 1, 3, 1, .ro, .m, 0, []⟩
/-- 17_register_map.md, SUP_STAT.VIOP_MODE -/
def SUP_STAT_VIOP_MODE : Fld := ⟨0x14, 0, 1, 2, 1, .ro, .m, 0, []⟩
/-- 17_register_map.md, SUP_STAT.VIOH_MODE -/
def SUP_STAT_VIOH_MODE : Fld := ⟨0x14, 0, 1, 1, 1, .ro, .m, 0, []⟩
/-- 17_register_map.md, SUP_STAT.HOSTIO_LOW -/
def SUP_STAT_HOSTIO_LOW : Fld := ⟨0x14, 0, 1, 0, 1, .ro, .m, 0, []⟩
/-- 17_register_map.md, BOOT_CFG.SLOT -/
def BOOT_CFG_SLOT : Fld := ⟨0x18, 0, 1, 0, 1, .rw, .n, 0, []⟩
/-- 17_register_map.md, BOOT_STAT.IMG_SEQ -/
def BOOT_STAT_IMG_SEQ : Fld := ⟨0x1c, 0, 1, 16, 16, .ro, .s, 0, []⟩
/-- 17_register_map.md, BOOT_STAT.IMAGE_BAD -/
def BOOT_STAT_IMAGE_BAD : Fld := ⟨0x1c, 0, 1, 4, 1, .ro, .s, 0, []⟩
/-- 17_register_map.md, BOOT_STAT.SEAL_TMO -/
def BOOT_STAT_SEAL_TMO : Fld := ⟨0x1c, 0, 1, 3, 1, .ro, .s, 0, []⟩
/-- 17_register_map.md, BOOT_STAT.UNSIGNED -/
def BOOT_STAT_UNSIGNED : Fld := ⟨0x1c, 0, 1, 2, 1, .ro, .s, 0, []⟩
/-- 17_register_map.md, BOOT_STAT.FELLBACK -/
def BOOT_STAT_FELLBACK : Fld := ⟨0x1c, 0, 1, 1, 1, .ro, .s, 0, []⟩
/-- 17_register_map.md, BOOT_STAT.SLOT_RUN -/
def BOOT_STAT_SLOT_RUN : Fld := ⟨0x1c, 0, 1, 0, 1, .ro, .s, 0, []⟩
/-- 17_register_map.md, PWR_STATE.REQ_BAD -/
def PWR_STATE_REQ_BAD : Fld := ⟨0x400, 0, 1, 9, 1, .w1c, .w, 0, []⟩
/-- 17_register_map.md, PWR_STATE.REQ_REFUSED -/
def PWR_STATE_REQ_REFUSED : Fld := ⟨0x400, 0, 1, 8, 1, .w1c, .w, 0, []⟩
/-- 17_register_map.md, PWR_STATE.RIDE_READY -/
def PWR_STATE_RIDE_READY : Fld := ⟨0x400, 0, 1, 6, 1, .ro, .l, 0, []⟩
/-- 17_register_map.md, PWR_STATE.ON_BATT -/
def PWR_STATE_ON_BATT : Fld := ⟨0x400, 0, 1, 5, 1, .ro, .l, 0, []⟩
/-- 17_register_map.md, PWR_STATE.BOOTING -/
def PWR_STATE_BOOTING : Fld := ⟨0x400, 0, 1, 4, 1, .ro, .l, 1, []⟩
/-- 17_register_map.md, PWR_STATE.CUR -/
def PWR_STATE_CUR : Fld := ⟨0x400, 0, 1, 0, 3, .ro, .l, 1, []⟩
/-- 17_register_map.md, PWR_REQ.REQ -/
def PWR_REQ_REQ : Fld := ⟨0x404, 0, 1, 0, 4, .wo, .v, 0, []⟩
/-- 17_register_map.md, STBY_CFG.WAKE_PRI -/
def STBY_CFG_WAKE_PRI : Fld := ⟨0x408, 0, 1, 16, 4, .rw, .s, 8, []⟩
/-- 17_register_map.md, STBY_CFG.SCAN_P -/
def STBY_CFG_SCAN_P : Fld := ⟨0x408, 0, 1, 0, 14, .rw, .s, 100, []⟩
/-- 17_register_map.md, WAKE_CAUSE.PREV -/
def WAKE_CAUSE_PREV : Fld := ⟨0x40c, 0, 1, 8, 3, .ro, .k, 0, []⟩
/-- 17_register_map.md, WAKE_CAUSE.COLLAPSE -/
def WAKE_CAUSE_COLLAPSE : Fld := ⟨0x40c, 0, 1, 7, 1, .w1c, .k, 0, []⟩
/-- 17_register_map.md, WAKE_CAUSE.ALARM_NOSRC -/
def WAKE_CAUSE_ALARM_NOSRC : Fld := ⟨0x40c, 0, 1, 6, 1, .w1c, .k, 0, []⟩
/-- 17_register_map.md, WAKE_CAUSE.ALARM -/
def WAKE_CAUSE_ALARM : Fld := ⟨0x40c, 0, 1, 5, 1, .w1c, .k, 0, []⟩
/-- 17_register_map.md, WAKE_CAUSE.VBAT -/
def WAKE_CAUSE_VBAT : Fld := ⟨0x40c, 0, 1, 4, 1, .w1c, .k, 0, []⟩
/-- 17_register_map.md, WAKE_CAUSE.VBUS1 -/
def WAKE_CAUSE_VBUS1 : Fld := ⟨0x40c, 0, 1, 3, 1, .w1c, .k, 0, []⟩
/-- 17_register_map.md, WAKE_CAUSE.VBUS0 -/
def WAKE_CAUSE_VBUS0 : Fld := ⟨0x40c, 0, 1, 2, 1, .w1c, .k, 0, []⟩
/-- 17_register_map.md, WAKE_CAUSE.DCIN -/
def WAKE_CAUSE_DCIN : Fld := ⟨0x40c, 0, 1, 1, 1, .w1c, .k, 0, []⟩
/-- 17_register_map.md, WAKE_CAUSE.PWRBTN -/
def WAKE_CAUSE_PWRBTN : Fld := ⟨0x40c, 0, 1, 0, 1, .w1c, .k, 0, []⟩
/-- 17_register_map.md, NVM_PAGE.PAGE -/
def NVM_PAGE_PAGE : Fld := ⟨0x20, 0, 1, 0, 7, .rw, .v, 0, []⟩
/-- 17_register_map.md, NVM_STAT.PART -/
def NVM_STAT_PART : Fld := ⟨0x24, 0, 1, 12, 3, .ro, .l, 0, []⟩
/-- 17_register_map.md, NVM_STAT.ERR -/
def NVM_STAT_ERR : Fld := ⟨0x24, 0, 1, 10, 1, .w1c, .v, 0, []⟩
/-- 17_register_map.md, NVM_STAT.DROP -/
def NVM_STAT_DROP : Fld := ⟨0x24, 0, 1, 9, 1, .w1c, .v, 0, []⟩
/-- 17_register_map.md, NVM_STAT.BUSY -/
def NVM_STAT_BUSY : Fld := ⟨0x24, 0, 1, 8, 1, .ro, .l, 0, []⟩
/-- 17_register_map.md, NVM_STAT.QUEUE -/
def NVM_STAT_QUEUE : Fld := ⟨0x24, 0, 1, 0, 5, .ro, .l, 0, []⟩
/-- 17_register_map.md, DBK_PAGE.PAGE -/
def DBK_PAGE_PAGE : Fld := ⟨0x28, 0, 1, 0, 6, .rw, .v, 0, []⟩
/-- 03_multiphase_loops.md, MLC_FRAME.SYNC_OUT_OFS -/
def MLC_FRAME_SYNC_OUT_OFS : Fld := ⟨0x1000, 0, 1, 16, 8, .rw, .s, 0, []⟩
/-- 03_multiphase_loops.md, MLC_FRAME.SYNC_OUT_EN -/
def MLC_FRAME_SYNC_OUT_EN : Fld := ⟨0x1000, 0, 1, 13, 1, .rw, .s, 0, []⟩
/-- 03_multiphase_loops.md, MLC_FRAME.SRC -/
def MLC_FRAME_SRC : Fld := ⟨0x1000, 0, 1, 12, 1, .rw, .s, 0, []⟩
/-- 03_multiphase_loops.md, MLC_FRAME.FRAME_KHZ -/
def MLC_FRAME_FRAME_KHZ : Fld := ⟨0x1000, 0, 1, 0, 11, .rw, .s, 1000, []⟩
/-- 03_multiphase_loops.md, MLC_SYNC_STAT.FRAME_NOW -/
def MLC_SYNC_STAT_FRAME_NOW : Fld := ⟨0x1004, 0, 1, 16, 11, .ro, .l, 1000, []⟩
/-- 03_multiphase_loops.md, MLC_SYNC_STAT.CFG_BUSY -/
def MLC_SYNC_STAT_CFG_BUSY : Fld := ⟨0x1004, 0, 1, 3, 1, .w1c, .v, 0, []⟩
/-- 03_multiphase_loops.md, MLC_SYNC_STAT.HOLDING -/
def MLC_SYNC_STAT_HOLDING : Fld := ⟨0x1004, 0, 1, 2, 1, .ro, .l, 0, []⟩
/-- 03_multiphase_loops.md, MLC_SYNC_STAT.LOSS -/
def MLC_SYNC_STAT_LOSS : Fld := ⟨0x1004, 0, 1, 1, 1, .w1c, .v, 0, []⟩
/-- 03_multiphase_loops.md, MLC_SYNC_STAT.LOCK -/
def MLC_SYNC_STAT_LOCK : Fld := ⟨0x1004, 0, 1, 0, 1, .ro, .l, 0, []⟩
/-- 03_multiphase_loops.md, PH_CFG.OFFSET -/
def PH_CFG_OFFSET : Fld := ⟨0x1040, 4, 24, 8, 8, .rw, .s, 0, []⟩
/-- 03_multiphase_loops.md, PH_CFG.ASSIGN -/
def PH_CFG_ASSIGN : Fld := ⟨0x1040, 4, 24, 3, 1, .rw, .s, 0, []⟩
/-- 03_multiphase_loops.md, PH_CFG.LOOP -/
def PH_CFG_LOOP : Fld := ⟨0x1040, 4, 24, 0, 3, .rw, .s, 0, []⟩
/-- 03_multiphase_loops.md, PH_STAT.ILIM -/
def PH_STAT_ILIM : Fld := ⟨0x10c0, 4, 24, 4, 1, .w1c, .v, 0, []⟩
/-- 03_multiphase_loops.md, PH_STAT.CAUSE -/
def PH_STAT_CAUSE : Fld := ⟨0x10c0, 4, 24, 1, 3, .ro, .s, 0, []⟩
/-- 03_multiphase_loops.md, PH_STAT.FENCED -/
def PH_STAT_FENCED : Fld := ⟨0x10c0, 4, 24, 0, 1, .ro, .s, 0, []⟩
/-- 03_multiphase_loops.md, LP_CTRL.EN -/
def LP_CTRL_EN : Fld := ⟨0x1200, 64, 8, 16, 1, .ro, .l, 0, []⟩
/-- 03_multiphase_loops.md, LP_CTRL.MIN_PH -/
def LP_CTRL_MIN_PH : Fld := ⟨0x1200, 64, 8, 11, 4, .rw, .s, 0, []⟩
/-- 03_multiphase_loops.md, LP_CTRL.INSW_PIN -/
def LP_CTRL_INSW_PIN : Fld := ⟨0x1200, 64, 8, 5, 6, .rw, .s, 0, []⟩
/-- 03_multiphase_loops.md, LP_CTRL.INSW_EN -/
def LP_CTRL_INSW_EN : Fld := ⟨0x1200, 64, 8, 4, 1, .rw, .s, 0, []⟩
/-- 03_multiphase_loops.md, LP_CTRL.STOP_MODE -/
def LP_CTRL_STOP_MODE : Fld := ⟨0x1200, 64, 8, 3, 1, .rw, .s, 0, []⟩
/-- 03_multiphase_loops.md, LP_CTRL.MULT_M1 -/
def LP_CTRL_MULT_M1 : Fld := ⟨0x1200, 64, 8, 0, 3, .rw, .s, 0, []⟩
/-- 03_multiphase_loops.md, LP_REF.VREF_NOW -/
def LP_REF_VREF_NOW : Fld := ⟨0x1204, 64, 8, 16, 12, .ro, .l, 0, []⟩
/-- 03_multiphase_loops.md, LP_REF.TARGET -/
def LP_REF_TARGET : Fld := ⟨0x1204, 64, 8, 0, 12, .ro, .s, 0, []⟩
/-- 03_multiphase_loops.md, LP_SS.PREBIAS_MAX -/
def LP_SS_PREBIAS_MAX : Fld := ⟨0x1208, 64, 8, 16, 12, .rw, .s, 300, []⟩
/-- 03_multiphase_loops.md, LP_SS.RATE -/
def LP_SS_RATE : Fld := ⟨0x1208, 64, 8, 0, 10, .rw, .s, 20, []⟩
/-- 03_multiphase_loops.md, LP_LL.LL -/
def LP_LL_LL : Fld := ⟨0x120c, 64, 8, 0, 10, .rw, .s, 0, []⟩
/-- 03_multiphase_loops.md, LP_COMP.KI -/
def LP_COMP_KI : Fld := ⟨0x1210, 64, 8, 16, 16, .rw, .s, 16, []⟩
/-- 03_multiphase_loops.md, LP_COMP.KP -/
def LP_COMP_KP : Fld := ⟨0x1210, 64, 8, 0, 16, .rw, .s, 1024, []⟩
/-- 03_multiphase_loops.md, LP_COMP2.KB -/
def LP_COMP2_KB : Fld := ⟨0x1214, 64, 8, 24, 8, .rw, .s, 16, []⟩
/-- 03_multiphase_loops.md, LP_COMP2.AF -/
def LP_COMP2_AF : Fld := ⟨0x1214, 64, 8, 16, 8, .rw, .s, 64, []⟩
/-- 03_multiphase_loops.md, LP_COMP2.KD -/
def LP_COMP2_KD : Fld := ⟨0x1214, 64, 8, 0, 16, .rw, .s, 2048, []⟩
/-- 03_multiphase_loops.md, LP_ISEN.FLT_LVL -/
def LP_ISEN_FLT_LVL : Fld := ⟨0x1218, 64, 8, 16, 12, .rw, .s, 2900, []⟩
/-- 03_multiphase_loops.md, LP_ISEN.ISREF -/
def LP_ISEN_ISREF : Fld := ⟨0x1218, 64, 8, 8, 8, .rw, .s, 120, []⟩
/-- 03_multiphase_loops.md, LP_ISEN.GAIN -/
def LP_ISEN_GAIN : Fld := ⟨0x1218, 64, 8, 0, 7, .rw, .s, 50, []⟩
/-- 03_multiphase_loops.md, LP_LIMIT.IMB_T -/
def LP_LIMIT_IMB_T : Fld := ⟨0x121c, 64, 8, 16, 7, .rw, .s, 20, []⟩
/-- 03_multiphase_loops.md, LP_LIMIT.IMB_TH -/
def LP_LIMIT_IMB_TH : Fld := ⟨0x121c, 64, 8, 8, 8, .rw, .s, 20, []⟩
/-- 03_multiphase_loops.md, LP_LIMIT.IPH_MAX -/
def LP_LIMIT_IPH_MAX : Fld := ⟨0x121c, 64, 8, 0, 8, .rw, .s, 80, []⟩
/-- 03_multiphase_loops.md, LP_PROT.BRAKE_TH -/
def LP_PROT_BRAKE_TH : Fld := ⟨0x1220, 64, 8, 8, 8, .rw, .s, 30, []⟩
/-- 03_multiphase_loops.md, LP_PROT.RUSH_TH -/
def LP_PROT_RUSH_TH : Fld := ⟨0x1220, 64, 8, 0, 8, .rw, .s, 30, []⟩
/-- 03_multiphase_loops.md, LP_PG.PG_OFF_FILT -/
def LP_PG_PG_OFF_FILT : Fld := ⟨0x1224, 64, 8, 20, 4, .rw, .s, 2, []⟩
/-- 03_multiphase_loops.md, LP_PG.PG_ON_DLY -/
def LP_PG_PG_ON_DLY : Fld := ⟨0x1224, 64, 8, 8, 10, .rw, .s, 100, []⟩
/-- 03_multiphase_loops.md, LP_PG.PG_WIN -/
def LP_PG_PG_WIN : Fld := ⟨0x1224, 64, 8, 0, 8, .rw, .s, 30, []⟩
/-- 03_multiphase_loops.md, LP_STAT.CFG_BUSY -/
def LP_STAT_CFG_BUSY : Fld := ⟨0x1228, 64, 8, 14, 1, .w1c, .v, 0, []⟩
/-- 03_multiphase_loops.md, LP_STAT.ILIM -/
def LP_STAT_ILIM : Fld := ⟨0x1228, 64, 8, 13, 1, .w1c, .v, 0, []⟩
/-- 03_multiphase_loops.md, LP_STAT.BRAKE -/
def LP_STAT_BRAKE : Fld := ⟨0x1228, 64, 8, 12, 1, .w1c, .v, 0, []⟩
/-- 03_multiphase_loops.md, LP_STAT.RUSH -/
def LP_STAT_RUSH : Fld := ⟨0x1228, 64, 8, 11, 1, .w1c, .v, 0, []⟩
/-- 03_multiphase_loops.md, LP_STAT.FREQ_BAD -/
def LP_STAT_FREQ_BAD : Fld := ⟨0x1228, 64, 8, 10, 1, .ro, .l, 0, []⟩
/-- 03_multiphase_loops.md, LP_STAT.HSS_PH -/
def LP_STAT_HSS_PH : Fld := ⟨0x1228, 64, 8, 5, 5, .ro, .s, 0, []⟩
/-- 03_multiphase_loops.md, LP_STAT.HSS -/
def LP_STAT_HSS : Fld := ⟨0x1228, 64, 8, 4, 1, .w1c, .s, 0, []⟩
/-- 03_multiphase_loops.md, LP_STAT.STATE -/
def LP_STAT_STATE : Fld := ⟨0x1228, 64, 8, 1, 3, .ro, .l, 0, []⟩
/-- 03_multiphase_loops.md, LP_STAT.PG -/
def LP_STAT_PG : Fld := ⟨0x1228, 64, 8, 0, 1, .ro, .l, 0, []⟩
/-- 03_multiphase_loops.md, LP_CAP.I_CAP -/
def LP_CAP_I_CAP : Fld := ⟨0x122c, 64, 8, 8, 12, .ro, .s, 0, []⟩
/-- 03_multiphase_loops.md, LP_CAP.N_ACT -/
def LP_CAP_N_ACT : Fld := ⟨0x122c, 64, 8, 4, 4, .ro, .s, 0, []⟩
/-- 03_multiphase_loops.md, LP_CAP.N_CFG -/
def LP_CAP_N_CFG : Fld := ⟨0x122c, 64, 8, 0, 4, .ro, .s, 0, []⟩
/-- 04_scales_rail_monitor.md, CH_CFG.HYST -/
def CH_CFG_HYST : Fld := ⟨0x2000, 16, 192, 16, 16, .rw, .s, 0, []⟩
/-- 04_scales_rail_monitor.md, CH_CFG.UV_ARM -/
def CH_CFG_UV_ARM : Fld := ⟨0x2000, 16, 192, 12, 2, .rw, .s, 0, []⟩
/-- 04_scales_rail_monitor.md, CH_CFG.CNT_M1 -/
def CH_CFG_CNT_M1 : Fld := ⟨0x2000, 16, 192, 8, 4, .rw, .s, 0, []⟩
/-- 04_scales_rail_monitor.md, CH_CFG.OSC -/
def CH_CFG_OSC : Fld := ⟨0x2000, 16, 192, 4, 3, .rw, .s, 1, []⟩
/-- 04_scales_rail_monitor.md, CH_CFG.MODE -/
def CH_CFG_MODE : Fld := ⟨0x2000, 16, 192, 0, 2, .rw, .s, 0, []⟩
/-- 04_scales_rail_monitor.md, CH_OV.OVF -/
def CH_OV_OVF : Fld := ⟨0x2004, 16, 192, 16, 16, .rw, .s, 65535, []⟩
/-- 04_scales_rail_monitor.md, CH_OV.OVW -/
def CH_OV_OVW : Fld := ⟨0x2004, 16, 192, 0, 16, .rw, .s, 65535, []⟩
/-- 04_scales_rail_monitor.md, CH_UV.UVW -/
def CH_UV_UVW : Fld := ⟨0x2008, 16, 192, 16, 16, .rw, .s, 0, []⟩
/-- 04_scales_rail_monitor.md, CH_UV.UVF -/
def CH_UV_UVF : Fld := ⟨0x2008, 16, 192, 0, 16, .rw, .s, 0, []⟩
/-- 04_scales_rail_monitor.md, CH_DATA.SCAN_TAG -/
def CH_DATA_SCAN_TAG : Fld := ⟨0x200c, 16, 192, 24, 8, .ro, .s, 0, []⟩
/-- 04_scales_rail_monitor.md, CH_DATA.FLT_SEEN -/
def CH_DATA_FLT_SEEN : Fld := ⟨0x200c, 16, 192, 21, 1, .w1c, .s, 0, []⟩
/-- 04_scales_rail_monitor.md, CH_DATA.ARMED -/
def CH_DATA_ARMED : Fld := ⟨0x200c, 16, 192, 20, 1, .ro, .s, 0, []⟩
/-- 04_scales_rail_monitor.md, CH_DATA.STALE -/
def CH_DATA_STALE : Fld := ⟨0x200c, 16, 192, 19, 1, .ro, .s, 1, []⟩
/-- 04_scales_rail_monitor.md, CH_DATA.ZONE -/
def CH_DATA_ZONE : Fld := ⟨0x200c, 16, 192, 16, 3, .ro, .s, 7, []⟩
/-- 04_scales_rail_monitor.md, CH_DATA.VALUE -/
def CH_DATA_VALUE : Fld := ⟨0x200c, 16, 192, 0, 16, .ro, .s, 0, []⟩
/-- 04_scales_rail_monitor.md, CR_CFG.FILT -/
def CR_CFG_FILT : Fld := ⟨0x2c00, 16, 16, 16, 7, .rw, .s, 0, []⟩
/-- 04_scales_rail_monitor.md, CR_CFG.HYST -/
def CR_CFG_HYST : Fld := ⟨0x2c00, 16, 16, 8, 5, .rw, .s, 5, []⟩
/-- 04_scales_rail_monitor.md, CR_CFG.STBY_EN -/
def CR_CFG_STBY_EN : Fld := ⟨0x2c00, 16, 16, 3, 1, .rw, .s, 0, []⟩
/-- 04_scales_rail_monitor.md, CR_CFG.LO_EN -/
def CR_CFG_LO_EN : Fld := ⟨0x2c00, 16, 16, 2, 1, .rw, .s, 0, []⟩
/-- 04_scales_rail_monitor.md, CR_CFG.HI_EN -/
def CR_CFG_HI_EN : Fld := ⟨0x2c00, 16, 16, 1, 1, .rw, .s, 0, []⟩
/-- 04_scales_rail_monitor.md, CR_CFG.EN -/
def CR_CFG_EN : Fld := ⟨0x2c00, 16, 16, 0, 1, .rw, .s, 0, []⟩
/-- 04_scales_rail_monitor.md, CR_THR.HI -/
def CR_THR_HI : Fld := ⟨0x2c04, 16, 16, 16, 16, .rw, .s, 0, []⟩
/-- 04_scales_rail_monitor.md, CR_THR.LO -/
def CR_THR_LO : Fld := ⟨0x2c04, 16, 16, 0, 16, .rw, .s, 0, []⟩
/-- 04_scales_rail_monitor.md, CR_STAT.FENCED -/
def CR_STAT_FENCED : Fld := ⟨0x2c08, 16, 16, 5, 1, .ro, .s, 0, []⟩
/-- 04_scales_rail_monitor.md, CR_STAT.DISAGREE -/
def CR_STAT_DISAGREE : Fld := ⟨0x2c08, 16, 16, 4, 1, .w1c, .s, 0, []⟩
/-- 04_scales_rail_monitor.md, CR_STAT.TRIP_LO -/
def CR_STAT_TRIP_LO : Fld := ⟨0x2c08, 16, 16, 3, 1, .w1c, .s, 0, []⟩
/-- 04_scales_rail_monitor.md, CR_STAT.TRIP_HI -/
def CR_STAT_TRIP_HI : Fld := ⟨0x2c08, 16, 16, 2, 1, .w1c, .s, 0, []⟩
/-- 04_scales_rail_monitor.md, CR_STAT.OUT_LO -/
def CR_STAT_OUT_LO : Fld := ⟨0x2c08, 16, 16, 1, 1, .ro, .l, 0, []⟩
/-- 04_scales_rail_monitor.md, CR_STAT.OUT_HI -/
def CR_STAT_OUT_HI : Fld := ⟨0x2c08, 16, 16, 0, 1, .ro, .l, 0, []⟩
/-- 04_scales_rail_monitor.md, SCN_STAT.CFG_BAD -/
def SCN_STAT_CFG_BAD : Fld := ⟨0x2e00, 0, 1, 22, 1, .w1c, .v, 0, []⟩
/-- 04_scales_rail_monitor.md, SCN_STAT.REF_SUSP -/
def SCN_STAT_REF_SUSP : Fld := ⟨0x2e00, 0, 1, 21, 1, .ro, .l, 0, []⟩
/-- 04_scales_rail_monitor.md, SCN_STAT.BLIND -/
def SCN_STAT_BLIND : Fld := ⟨0x2e00, 0, 1, 20, 1, .ro, .l, 0, []⟩
/-- 04_scales_rail_monitor.md, SCN_STAT.FENCED -/
def SCN_STAT_FENCED : Fld := ⟨0x2e00, 0, 1, 16, 4, .ro, .w, 0, []⟩
/-- 04_scales_rail_monitor.md, SCN_STAT.K_LIVE -/
def SCN_STAT_K_LIVE : Fld := ⟨0x2e00, 0, 1, 12, 3, .ro, .l, 4, []⟩
/-- 04_scales_rail_monitor.md, SCN_STAT.TSCAN -/
def SCN_STAT_TSCAN : Fld := ⟨0x2e00, 0, 1, 0, 11, .ro, .l, 49, []⟩
/-- 04_scales_rail_monitor.md, SCN_COUNT.COUNT -/
def SCN_COUNT_COUNT : Fld := ⟨0x2e04, 0, 1, 0, 32, .ro, .s, 0, []⟩
/-- 04_scales_rail_monitor.md, SCN_OFS.OFS_D -/
def SCN_OFS_OFS_D : Fld := ⟨0x2e08, 0, 1, 24, 8, .ro, .v, 0, []⟩
/-- 04_scales_rail_monitor.md, SCN_OFS.OFS_C -/
def SCN_OFS_OFS_C : Fld := ⟨0x2e08, 0, 1, 16, 8, .ro, .v, 0, []⟩
/-- 04_scales_rail_monitor.md, SCN_OFS.OFS_B -/
def SCN_OFS_OFS_B : Fld := ⟨0x2e08, 0, 1, 8, 8, .ro, .v, 0, []⟩
/-- 04_scales_rail_monitor.md, SCN_OFS.OFS_A -/
def SCN_OFS_OFS_A : Fld := ⟨0x2e08, 0, 1, 0, 8, .ro, .v, 0, []⟩
/-- 04_scales_rail_monitor.md, SCN_MAP.LIVE -/
def SCN_MAP_LIVE : Fld := ⟨0x2e10, 4, 4, 31, 1, .ro, .w, 1, []⟩
/-- 04_scales_rail_monitor.md, SCN_MAP.CAUSE -/
def SCN_MAP_CAUSE : Fld := ⟨0x2e10, 4, 4, 28, 2, .ro, .w, 0, []⟩
/-- 04_scales_rail_monitor.md, SCN_MAP.GROUPS -/
def SCN_MAP_GROUPS : Fld := ⟨0x2e10, 4, 4, 16, 12, .ro, .l, 56, [7, 56, 448, 3584]⟩
/-- 04_scales_rail_monitor.md, SCN_MAP.LAST_CH -/
def SCN_MAP_LAST_CH : Fld := ⟨0x2e10, 4, 4, 8, 8, .ro, .l, 143, [47, 95, 143, 191]⟩
/-- 04_scales_rail_monitor.md, SCN_MAP.FIRST_CH -/
def SCN_MAP_FIRST_CH : Fld := ⟨0x2e10, 4, 4, 0, 8, .ro, .l, 0, [0, 48, 96, 144]⟩
/-- 04_scales_rail_monitor.md, SCN_ALERT.ALERT -/
def SCN_ALERT_ALERT : Fld := ⟨0x2e20, 4, 6, 0, 32, .ro, .v, 0, []⟩
/-- 05_keeper_and_sequencing.md, KPR_CTRL.REQ -/
def KPR_CTRL_REQ : Fld := ⟨0x800, 0, 1, 0, 2, .wo, .v, 0, []⟩
/-- 05_keeper_and_sequencing.md, KPR_STAT.FROZEN -/
def KPR_STAT_FROZEN : Fld := ⟨0x804, 0, 1, 28, 4, .ro, .s, 0, []⟩
/-- 05_keeper_and_sequencing.md, KPR_STAT.REF_RAIL -/
def KPR_STAT_REF_RAIL : Fld := ⟨0x804, 0, 1, 16, 8, .ro, .v, 255, []⟩
/-- 05_keeper_and_sequencing.md, KPR_STAT.REF_WHY -/
def KPR_STAT_REF_WHY : Fld := ⟨0x804, 0, 1, 12, 4, .ro, .v, 0, []⟩
/-- 05_keeper_and_sequencing.md, KPR_STAT.REQ_MERGED -/
def KPR_STAT_REQ_MERGED : Fld := ⟨0x804, 0, 1, 8, 4, .ro, .v, 0, []⟩
/-- 05_keeper_and_sequencing.md, KPR_STAT.TBL_BAD -/
def KPR_STAT_TBL_BAD : Fld := ⟨0x804, 0, 1, 6, 1, .ro, .s, 0, []⟩
/-- 05_keeper_and_sequencing.md, KPR_STAT.REQ_REFUSED -/
def KPR_STAT_REQ_REFUSED : Fld := ⟨0x804, 0, 1, 5, 1, .w1c, .v, 0, []⟩
/-- 05_keeper_and_sequencing.md, KPR_STAT.PEND_ON -/
def KPR_STAT_PEND_ON : Fld := ⟨0x804, 0, 1, 4, 1, .ro, .l, 0, []⟩
/-- 05_keeper_and_sequencing.md, KPR_STAT.STATE -/
def KPR_STAT_STATE : Fld := ⟨0x804, 0, 1, 0, 2, .ro, .l, 0, []⟩
/-- 05_keeper_and_sequencing.md, KPR_CFG.BLIND_TMO -/
def KPR_CFG_BLIND_TMO : Fld := ⟨0x808, 0, 1, 22, 10, .rwl, .s, 10, []⟩
/-- 05_keeper_and_sequencing.md, KPR_CFG.SD_TMO -/
def KPR_CFG_SD_TMO : Fld := ⟨0x808, 0, 1, 11, 11, .rwl, .s, 500, []⟩
/-- 05_keeper_and_sequencing.md, KPR_CFG.TOFF_MIN -/
def KPR_CFG_TOFF_MIN : Fld := ⟨0x808, 0, 1, 0, 10, .rwl, .s, 50, []⟩
/-- 05_keeper_and_sequencing.md, KPR_LATCH.REC_SEQ -/
def KPR_LATCH_REC_SEQ : Fld := ⟨0x80c, 0, 1, 16, 16, .ro, .k, 0, []⟩
/-- 05_keeper_and_sequencing.md, KPR_LATCH.RAIL -/
def KPR_LATCH_RAIL : Fld := ⟨0x80c, 0, 1, 8, 8, .ro, .k, 255, []⟩
/-- 05_keeper_and_sequencing.md, KPR_LATCH.CAUSE -/
def KPR_LATCH_CAUSE : Fld := ⟨0x80c, 0, 1, 6, 2, .ro, .k, 0, []⟩
/-- 05_keeper_and_sequencing.md, KPR_LATCH.CLR_REFUSED -/
def KPR_LATCH_CLR_REFUSED : Fld := ⟨0x80c, 0, 1, 5, 1, .w1c, .k, 0, []⟩
/-- 05_keeper_and_sequencing.md, KPR_LATCH.REC_LOST -/
def KPR_LATCH_REC_LOST : Fld := ⟨0x80c, 0, 1, 4, 1, .ro, .k, 0, []⟩
/-- 05_keeper_and_sequencing.md, KPR_LATCH.LATCH_READ -/
def KPR_LATCH_LATCH_READ : Fld := ⟨0x80c, 0, 1, 3, 1, .ro, .k, 0, []⟩
/-- 05_keeper_and_sequencing.md, KPR_LATCH.DAYBOOK_ACK -/
def KPR_LATCH_DAYBOOK_ACK : Fld := ⟨0x80c, 0, 1, 2, 1, .set, .k, 0, []⟩
/-- 05_keeper_and_sequencing.md, KPR_LATCH.CLR -/
def KPR_LATCH_CLR : Fld := ⟨0x80c, 0, 1, 1, 1, .wo, .v, 0, []⟩
/-- 05_keeper_and_sequencing.md, KPR_LATCH.SEQ_LATCH -/
def KPR_LATCH_SEQ_LATCH : Fld := ⟨0x80c, 0, 1, 0, 1, .ro, .k, 0, []⟩
/-- 05_keeper_and_sequencing.md, KPR_ON.RAILS -/
def KPR_ON_RAILS : Fld := ⟨0x820, 4, 3, 0, 32, .ro, .v, 0, []⟩
/-- 05_keeper_and_sequencing.md, KPR_GOOD.RAILS -/
def KPR_GOOD_RAILS : Fld := ⟨0x830, 4, 3, 0, 32, .ro, .v, 0, []⟩
/-- 05_keeper_and_sequencing.md, DBK_CFG.TIMED_S -/
def DBK_CFG_TIMED_S : Fld := ⟨0x840, 0, 1, 20, 12, .rw, .s, 0, []⟩
/-- 05_keeper_and_sequencing.md, DBK_CFG.SNAP_CLASS -/
def DBK_CFG_SNAP_CLASS : Fld := ⟨0x840, 0, 1, 16, 4, .rw, .s, 2, []⟩
/-- 05_keeper_and_sequencing.md, DBK_CFG.SRC_GAP -/
def DBK_CFG_SRC_GAP : Fld := ⟨0x840, 0, 1, 0, 16, .rw, .s, 1000, []⟩
/-- 05_keeper_and_sequencing.md, DBK_STAT.CRIT_LOST -/
def DBK_STAT_CRIT_LOST : Fld := ⟨0x844, 0, 1, 24, 8, .ro, .w, 0, []⟩
/-- 05_keeper_and_sequencing.md, DBK_STAT.DROPPED -/
def DBK_STAT_DROPPED : Fld := ⟨0x844, 0, 1, 8, 16, .ro, .w, 0, []⟩
/-- 05_keeper_and_sequencing.md, DBK_STAT.TOKENS -/
def DBK_STAT_TOKENS : Fld := ⟨0x844, 0, 1, 0, 7, .ro, .l, 64, []⟩
/-- 05_keeper_and_sequencing.md, DBK_HEAD.SEQ_HI -/
def DBK_HEAD_SEQ_HI : Fld := ⟨0x848, 0, 1, 10, 22, .ro, .m, 0, []⟩
/-- 05_keeper_and_sequencing.md, DBK_HEAD.SLOT -/
def DBK_HEAD_SLOT : Fld := ⟨0x848, 0, 1, 0, 10, .ro, .m, 1023, []⟩
/-- 05_keeper_and_sequencing.md, DBK_SNAP.GO -/
def DBK_SNAP_GO : Fld := ⟨0x84c, 0, 1, 0, 1, .wo, .v, 0, []⟩
/-- 05_keeper_and_sequencing.md, DBK_MASK.MASK -/
def DBK_MASK_MASK : Fld := ⟨0x850, 4, 6, 0, 32, .rw, .s, 4294967295, []⟩
/-- 05_keeper_and_sequencing.md, SEQ_OUT.RSTATE -/
def SEQ_OUT_RSTATE : Fld := ⟨0x900, 16, 72, 24, 4, .ro, .l, 0, []⟩
/-- 05_keeper_and_sequencing.md, SEQ_OUT.RANK -/
def SEQ_OUT_RANK : Fld := ⟨0x900, 16, 72, 16, 8, .rwl, .s, 0, []⟩
/-- 05_keeper_and_sequencing.md, SEQ_OUT.UP_SET -/
def SEQ_OUT_UP_SET : Fld := ⟨0x900, 16, 72, 15, 1, .rwl, .s, 0, []⟩
/-- 05_keeper_and_sequencing.md, SEQ_OUT.OWNER -/
def SEQ_OUT_OWNER : Fld := ⟨0x900, 16, 72, 10, 2, .rwl, .s, 0, []⟩
/-- 05_keeper_and_sequencing.md, SEQ_OUT.OUT_KIND -/
def SEQ_OUT_OUT_KIND : Fld := ⟨0x900, 16, 72, 8, 2, .rwl, .s, 0, []⟩
/-- 05_keeper_and_sequencing.md, SEQ_OUT.OUT_NUM -/
def SEQ_OUT_OUT_NUM : Fld := ⟨0x900, 16, 72, 0, 6, .rwl, .s, 0, []⟩
/-- 05_keeper_and_sequencing.md, SEQ_DEP.DEP2 -/
def SEQ_DEP_DEP2 : Fld := ⟨0x904, 16, 72, 16, 8, .rwl, .s, 255, []⟩
/-- 05_keeper_and_sequencing.md, SEQ_DEP.DEP1 -/
def SEQ_DEP_DEP1 : Fld := ⟨0x904, 16, 72, 8, 8, .rwl, .s, 255, []⟩
/-- 05_keeper_and_sequencing.md, SEQ_DEP.DEP0 -/
def SEQ_DEP_DEP0 : Fld := ⟨0x904, 16, 72, 0, 8, .rwl, .s, 255, []⟩
/-- 05_keeper_and_sequencing.md, SEQ_JDG.FLT_ACT -/
def SEQ_JDG_FLT_ACT : Fld := ⟨0x908, 16, 72, 26, 2, .rwl, .s, 2, []⟩
/-- 05_keeper_and_sequencing.md, SEQ_JDG.CRIER_ACT -/
def SEQ_JDG_CRIER_ACT : Fld := ⟨0x908, 16, 72, 24, 2, .rwl, .s, 3, []⟩
/-- 05_keeper_and_sequencing.md, SEQ_JDG.CRIER -/
def SEQ_JDG_CRIER : Fld := ⟨0x908, 16, 72, 15, 5, .rwl, .s, 31, []⟩
/-- 05_keeper_and_sequencing.md, SEQ_JDG.PG_SRC -/
def SEQ_JDG_PG_SRC : Fld := ⟨0x908, 16, 72, 8, 7, .rwl, .s, 127, []⟩
/-- 05_keeper_and_sequencing.md, SEQ_JDG.CHAN -/
def SEQ_JDG_CHAN : Fld := ⟨0x908, 16, 72, 0, 8, .rwl, .s, 255, []⟩
/-- 05_keeper_and_sequencing.md, SEQ_TIM.UP_TMO -/
def SEQ_TIM_UP_TMO : Fld := ⟨0x90c, 16, 72, 16, 16, .rwl, .s, 100, []⟩
/-- 05_keeper_and_sequencing.md, SEQ_TIM.DN_DLY -/
def SEQ_TIM_DN_DLY : Fld := ⟨0x90c, 16, 72, 0, 16, .rwl, .s, 0, []⟩
/-- 05_keeper_and_sequencing.md, SQ_CFG.IN -/
def SQ_CFG_IN : Fld := ⟨0xe00, 4, 64, 16, 1, .ro, .l, 0, []⟩
/-- 05_keeper_and_sequencing.md, SQ_CFG.PG_FILT -/
def SQ_CFG_PG_FILT : Fld := ⟨0xe00, 4, 64, 8, 8, .rwl, .s, 10, []⟩
/-- 05_keeper_and_sequencing.md, SQ_CFG.GPO -/
def SQ_CFG_GPO : Fld := ⟨0xe00, 4, 64, 4, 1, .rw, .s, 0, []⟩
/-- 05_keeper_and_sequencing.md, SQ_CFG.POL -/
def SQ_CFG_POL : Fld := ⟨0xe00, 4, 64, 3, 1, .rwl, .s, 0, []⟩
/-- 05_keeper_and_sequencing.md, SQ_CFG.MODE -/
def SQ_CFG_MODE : Fld := ⟨0xe00, 4, 64, 0, 3, .rwl, .s, 0, []⟩
/-- 08_stalls.md, STL_CTRL.RESTART -/
def STL_CTRL_RESTART : Fld := ⟨0x6000, 0, 1, 8, 4, .wo, .v, 0, []⟩
/-- 08_stalls.md, STL_CTRL.START -/
def STL_CTRL_START : Fld := ⟨0x6000, 0, 1, 0, 4, .wo, .v, 0, []⟩
/-- 08_stalls.md, STL_SPARE.TAKEOVERS -/
def STL_SPARE_TAKEOVERS : Fld := ⟨0x6004, 0, 1, 24, 8, .ro, .s, 0, []⟩
/-- 08_stalls.md, STL_SPARE.FENCED -/
def STL_SPARE_FENCED : Fld := ⟨0x6004, 0, 1, 16, 5, .ro, .s, 0, []⟩
/-- 08_stalls.md, STL_SPARE.SHADOW_ERR -/
def STL_SPARE_SHADOW_ERR : Fld := ⟨0x6004, 0, 1, 8, 1, .w1c, .v, 0, []⟩
/-- 08_stalls.md, STL_SPARE.FOR -/
def STL_SPARE_FOR : Fld := ⟨0x6004, 0, 1, 4, 3, .ro, .s, 7, []⟩
/-- 08_stalls.md, STL_SPARE.SPARE -/
def STL_SPARE_SPARE : Fld := ⟨0x6004, 0, 1, 0, 3, .ro, .s, 0, []⟩
/-- 08_stalls.md, STL_STAT.FPC -/
def STL_STAT_FPC : Fld := ⟨0x6010, 4, 4, 16, 13, .ro, .s, 0, []⟩
/-- 08_stalls.md, STL_STAT.START_BAD -/
def STL_STAT_START_BAD : Fld := ⟨0x6010, 4, 4, 15, 1, .w1c, .v, 0, []⟩
/-- 08_stalls.md, STL_STAT.KICK_BAD -/
def STL_STAT_KICK_BAD : Fld := ⟨0x6010, 4, 4, 14, 1, .w1c, .v, 0, []⟩
/-- 08_stalls.md, STL_STAT.WD_EXP -/
def STL_STAT_WD_EXP : Fld := ⟨0x6010, 4, 4, 13, 1, .w1c, .s, 0, []⟩
/-- 08_stalls.md, STL_STAT.WD_EARLY -/
def STL_STAT_WD_EARLY : Fld := ⟨0x6010, 4, 4, 12, 1, .w1c, .v, 0, []⟩
/-- 08_stalls.md, STL_STAT.FCODE -/
def STL_STAT_FCODE : Fld := ⟨0x6010, 4, 4, 8, 4, .ro, .s, 0, []⟩
/-- 08_stalls.md, STL_STAT.PHYS -/
def STL_STAT_PHYS : Fld := ⟨0x6010, 4, 4, 4, 3, .ro, .s, 0, [0, 1, 2, 3]⟩
/-- 08_stalls.md, STL_STAT.STATE -/
def STL_STAT_STATE : Fld := ⟨0x6010, 4, 4, 0, 3, .ro, .l, 0, []⟩
/-- 08_stalls.md, STL_TKLOG.DUR -/
def STL_TKLOG_DUR : Fld := ⟨0x6020, 0, 1, 20, 12, .ro, .s, 0, []⟩
/-- 08_stalls.md, STL_TKLOG.REISSUE -/
def STL_TKLOG_REISSUE : Fld := ⟨0x6020, 0, 1, 18, 1, .ro, .s, 0, []⟩
/-- 08_stalls.md, STL_TKLOG.ID -/
def STL_TKLOG_ID : Fld := ⟨0x6020, 0, 1, 16, 2, .ro, .s, 0, []⟩
/-- 08_stalls.md, STL_TKLOG.ADDR -/
def STL_TKLOG_ADDR : Fld := ⟨0x6020, 0, 1, 0, 13, .ro, .s, 0, []⟩
/-- 08_stalls.md, STL_WDCFG.STBY_RUN -/
def STL_WDCFG_STBY_RUN : Fld := ⟨0x6030, 4, 4, 17, 1, .rwl, .s, 0, []⟩
/-- 08_stalls.md, STL_WDCFG.RST -/
def STL_WDCFG_RST : Fld := ⟨0x6030, 4, 4, 16, 1, .rwl, .s, 1, []⟩
/-- 08_stalls.md, STL_WDCFG.TMO -/
def STL_WDCFG_TMO : Fld := ⟨0x6030, 4, 4, 0, 16, .rwl, .s, 0, []⟩
/-- 08_stalls.md, STL_WDKICK.KEY -/
def STL_WDKICK_KEY : Fld := ⟨0x6040, 4, 4, 0, 8, .wo, .v, 0, []⟩
/-- 08_stalls.md, MBX_IN.WORD -/
def MBX_IN_WORD : Fld := ⟨0x6050, 4, 4, 0, 32, .wo, .v, 0, []⟩
/-- 08_stalls.md, MBX_LEVEL.HOST_FULL -/
def MBX_LEVEL_HOST_FULL : Fld := ⟨0x6060, 0, 1, 24, 1, .w1c, .v, 0, []⟩
/-- 08_stalls.md, MBX_LEVEL.HOST -/
def MBX_LEVEL_HOST : Fld := ⟨0x6060, 0, 1, 16, 5, .ro, .s, 0, []⟩
/-- 08_stalls.md, MBX_LEVEL.RX3 -/
def MBX_LEVEL_RX3 : Fld := ⟨0x6060, 0, 1, 12, 4, .ro, .s, 0, []⟩
/-- 08_stalls.md, MBX_LEVEL.RX2 -/
def MBX_LEVEL_RX2 : Fld := ⟨0x6060, 0, 1, 8, 4, .ro, .s, 0, []⟩
/-- 08_stalls.md, MBX_LEVEL.RX1 -/
def MBX_LEVEL_RX1 : Fld := ⟨0x6060, 0, 1, 4, 4, .ro, .s, 0, []⟩
/-- 08_stalls.md, MBX_LEVEL.RX0 -/
def MBX_LEVEL_RX0 : Fld := ⟨0x6060, 0, 1, 0, 4, .ro, .s, 0, []⟩
/-- 08_stalls.md, MBX_HOST_HEAD.WORD -/
def MBX_HOST_HEAD_WORD : Fld := ⟨0x6064, 0, 1, 0, 32, .ro, .s, 0, []⟩
/-- 08_stalls.md, MBX_CTRL.FLUSH_RX -/
def MBX_CTRL_FLUSH_RX : Fld := ⟨0x6068, 0, 1, 4, 4, .wo, .v, 0, []⟩
/-- 08_stalls.md, MBX_CTRL.FLUSH_HOST -/
def MBX_CTRL_FLUSH_HOST : Fld := ⟨0x6068, 0, 1, 1, 1, .wo, .v, 0, []⟩
/-- 08_stalls.md, MBX_CTRL.POP -/
def MBX_CTRL_POP : Fld := ⟨0x6068, 0, 1, 0, 1, .wo, .v, 0, []⟩
/-- 09_power_path_and_charger.md, PP_CFG.FSW -/
def PP_CFG_FSW : Fld := ⟨0x3000, 0, 1, 25, 3, .rwl, .s, 2, []⟩
/-- 09_power_path_and_charger.md, PP_CFG.VSYS_MIN -/
def PP_CFG_VSYS_MIN : Fld := ⟨0x3000, 0, 1, 16, 9, .rwl, .s, 120, []⟩
/-- 09_power_path_and_charger.md, PP_CFG.CHEM -/
def PP_CFG_CHEM : Fld := ⟨0x3000, 0, 1, 12, 1, .rwl, .s, 0, []⟩
/-- 09_power_path_and_charger.md, PP_CFG.CELLS -/
def PP_CFG_CELLS : Fld := ⟨0x3000, 0, 1, 8, 4, .rwl, .s, 4, []⟩
/-- 09_power_path_and_charger.md, PP_CFG.UPGRADE -/
def PP_CFG_UPGRADE : Fld := ⟨0x3000, 0, 1, 7, 1, .rwl, .s, 0, []⟩
/-- 09_power_path_and_charger.md, PP_CFG.P1_EN -/
def PP_CFG_P1_EN : Fld := ⟨0x3000, 0, 1, 6, 1, .rwl, .s, 1, []⟩
/-- 09_power_path_and_charger.md, PP_CFG.P0_EN -/
def PP_CFG_P0_EN : Fld := ⟨0x3000, 0, 1, 5, 1, .rwl, .s, 1, []⟩
/-- 09_power_path_and_charger.md, PP_CFG.DCIN_EN -/
def PP_CFG_DCIN_EN : Fld := ⟨0x3000, 0, 1, 4, 1, .rwl, .s, 1, []⟩
/-- 09_power_path_and_charger.md, PP_CFG.PRIO -/
def PP_CFG_PRIO : Fld := ⟨0x3000, 0, 1, 0, 3, .rwl, .s, 0, []⟩
/-- 09_power_path_and_charger.md, PP_CTRL.SRCH_GO -/
def PP_CTRL_SRCH_GO : Fld := ⟨0x3004, 0, 1, 4, 1, .wo, .v, 0, []⟩
/-- 09_power_path_and_charger.md, PP_CTRL.CHG_CLR -/
def PP_CTRL_CHG_CLR : Fld := ⟨0x3004, 0, 1, 3, 1, .wo, .v, 0, []⟩
/-- 09_power_path_and_charger.md, PP_CTRL.RETEST -/
def PP_CTRL_RETEST : Fld := ⟨0x3004, 0, 1, 2, 1, .wo, .v, 0, []⟩
/-- 09_power_path_and_charger.md, PP_CTRL.BAT_GO -/
def PP_CTRL_BAT_GO : Fld := ⟨0x3004, 0, 1, 1, 1, .wo, .v, 0, []⟩
/-- 09_power_path_and_charger.md, PP_CTRL.CHG_EN -/
def PP_CTRL_CHG_EN : Fld := ⟨0x3004, 0, 1, 0, 1, .rw, .s, 0, []⟩
/-- 09_power_path_and_charger.md, PP_DCIN.OV -/
def PP_DCIN_OV : Fld := ⟨0x3008, 0, 1, 18, 9, .rwl, .s, 380, []⟩
/-- 09_power_path_and_charger.md, PP_DCIN.LOSS -/
def PP_DCIN_LOSS : Fld := ⟨0x3008, 0, 1, 9, 9, .rwl, .s, 80, []⟩
/-- 09_power_path_and_charger.md, PP_DCIN.QMIN -/
def PP_DCIN_QMIN : Fld := ⟨0x3008, 0, 1, 0, 9, .rwl, .s, 90, []⟩
/-- 09_power_path_and_charger.md, PP_SRCH.DIP_PCT -/
def PP_SRCH_DIP_PCT : Fld := ⟨0x300c, 0, 1, 26, 5, .rwl, .s, 8, []⟩
/-- 09_power_path_and_charger.md, PP_SRCH.T_STEP -/
def PP_SRCH_T_STEP : Fld := ⟨0x300c, 0, 1, 22, 4, .rwl, .s, 1, []⟩
/-- 09_power_path_and_charger.md, PP_SRCH.IIN_STEP -/
def PP_SRCH_IIN_STEP : Fld := ⟨0x300c, 0, 1, 18, 4, .rwl, .s, 10, []⟩
/-- 09_power_path_and_charger.md, PP_SRCH.IIN_MAX -/
def PP_SRCH_IIN_MAX : Fld := ⟨0x300c, 0, 1, 9, 9, .rwl, .s, 500, []⟩
/-- 09_power_path_and_charger.md, PP_SRCH.IIN_START -/
def PP_SRCH_IIN_START : Fld := ⟨0x300c, 0, 1, 0, 9, .rwl, .s, 40, []⟩
/-- 09_power_path_and_charger.md, PP_STAT.SRCH_END -/
def PP_STAT_SRCH_END : Fld := ⟨0x3010, 0, 1, 19, 3, .ro, .l, 0, []⟩
/-- 09_power_path_and_charger.md, PP_STAT.SUPPL -/
def PP_STAT_SUPPL : Fld := ⟨0x3010, 0, 1, 18, 1, .ro, .l, 0, []⟩
/-- 09_power_path_and_charger.md, PP_STAT.BATT_ABSENT -/
def PP_STAT_BATT_ABSENT : Fld := ⟨0x3010, 0, 1, 17, 1, .ro, .s, 0, []⟩
/-- 09_power_path_and_charger.md, PP_STAT.BAT -/
def PP_STAT_BAT : Fld := ⟨0x3010, 0, 1, 15, 2, .ro, .l, 0, []⟩
/-- 09_power_path_and_charger.md, PP_STAT.BFET -/
def PP_STAT_BFET : Fld := ⟨0x3010, 0, 1, 12, 3, .ro, .l, 0, []⟩
/-- 09_power_path_and_charger.md, PP_STAT.P1_ST -/
def PP_STAT_P1_ST : Fld := ⟨0x3010, 0, 1, 9, 3, .ro, .l, 0, []⟩
/-- 09_power_path_and_charger.md, PP_STAT.P0_ST -/
def PP_STAT_P0_ST : Fld := ⟨0x3010, 0, 1, 6, 3, .ro, .l, 0, []⟩
/-- 09_power_path_and_charger.md, PP_STAT.DCIN_ST -/
def PP_STAT_DCIN_ST : Fld := ⟨0x3010, 0, 1, 3, 3, .ro, .l, 0, []⟩
/-- 09_power_path_and_charger.md, PP_STAT.SEL -/
def PP_STAT_SEL : Fld := ⟨0x3010, 0, 1, 0, 2, .ro, .l, 0, []⟩
/-- 09_power_path_and_charger.md, PP_ILIM.IIN_LIM -/
def PP_ILIM_IIN_LIM : Fld := ⟨0x3014, 0, 1, 0, 9, .ro, .l, 0, []⟩
/-- 09_power_path_and_charger.md, PP_EVT.BAT_CMD_BAD -/
def PP_EVT_BAT_CMD_BAD : Fld := ⟨0x3018, 0, 1, 14, 1, .w1c, .v, 0, []⟩
/-- 09_power_path_and_charger.md, PP_EVT.BFET_SS_FAIL -/
def PP_EVT_BFET_SS_FAIL : Fld := ⟨0x3018, 0, 1, 13, 1, .w1c, .v, 0, []⟩
/-- 09_power_path_and_charger.md, PP_EVT.BSCP -/
def PP_EVT_BSCP : Fld := ⟨0x3018, 0, 1, 12, 1, .w1c, .v, 0, []⟩
/-- 09_power_path_and_charger.md, PP_EVT.BOCP -/
def PP_EVT_BOCP : Fld := ⟨0x3018, 0, 1, 11, 1, .w1c, .v, 0, []⟩
/-- 09_power_path_and_charger.md, PP_EVT.BUV -/
def PP_EVT_BUV : Fld := ⟨0x3018, 0, 1, 10, 1, .w1c, .v, 0, []⟩
/-- 09_power_path_and_charger.md, PP_EVT.BAT_SHORT -/
def PP_EVT_BAT_SHORT : Fld := ⟨0x3018, 0, 1, 9, 1, .w1c, .v, 0, []⟩
/-- 09_power_path_and_charger.md, PP_EVT.BAT_INSERT -/
def PP_EVT_BAT_INSERT : Fld := ⟨0x3018, 0, 1, 8, 1, .w1c, .v, 0, []⟩
/-- 09_power_path_and_charger.md, PP_EVT.BAT_REMOVED -/
def PP_EVT_BAT_REMOVED : Fld := ⟨0x3018, 0, 1, 7, 1, .w1c, .v, 0, []⟩
/-- 09_power_path_and_charger.md, PP_EVT.SUPPL_SEEN -/
def PP_EVT_SUPPL_SEEN : Fld := ⟨0x3018, 0, 1, 6, 1, .w1c, .v, 0, []⟩
/-- 09_power_path_and_charger.md, PP_EVT.SRCH_DONE -/
def PP_EVT_SRCH_DONE : Fld := ⟨0x3018, 0, 1, 5, 1, .w1c, .v, 0, []⟩
/-- 09_power_path_and_charger.md, PP_EVT.INSW_FAIL -/
def PP_EVT_INSW_FAIL : Fld := ⟨0x3018, 0, 1, 4, 1, .w1c, .v, 0, []⟩
/-- 09_power_path_and_charger.md, PP_EVT.RCP -/
def PP_EVT_RCP : Fld := ⟨0x3018, 0, 1, 3, 1, .w1c, .v, 0, []⟩
/-- 09_power_path_and_charger.md, PP_EVT.OV -/
def PP_EVT_OV : Fld := ⟨0x3018, 0, 1, 2, 1, .w1c, .v, 0, []⟩
/-- 09_power_path_and_charger.md, PP_EVT.LOSS -/
def PP_EVT_LOSS : Fld := ⟨0x3018, 0, 1, 0, 1, .w1c, .v, 0, []⟩
/-- 09_power_path_and_charger.md, CHG_I.ITERM -/
def CHG_I_ITERM : Fld := ⟨0x3020, 0, 1, 16, 7, .rw, .s, 4, []⟩
/-- 09_power_path_and_charger.md, CHG_I.IPRE -/
def CHG_I_IPRE : Fld := ⟨0x3020, 0, 1, 9, 7, .rw, .s, 4, []⟩
/-- 09_power_path_and_charger.md, CHG_I.ICHG -/
def CHG_I_ICHG : Fld := ⟨0x3020, 0, 1, 0, 9, .rw, .s, 40, []⟩
/-- 09_power_path_and_charger.md, CHG_V.VBUV -/
def CHG_V_VBUV : Fld := ⟨0x3024, 0, 1, 20, 8, .rwl, .s, 80, []⟩
/-- 09_power_path_and_charger.md, CHG_V.VRECHG -/
def CHG_V_VRECHG : Fld := ⟨0x3024, 0, 1, 16, 4, .rwl, .s, 4, []⟩
/-- 09_power_path_and_charger.md, CHG_V.VPRE -/
def CHG_V_VPRE : Fld := ⟨0x3024, 0, 1, 8, 8, .rwl, .s, 100, []⟩
/-- 09_power_path_and_charger.md, CHG_V.VREG -/
def CHG_V_VREG : Fld := ⟨0x3024, 0, 1, 0, 8, .rwl, .s, 160, []⟩
/-- 09_power_path_and_charger.md, CHG_LIM.LIN_PMAX -/
def CHG_LIM_LIN_PMAX : Fld := ⟨0x3028, 0, 1, 27, 5, .rwl, .s, 4, []⟩
/-- 09_power_path_and_charger.md, CHG_LIM.NTC_REQ -/
def CHG_LIM_NTC_REQ : Fld := ⟨0x3028, 0, 1, 26, 1, .rwl, .s, 1, []⟩
/-- 09_power_path_and_charger.md, CHG_LIM.NTC_CH -/
def CHG_LIM_NTC_CH : Fld := ⟨0x3028, 0, 1, 18, 8, .rwl, .s, 255, []⟩
/-- 09_power_path_and_charger.md, CHG_LIM.IDIS_MAX -/
def CHG_LIM_IDIS_MAX : Fld := ⟨0x3028, 0, 1, 9, 9, .rwl, .s, 300, []⟩
/-- 09_power_path_and_charger.md, CHG_LIM.ICHG_MAX -/
def CHG_LIM_ICHG_MAX : Fld := ⟨0x3028, 0, 1, 0, 9, .rwl, .s, 400, []⟩
/-- 09_power_path_and_charger.md, CHG_TMR.PT_PERIOD -/
def CHG_TMR_PT_PERIOD : Fld := ⟨0x302c, 0, 1, 16, 8, .rw, .s, 10, []⟩
/-- 09_power_path_and_charger.md, CHG_TMR.SAFE_TMO -/
def CHG_TMR_SAFE_TMO : Fld := ⟨0x302c, 0, 1, 8, 8, .rw, .s, 64, []⟩
/-- 09_power_path_and_charger.md, CHG_TMR.PRE_TMO -/
def CHG_TMR_PRE_TMO : Fld := ⟨0x302c, 0, 1, 0, 8, .rw, .s, 60, []⟩
/-- 09_power_path_and_charger.md, CHG_STAT.FLT_WHY -/
def CHG_STAT_FLT_WHY : Fld := ⟨0x3030, 0, 1, 12, 3, .ro, .l, 0, []⟩
/-- 09_power_path_and_charger.md, CHG_STAT.TEMP -/
def CHG_STAT_TEMP : Fld := ⟨0x3030, 0, 1, 10, 2, .ro, .l, 3, []⟩
/-- 09_power_path_and_charger.md, CHG_STAT.INH -/
def CHG_STAT_INH : Fld := ⟨0x3030, 0, 1, 3, 5, .ro, .l, 15, []⟩
/-- 09_power_path_and_charger.md, CHG_STAT.PHASE -/
def CHG_STAT_PHASE : Fld := ⟨0x3030, 0, 1, 0, 3, .ro, .l, 0, []⟩
/-- 10_cable_ports.md, PORT_CFG.DEF_ILIM -/
def PORT_CFG_DEF_ILIM : Fld := ⟨0x3800, 128, 2, 24, 7, .rw, .s, 10, []⟩
/-- 10_cable_ports.md, PORT_CFG.HOLD_SRC -/
def PORT_CFG_HOLD_SRC : Fld := ⟨0x3800, 128, 2, 22, 2, .rw, .s, 2, []⟩
/-- 10_cable_ports.md, PORT_CFG.PRS_POL -/
def PORT_CFG_PRS_POL : Fld := ⟨0x3800, 128, 2, 20, 2, .rw, .s, 1, []⟩
/-- 10_cable_ports.md, PORT_CFG.DRS_EN -/
def PORT_CFG_DRS_EN : Fld := ⟨0x3800, 128, 2, 19, 1, .rw, .s, 1, []⟩
/-- 10_cable_ports.md, PORT_CFG.VCONN_EN -/
def PORT_CFG_VCONN_EN : Fld := ⟨0x3800, 128, 2, 18, 1, .rw, .s, 1, []⟩
/-- 10_cable_ports.md, PORT_CFG.EPR_EN -/
def PORT_CFG_EPR_EN : Fld := ⟨0x3800, 128, 2, 17, 1, .rw, .s, 0, []⟩
/-- 10_cable_ports.md, PORT_CFG.PPS_EN -/
def PORT_CFG_PPS_EN : Fld := ⟨0x3800, 128, 2, 16, 1, .rw, .s, 0, []⟩
/-- 10_cable_ports.md, PORT_CFG.RP_LVL -/
def PORT_CFG_RP_LVL : Fld := ⟨0x3800, 128, 2, 14, 2, .rw, .s, 0, []⟩
/-- 10_cable_ports.md, PORT_CFG.TRY_SNK -/
def PORT_CFG_TRY_SNK : Fld := ⟨0x3800, 128, 2, 13, 1, .rw, .s, 0, []⟩
/-- 10_cable_ports.md, PORT_CFG.PD_EN -/
def PORT_CFG_PD_EN : Fld := ⟨0x3800, 128, 2, 12, 1, .rw, .s, 0, []⟩
/-- 10_cable_ports.md, PORT_CFG.ROLE -/
def PORT_CFG_ROLE : Fld := ⟨0x3800, 128, 2, 10, 2, .rw, .s, 0, []⟩
/-- 10_cable_ports.md, PORT_SNK.PMAX -/
def PORT_SNK_PMAX : Fld := ⟨0x3804, 128, 2, 23, 9, .rw, .s, 30, []⟩
/-- 10_cable_ports.md, PORT_SNK.IMAX -/
def PORT_SNK_IMAX : Fld := ⟨0x3804, 128, 2, 16, 7, .rw, .s, 60, []⟩
/-- 10_cable_ports.md, PORT_SNK.VMAX -/
def PORT_SNK_VMAX : Fld := ⟨0x3804, 128, 2, 8, 8, .rw, .s, 80, []⟩
/-- 10_cable_ports.md, PORT_SNK.VMIN -/
def PORT_SNK_VMIN : Fld := ⟨0x3804, 128, 2, 0, 8, .rw, .s, 20, []⟩
/-- 10_cable_ports.md, PORT_PPS.PPS_V -/
def PORT_PPS_PPS_V : Fld := ⟨0x3808, 128, 2, 0, 10, .rw, .s, 250, []⟩
/-- 10_cable_ports.md, PORT_SRCPDO.EN -/
def PORT_SRCPDO_EN : Fld := ⟨0x380c, 128, 2, 28, 4, .rw, .s, 1, []⟩
/-- 10_cable_ports.md, PORT_SRCPDO.I20 -/
def PORT_SRCPDO_I20 : Fld := ⟨0x380c, 128, 2, 18, 6, .rw, .s, 60, []⟩
/-- 10_cable_ports.md, PORT_SRCPDO.I15 -/
def PORT_SRCPDO_I15 : Fld := ⟨0x380c, 128, 2, 12, 6, .rw, .s, 60, []⟩
/-- 10_cable_ports.md, PORT_SRCPDO.I9 -/
def PORT_SRCPDO_I9 : Fld := ⟨0x380c, 128, 2, 6, 6, .rw, .s, 60, []⟩
/-- 10_cable_ports.md, PORT_SRCPDO.I5 -/
def PORT_SRCPDO_I5 : Fld := ⟨0x380c, 128, 2, 0, 6, .rw, .s, 30, []⟩
/-- 10_cable_ports.md, PORT_SRCLIM.SRC_PMAX -/
def PORT_SRCLIM_SRC_PMAX : Fld := ⟨0x3810, 128, 2, 0, 7, .rw, .s, 30, []⟩
/-- 10_cable_ports.md, PORT_CTRL.CMD -/
def PORT_CTRL_CMD : Fld := ⟨0x3814, 128, 2, 0, 4, .wo, .v, 0, []⟩
/-- 10_cable_ports.md, PORT_STAT.PE_BUSY -/
def PORT_STAT_PE_BUSY : Fld := ⟨0x3818, 128, 2, 16, 1, .ro, .l, 0, []⟩
/-- 10_cable_ports.md, PORT_STAT.NO_PD -/
def PORT_STAT_NO_PD : Fld := ⟨0x3818, 128, 2, 15, 1, .ro, .s, 0, []⟩
/-- 10_cable_ports.md, PORT_STAT.LATCHED -/
def PORT_STAT_LATCHED : Fld := ⟨0x3818, 128, 2, 14, 1, .ro, .s, 0, []⟩
/-- 10_cable_ports.md, PORT_STAT.EPR -/
def PORT_STAT_EPR : Fld := ⟨0x3818, 128, 2, 13, 1, .ro, .s, 0, []⟩
/-- 10_cable_ports.md, PORT_STAT.REV -/
def PORT_STAT_REV : Fld := ⟨0x3818, 128, 2, 11, 2, .ro, .s, 0, []⟩
/-- 10_cable_ports.md, PORT_STAT.VCONN -/
def PORT_STAT_VCONN : Fld := ⟨0x3818, 128, 2, 10, 1, .ro, .s, 0, []⟩
/-- 10_cable_ports.md, PORT_STAT.CONTRACT -/
def PORT_STAT_CONTRACT : Fld := ⟨0x3818, 128, 2, 8, 2, .ro, .s, 0, []⟩
/-- 10_cable_ports.md, PORT_STAT.DROLE -/
def PORT_STAT_DROLE : Fld := ⟨0x3818, 128, 2, 7, 1, .ro, .s, 0, []⟩
/-- 10_cable_ports.md, PORT_STAT.PROLE -/
def PORT_STAT_PROLE : Fld := ⟨0x3818, 128, 2, 6, 1, .ro, .s, 0, []⟩
/-- 10_cable_ports.md, PORT_STAT.TC_LVL -/
def PORT_STAT_TC_LVL : Fld := ⟨0x3818, 128, 2, 4, 2, .ro, .s, 0, []⟩
/-- 10_cable_ports.md, PORT_STAT.ORIENT -/
def PORT_STAT_ORIENT : Fld := ⟨0x3818, 128, 2, 3, 1, .ro, .s, 0, []⟩
/-- 10_cable_ports.md, PORT_STAT.TC -/
def PORT_STAT_TC : Fld := ⟨0x3818, 128, 2, 0, 3, .ro, .s, 0, []⟩
/-- 10_cable_ports.md, PORT_CONTRACT.OBJ -/
def PORT_CONTRACT_OBJ : Fld := ⟨0x381c, 128, 2, 28, 4, .ro, .s, 0, []⟩
/-- 10_cable_ports.md, PORT_CONTRACT.V -/
def PORT_CONTRACT_V : Fld := ⟨0x381c, 128, 2, 16, 12, .ro, .s, 0, []⟩
/-- 10_cable_ports.md, PORT_CONTRACT.I -/
def PORT_CONTRACT_I : Fld := ⟨0x381c, 128, 2, 0, 7, .ro, .s, 0, []⟩
/-- 10_cable_ports.md, PORT_RXPDO.PDO -/
def PORT_RXPDO_PDO : Fld := ⟨0x3820, 4, 43, 0, 32, .ro, .s, 0, []⟩
/-- 10_cable_ports.md, PORT_CABLE.VALID -/
def PORT_CABLE_VALID : Fld := ⟨0x384c, 128, 2, 31, 1, .ro, .s, 0, []⟩
/-- 10_cable_ports.md, PORT_CABLE.EPR_CAP -/
def PORT_CABLE_EPR_CAP : Fld := ⟨0x384c, 128, 2, 30, 1, .ro, .s, 0, []⟩
/-- 10_cable_ports.md, PORT_CABLE.ICAP -/
def PORT_CABLE_ICAP : Fld := ⟨0x384c, 128, 2, 28, 2, .ro, .s, 0, []⟩
/-- 10_cable_ports.md, PORT_CABLE.VMAX -/
def PORT_CABLE_VMAX : Fld := ⟨0x384c, 128, 2, 26, 2, .ro, .s, 0, []⟩
/-- 10_cable_ports.md, PORT_EVT.NO_PD -/
def PORT_EVT_NO_PD : Fld := ⟨0x3850, 128, 2, 17, 1, .w1c, .v, 0, []⟩
/-- 10_cable_ports.md, PORT_EVT.CMD_BAD -/
def PORT_EVT_CMD_BAD : Fld := ⟨0x3850, 128, 2, 16, 1, .w1c, .v, 0, []⟩
/-- 10_cable_ports.md, PORT_EVT.NSUP -/
def PORT_EVT_NSUP : Fld := ⟨0x3850, 128, 2, 15, 1, .w1c, .v, 0, []⟩
/-- 10_cable_ports.md, PORT_EVT.MISMATCH -/
def PORT_EVT_MISMATCH : Fld := ⟨0x3850, 128, 2, 14, 1, .w1c, .v, 0, []⟩
/-- 10_cable_ports.md, PORT_EVT.SETTLE_FAIL -/
def PORT_EVT_SETTLE_FAIL : Fld := ⟨0x3850, 128, 2, 13, 1, .w1c, .v, 0, []⟩
/-- 10_cable_ports.md, PORT_EVT.VCONN_OCP -/
def PORT_EVT_VCONN_OCP : Fld := ⟨0x3850, 128, 2, 12, 1, .w1c, .v, 0, []⟩
/-- 10_cable_ports.md, PORT_EVT.CC_OVP -/
def PORT_EVT_CC_OVP : Fld := ⟨0x3850, 128, 2, 11, 1, .w1c, .v, 0, []⟩
/-- 10_cable_ports.md, PORT_EVT.RCP -/
def PORT_EVT_RCP : Fld := ⟨0x3850, 128, 2, 10, 1, .w1c, .v, 0, []⟩
/-- 10_cable_ports.md, PORT_EVT.OCP -/
def PORT_EVT_OCP : Fld := ⟨0x3850, 128, 2, 9, 1, .w1c, .v, 0, []⟩
/-- 10_cable_ports.md, PORT_EVT.OVP -/
def PORT_EVT_OVP : Fld := ⟨0x3850, 128, 2, 8, 1, .w1c, .v, 0, []⟩
/-- 10_cable_ports.md, PORT_EVT.SWAP_REJ -/
def PORT_EVT_SWAP_REJ : Fld := ⟨0x3850, 128, 2, 7, 1, .w1c, .v, 0, []⟩
/-- 10_cable_ports.md, PORT_EVT.SWAP_DONE -/
def PORT_EVT_SWAP_DONE : Fld := ⟨0x3850, 128, 2, 6, 1, .w1c, .v, 0, []⟩
/-- 10_cable_ports.md, PORT_EVT.HRST_TX -/
def PORT_EVT_HRST_TX : Fld := ⟨0x3850, 128, 2, 5, 1, .w1c, .v, 0, []⟩
/-- 10_cable_ports.md, PORT_EVT.HRST_RX -/
def PORT_EVT_HRST_RX : Fld := ⟨0x3850, 128, 2, 4, 1, .w1c, .v, 0, []⟩
/-- 10_cable_ports.md, PORT_EVT.ABORT -/
def PORT_EVT_ABORT : Fld := ⟨0x3850, 128, 2, 3, 1, .w1c, .v, 0, []⟩
/-- 10_cable_ports.md, PORT_EVT.CONTRACT -/
def PORT_EVT_CONTRACT : Fld := ⟨0x3850, 128, 2, 2, 1, .w1c, .v, 0, []⟩
/-- 10_cable_ports.md, PORT_EVT.DETACH -/
def PORT_EVT_DETACH : Fld := ⟨0x3850, 128, 2, 1, 1, .w1c, .v, 0, []⟩
/-- 10_cable_ports.md, PORT_EVT.ATTACH -/
def PORT_EVT_ATTACH : Fld := ⟨0x3850, 128, 2, 0, 1, .w1c, .v, 0, []⟩
/-- 11_battery_gauge.md, GG_CFG.R0_INIT -/
def GG_CFG_R0_INIT : Fld := ⟨0x4000, 0, 1, 12, 8, .rwl, .s, 40, []⟩
/-- 11_battery_gauge.md, GG_CFG.OCV_SRC -/
def GG_CFG_OCV_SRC : Fld := ⟨0x4000, 0, 1, 9, 1, .rwl, .s, 0, []⟩
/-- 11_battery_gauge.md, GG_CFG.RSH -/
def GG_CFG_RSH : Fld := ⟨0x4000, 0, 1, 0, 9, .rwl, .s, 100, []⟩
/-- 11_battery_gauge.md, GG_DESIGN.DESIGN -/
def GG_DESIGN_DESIGN : Fld := ⟨0x4004, 0, 1, 0, 24, .rwl, .s, 2000, []⟩
/-- 11_battery_gauge.md, GG_RSV.RSV_MIN -/
def GG_RSV_RSV_MIN : Fld := ⟨0x4008, 0, 1, 24, 8, .rwl, .s, 10, []⟩
/-- 11_battery_gauge.md, GG_RSV.I_HOLD -/
def GG_RSV_I_HOLD : Fld := ⟨0x4008, 0, 1, 0, 16, .rwl, .s, 1000, []⟩
/-- 11_battery_gauge.md, GG_REF.STEP_SIG -/
def GG_REF_STEP_SIG : Fld := ⟨0x400c, 0, 1, 24, 8, .rw, .s, 10, []⟩
/-- 11_battery_gauge.md, GG_REF.DI_STEP -/
def GG_REF_DI_STEP : Fld := ⟨0x400c, 0, 1, 16, 8, .rw, .s, 20, []⟩
/-- 11_battery_gauge.md, GG_REF.I_REST -/
def GG_REF_I_REST : Fld := ⟨0x400c, 0, 1, 8, 8, .rw, .s, 5, []⟩
/-- 11_battery_gauge.md, GG_REF.LEARN_DX -/
def GG_REF_LEARN_DX : Fld := ⟨0x400c, 0, 1, 0, 8, .rw, .s, 40, []⟩
/-- 11_battery_gauge.md, GG_WARN.WARN2 -/
def GG_WARN_WARN2 : Fld := ⟨0x4010, 0, 1, 16, 16, .rw, .s, 0, []⟩
/-- 11_battery_gauge.md, GG_WARN.WARN1 -/
def GG_WARN_WARN1 : Fld := ⟨0x4010, 0, 1, 0, 16, .rw, .s, 0, []⟩
/-- 11_battery_gauge.md, GG_VBAT.VBAT_K -/
def GG_VBAT_VBAT_K : Fld := ⟨0x4014, 0, 1, 16, 16, .rw, .s, 0, []⟩
/-- 11_battery_gauge.md, GG_VBAT.VBAT_CH -/
def GG_VBAT_VBAT_CH : Fld := ⟨0x4014, 0, 1, 0, 8, .rw, .s, 255, []⟩
/-- 11_battery_gauge.md, GG_JRNL.VWRITE_MIN -/
def GG_JRNL_VWRITE_MIN : Fld := ⟨0x4018, 0, 1, 16, 16, .rwl, .s, 0, []⟩
/-- 11_battery_gauge.md, GG_JRNL.HOLD_US -/
def GG_JRNL_HOLD_US : Fld := ⟨0x4018, 0, 1, 8, 8, .rwl, .s, 0, []⟩
/-- 11_battery_gauge.md, GG_JRNL.VSYS_CH -/
def GG_JRNL_VSYS_CH : Fld := ⟨0x4018, 0, 1, 0, 8, .rwl, .s, 255, []⟩
/-- 11_battery_gauge.md, GG_CTRL.SPREAD_MAX -/
def GG_CTRL_SPREAD_MAX : Fld := ⟨0x401c, 0, 1, 8, 8, .rw, .s, 100, []⟩
/-- 11_battery_gauge.md, GG_CTRL.NEW_PACK -/
def GG_CTRL_NEW_PACK : Fld := ⟨0x401c, 0, 1, 0, 1, .wo, .v, 0, []⟩
/-- 11_battery_gauge.md, GG_Q.SOC_PCT -/
def GG_Q_SOC_PCT : Fld := ⟨0x4020, 0, 1, 24, 8, .ro, .s, 0, []⟩
/-- 11_battery_gauge.md, GG_Q.Q_U -/
def GG_Q_Q_U : Fld := ⟨0x4020, 0, 1, 0, 24, .ro, .s, 0, []⟩
/-- 11_battery_gauge.md, GG_FCC.FCC_U -/
def GG_FCC_FCC_U : Fld := ⟨0x4024, 0, 1, 0, 24, .ro, .s, 0, []⟩
/-- 11_battery_gauge.md, GG_QFC.LEARN_CNT -/
def GG_QFC_LEARN_CNT : Fld := ⟨0x4028, 0, 1, 24, 8, .ro, .n, 0, []⟩
/-- 11_battery_gauge.md, GG_QFC.Q_FC -/
def GG_QFC_Q_FC : Fld := ⟨0x4028, 0, 1, 0, 24, .ro, .n, 2000, []⟩
/-- 11_battery_gauge.md, GG_UNC.HRS -/
def GG_UNC_HRS : Fld := ⟨0x402c, 0, 1, 24, 8, .ro, .s, 0, []⟩
/-- 11_battery_gauge.md, GG_UNC.U -/
def GG_UNC_U : Fld := ⟨0x402c, 0, 1, 0, 24, .ro, .s, 0, []⟩
/-- 11_battery_gauge.md, GG_LVL.Q_RIF -/
def GG_LVL_Q_RIF : Fld := ⟨0x4030, 0, 1, 0, 24, .ro, .s, 0, []⟩
/-- 11_battery_gauge.md, GG_R0.LAST_REF -/
def GG_R0_LAST_REF : Fld := ⟨0x4034, 0, 1, 28, 4, .ro, .s, 0, []⟩
/-- 11_battery_gauge.md, GG_R0.R0 -/
def GG_R0_R0 : Fld := ⟨0x4034, 0, 1, 0, 16, .ro, .s, 400, []⟩
/-- 11_battery_gauge.md, GG_STAT.STEPS -/
def GG_STAT_STEPS : Fld := ⟨0x4038, 0, 1, 16, 4, .ro, .s, 0, []⟩
/-- 11_battery_gauge.md, GG_STAT.TBL_BAD -/
def GG_STAT_TBL_BAD : Fld := ⟨0x4038, 0, 1, 15, 1, .ro, .s, 0, []⟩
/-- 11_battery_gauge.md, GG_STAT.WR_SKIP -/
def GG_STAT_WR_SKIP : Fld := ⟨0x4038, 0, 1, 14, 1, .w1c, .v, 0, []⟩
/-- 11_battery_gauge.md, GG_STAT.CMD_BAD -/
def GG_STAT_CMD_BAD : Fld := ⟨0x4038, 0, 1, 13, 1, .w1c, .v, 0, []⟩
/-- 11_battery_gauge.md, GG_STAT.RSV_BIG -/
def GG_STAT_RSV_BIG : Fld := ⟨0x4038, 0, 1, 12, 1, .ro, .s, 0, []⟩
/-- 11_battery_gauge.md, GG_STAT.LEARN_PEND -/
def GG_STAT_LEARN_PEND : Fld := ⟨0x4038, 0, 1, 11, 1, .ro, .s, 0, []⟩
/-- 11_battery_gauge.md, GG_STAT.SPREAD -/
def GG_STAT_SPREAD : Fld := ⟨0x4038, 0, 1, 10, 1, .ro, .s, 0, []⟩
/-- 11_battery_gauge.md, GG_STAT.CELL_HI -/
def GG_STAT_CELL_HI : Fld := ⟨0x4038, 0, 1, 9, 1, .ro, .s, 0, []⟩
/-- 11_battery_gauge.md, GG_STAT.WARN2 -/
def GG_STAT_WARN2 : Fld := ⟨0x4038, 0, 1, 8, 1, .ro, .s, 0, []⟩
/-- 11_battery_gauge.md, GG_STAT.WARN1 -/
def GG_STAT_WARN1 : Fld := ⟨0x4038, 0, 1, 7, 1, .ro, .s, 0, []⟩
/-- 11_battery_gauge.md, GG_STAT.EMPTY -/
def GG_STAT_EMPTY : Fld := ⟨0x4038, 0, 1, 6, 1, .ro, .s, 0, []⟩
/-- 11_battery_gauge.md, GG_STAT.RSV_LOW -/
def GG_STAT_RSV_LOW : Fld := ⟨0x4038, 0, 1, 5, 1, .ro, .s, 0, []⟩
/-- 11_battery_gauge.md, GG_STAT.RSV_ENTER -/
def GG_STAT_RSV_ENTER : Fld := ⟨0x4038, 0, 1, 4, 1, .ro, .s, 0, []⟩
/-- 11_battery_gauge.md, GG_STAT.REF_STALE -/
def GG_STAT_REF_STALE : Fld := ⟨0x4038, 0, 1, 3, 1, .ro, .s, 1, []⟩
/-- 11_battery_gauge.md, GG_STAT.FROZEN -/
def GG_STAT_FROZEN : Fld := ⟨0x4038, 0, 1, 2, 1, .ro, .s, 0, []⟩
/-- 11_battery_gauge.md, GG_STAT.VALID -/
def GG_STAT_VALID : Fld := ⟨0x4038, 0, 1, 0, 1, .ro, .s, 0, []⟩
/-- 11_battery_gauge.md, GG_OCV.P_HI -/
def GG_OCV_P_HI : Fld := ⟨0x4040, 4, 10, 16, 16, .rwl, .s, 0, []⟩
/-- 11_battery_gauge.md, GG_OCV.P_LO -/
def GG_OCV_P_LO : Fld := ⟨0x4040, 4, 11, 0, 16, .rwl, .s, 0, []⟩
/-- 12_ledger_faults.md, LG_CFG.BUS_MASK -/
def LG_CFG_BUS_MASK : Fld := ⟨0x4800, 0, 1, 4, 3, .rwl, .s, 3, []⟩
/-- 12_ledger_faults.md, LG_CFG.FLT_MASK -/
def LG_CFG_FLT_MASK : Fld := ⟨0x4800, 0, 1, 0, 3, .rwl, .s, 2, []⟩
/-- 12_ledger_faults.md, LG_STAT.GRAVE -/
def LG_STAT_GRAVE : Fld := ⟨0x4804, 0, 1, 31, 1, .ro, .a, 0, []⟩
/-- 12_ledger_faults.md, LG_STAT.FLT_LOW -/
def LG_STAT_FLT_LOW : Fld := ⟨0x4804, 0, 1, 30, 1, .ro, .l, 0, []⟩
/-- 12_ledger_faults.md, LG_STAT.BUS_DRV -/
def LG_STAT_BUS_DRV : Fld := ⟨0x4804, 0, 1, 29, 1, .ro, .l, 0, []⟩
/-- 12_ledger_faults.md, LG_STAT.BUS_LOW -/
def LG_STAT_BUS_LOW : Fld := ⟨0x4804, 0, 1, 28, 1, .ro, .l, 0, []⟩
/-- 12_ledger_faults.md, LG_STAT.ADMIT_LOST -/
def LG_STAT_ADMIT_LOST : Fld := ⟨0x4804, 0, 1, 27, 1, .w1c, .v, 0, []⟩
/-- 12_ledger_faults.md, LG_STAT.GRAVE_SRC -/
def LG_STAT_GRAVE_SRC : Fld := ⟨0x4804, 0, 1, 16, 8, .ro, .a, 255, []⟩
/-- 12_ledger_faults.md, LG_STAT.LAST_SRC -/
def LG_STAT_LAST_SRC : Fld := ⟨0x4804, 0, 1, 8, 8, .ro, .s, 255, []⟩
/-- 12_ledger_faults.md, LG_STAT.LAST_CLASS -/
def LG_STAT_LAST_CLASS : Fld := ⟨0x4804, 0, 1, 0, 3, .ro, .s, 0, []⟩
/-- 12_ledger_faults.md, LG_ADMIT.RCV_CLR -/
def LG_ADMIT_RCV_CLR : Fld := ⟨0x4808, 0, 1, 9, 1, .wo, .v, 0, []⟩
/-- 12_ledger_faults.md, LG_ADMIT.ADMIT -/
def LG_ADMIT_ADMIT : Fld := ⟨0x4808, 0, 1, 8, 1, .wo, .v, 0, []⟩
/-- 12_ledger_faults.md, LG_ADMIT.SRC -/
def LG_ADMIT_SRC : Fld := ⟨0x4808, 0, 1, 0, 7, .wo, .v, 0, []⟩
/-- 12_ledger_faults.md, LG_STICKY.STICKY -/
def LG_STICKY_STICKY : Fld := ⟨0x4810, 4, 4, 0, 32, .w1c, .s, 0, []⟩
/-- 12_ledger_faults.md, LS_CFG.RAISABLE -/
def LS_CFG_RAISABLE : Fld := ⟨0x4900, 4, 128, 31, 1, .ro, .v, 0, [0, 0, 0, 0, 0, 0, 0, 0, 0, 0, 0, 0, 0, 0, 0, 0, 0, 0, 0, 0, 0, 0, 0, 0, 0, 0, 0, 0, 0, 0, 0, 0, 0, 0, 0, 0, 0, 0, 0, 0, 0, 0, 0, 0, 0, 0, 0, 0, 0, 0, 0, 0, 0, 0, 0, 0, 0, 0, 0, 0, 0, 0, 0, 0, 0, 0, 0, 0, 0, 0, 0, 0, 0, 0, 0, 0, 0, 0, 0, 0, 0, 0, 0, 0, 0, 0, 0, 0, 0, 0, 0, 0, 0, 0, 0, 0, 0, 0, 0, 0, 0, 0, 0, 0, 0, 0, 0, 0, 0, 0, 0, 0, 1, 1, 1, 1, 1, 1, 1, 1, 1, 1, 1, 1, 1, 1, 1, 1]⟩
/-- 12_ledger_faults.md, LS_CFG.THR -/
def LS_CFG_THR : Fld := ⟨0x4900, 4, 128, 16, 8, .rwl, .s, 1, [3, 3, 3, 3, 3, 3, 3, 3, 3, 3, 3, 3, 3, 3, 3, 3, 3, 3, 3, 3, 3, 3, 3, 3, 1, 1, 1, 1, 1, 1, 1, 1, 1, 1, 1, 1, 1, 1, 1, 1, 10, 10, 10, 10, 10, 10, 10, 10, 10, 10, 10, 10, 3, 3, 3, 3, 3, 3, 3, 3, 3, 3, 3, 3, 3, 3, 3, 3, 3, 3, 3, 3, 1, 1, 1, 1, 1, 1, 1, 1, 1, 1, 1, 1, 1, 1, 1, 16, 10, 1, 1, 1, 1, 1, 1, 1, 3, 3, 1, 1, 1, 1, 1, 1, 1, 1, 1, 1, 1, 1, 1, 1, 1, 1, 1, 1, 1, 1, 1, 1, 1, 1, 1, 1, 1, 1, 1, 1]⟩
/-- 12_ledger_faults.md, LS_CFG.ESC_REACT -/
def LS_CFG_ESC_REACT : Fld := ⟨0x4900, 4, 128, 12, 3, .rwl, .s, 0, [1, 1, 1, 1, 1, 1, 1, 1, 1, 1, 1, 1, 1, 1, 1, 1, 1, 1, 1, 1, 1, 1, 1, 1, 0, 0, 0, 0, 0, 0, 0, 0, 0, 0, 0, 0, 0, 0, 0, 0, 0, 0, 0, 0, 0, 0, 0, 0, 0, 0, 0, 0, 1, 1, 1, 1, 1, 1, 1, 1, 1, 1, 1, 1, 1, 1, 1, 1, 1, 1, 1, 1, 0, 0, 0, 0, 0, 0, 0, 0, 0, 0, 0, 0, 0, 0, 0, 0, 0, 0, 0, 0, 0, 0, 0, 0, 0, 0, 0, 0, 0, 0, 0, 0, 0, 0, 0, 0, 0, 0, 0, 0, 0, 0, 0, 0, 0, 0, 0, 0, 0, 0, 0, 0, 0, 0, 0, 0]⟩
/-- 12_ledger_faults.md, LS_CFG.ESC_CLASS -/
def LS_CFG_ESC_CLASS : Fld := ⟨0x4900, 4, 128, 8, 3, .rwl, .s, 3, [3, 3, 3, 3, 3, 3, 3, 3, 3, 3, 3, 3, 3, 3, 3, 3, 3, 3, 3, 3, 3, 3, 3, 3, 3, 3, 3, 3, 3, 3, 3, 3, 1, 1, 1, 1, 1, 1, 1, 1, 3, 3, 3, 3, 3, 3, 3, 3, 3, 3, 3, 3, 3, 3, 3, 3, 2, 2, 2, 2, 2, 2, 2, 2, 2, 2, 2, 2, 2, 2, 2, 2, 2, 3, 3, 2, 3, 3, 3, 0, 0, 2, 2, 3, 3, 4, 1, 1, 2, 2, 2, 2, 2, 3, 1, 1, 2, 2, 3, 1, 1, 3, 3, 2, 1, 3, 1, 1, 2, 0, 0, 2, 0, 0, 0, 0, 0, 0, 0, 0, 0, 0, 0, 0, 0, 0, 0, 0]⟩
/-- 12_ledger_faults.md, LS_CFG.REACT -/
def LS_CFG_REACT : Fld := ⟨0x4900, 4, 128, 4, 3, .rwl, .s, 0, [1, 1, 1, 1, 1, 1, 1, 1, 1, 1, 1, 1, 1, 1, 1, 1, 1, 1, 1, 1, 1, 1, 1, 1, 0, 0, 0, 0, 0, 0, 0, 0, 0, 0, 0, 0, 0, 0, 0, 0, 0, 0, 0, 0, 0, 0, 0, 0, 0, 0, 0, 0, 1, 1, 1, 1, 1, 1, 1, 1, 1, 1, 1, 1, 1, 1, 1, 1, 1, 1, 1, 1, 0, 0, 0, 0, 0, 0, 0, 0, 0, 0, 0, 0, 0, 0, 0, 0, 0, 0, 0, 0, 0, 0, 0, 0, 0, 0, 0, 0, 0, 0, 0, 0, 0, 0, 0, 0, 0, 0, 0, 0, 0, 0, 0, 0, 0, 0, 0, 0, 0, 0, 0, 0, 0, 0, 0, 0]⟩
/-- 12_ledger_faults.md, LS_CFG.CLASS -/
def LS_CFG_CLASS : Fld := ⟨0x4900, 4, 128, 0, 3, .rwl, .s, 2, [2, 2, 2, 2, 2, 2, 2, 2, 2, 2, 2, 2, 2, 2, 2, 2, 2, 2, 2, 2, 2, 2, 2, 2, 3, 3, 3, 3, 3, 3, 3, 3, 1, 1, 1, 1, 1, 1, 1, 1, 2, 2, 2, 2, 2, 2, 2, 2, 2, 2, 2, 2, 2, 2, 2, 2, 1, 1, 1, 1, 1, 1, 1, 1, 1, 1, 1, 1, 1, 1, 1, 1, 2, 3, 3, 2, 3, 3, 3, 0, 0, 2, 2, 3, 3, 4, 1, 0, 1, 2, 2, 2, 2, 3, 1, 1, 1, 1, 3, 1, 1, 3, 3, 2, 1, 3, 1, 1, 2, 0, 0, 2, 0, 0, 0, 0, 0, 0, 0, 0, 0, 0, 0, 0, 0, 0, 0, 0]⟩
/-- 12_ledger_faults.md, LS_TIME.RCV_MAX -/
def LS_TIME_RCV_MAX : Fld := ⟨0x4b00, 4, 128, 24, 8, .rwl, .s, 0, [3, 3, 3, 3, 3, 3, 3, 3, 3, 3, 3, 3, 3, 3, 3, 3, 3, 3, 3, 3, 3, 3, 3, 3, 0, 0, 0, 0, 0, 0, 0, 0, 0, 0, 0, 0, 0, 0, 0, 0, 0, 0, 0, 0, 0, 0, 0, 0, 0, 0, 0, 0, 3, 3, 3, 3, 3, 3, 3, 3, 3, 3, 3, 3, 3, 3, 3, 3, 3, 3, 3, 3, 0, 0, 0, 0, 0, 0, 0, 0, 0, 0, 0, 0, 0, 0, 0, 0, 0, 0, 0, 0, 0, 0, 0, 0, 0, 0, 0, 0, 0, 0, 0, 0, 0, 0, 0, 0, 0, 0, 0, 0, 0, 0, 0, 0, 0, 0, 0, 0, 0, 0, 0, 0, 0, 0, 0, 0]⟩
/-- 12_ledger_faults.md, LS_TIME.Q_U -/
def LS_TIME_Q_U : Fld := ⟨0x4b00, 4, 128, 23, 1, .rwl, .s, 0, [1, 1, 1, 1, 1, 1, 1, 1, 1, 1, 1, 1, 1, 1, 1, 1, 1, 1, 1, 1, 1, 1, 1, 1, 0, 0, 0, 0, 0, 0, 0, 0, 0, 0, 0, 0, 0, 0, 0, 0, 0, 0, 0, 0, 0, 0, 0, 0, 0, 0, 0, 0, 1, 1, 1, 1, 1, 1, 1, 1, 1, 1, 1, 1, 1, 1, 1, 1, 1, 1, 1, 1, 0, 0, 0, 0, 0, 0, 0, 0, 0, 0, 0, 0, 0, 0, 0, 0, 0, 0, 0, 0, 0, 0, 0, 0, 0, 0, 0, 0, 0, 0, 0, 0, 0, 0, 0, 0, 0, 0, 0, 0, 0, 0, 0, 0, 0, 0, 0, 0, 0, 0, 0, 0, 0, 0, 0, 0]⟩
/-- 12_ledger_faults.md, LS_TIME.Q_V -/
def LS_TIME_Q_V : Fld := ⟨0x4b00, 4, 128, 16, 7, .rwl, .s, 0, [10, 10, 10, 10, 10, 10, 10, 10, 10, 10, 10, 10, 10, 10, 10, 10, 10, 10, 10, 10, 10, 10, 10, 10, 0, 0, 0, 0, 0, 0, 0, 0, 0, 0, 0, 0, 0, 0, 0, 0, 0, 0, 0, 0, 0, 0, 0, 0, 0, 0, 0, 0, 1, 1, 1, 1, 100, 100, 100, 100, 100, 100, 100, 100, 100, 100, 100, 100, 100, 100, 100, 100, 0, 0, 0, 0, 0, 0, 0, 0, 0, 0, 0, 0, 0, 0, 0, 0, 0, 0, 0, 0, 0, 0, 0, 0, 0, 0, 0, 0, 0, 0, 0, 0, 0, 0, 0, 0, 0, 0, 0, 0, 0, 0, 0, 0, 0, 0, 0, 0, 0, 0, 0, 0, 0, 0, 0, 0]⟩
/-- 12_ledger_faults.md, LS_TIME.WIN_U -/
def LS_TIME_WIN_U : Fld := ⟨0x4b00, 4, 128, 14, 2, .rwl, .s, 0, [2, 2, 2, 2, 2, 2, 2, 2, 2, 2, 2, 2, 2, 2, 2, 2, 2, 2, 2, 2, 2, 2, 2, 2, 0, 0, 0, 0, 0, 0, 0, 0, 0, 0, 0, 0, 0, 0, 0, 0, 1, 1, 1, 1, 1, 1, 1, 1, 1, 1, 1, 1, 2, 2, 2, 2, 2, 2, 2, 2, 2, 2, 2, 2, 2, 2, 2, 2, 2, 2, 2, 2, 0, 0, 0, 0, 0, 0, 0, 0, 0, 0, 0, 0, 0, 0, 0, 2, 2, 0, 0, 0, 0, 0, 0, 0, 2, 2, 0, 0, 0, 0, 0, 0, 0, 0, 0, 0, 0, 0, 0, 0, 0, 0, 0, 0, 0, 0, 0, 0, 0, 0, 0, 0, 0, 0, 0, 0]⟩
/-- 12_ledger_faults.md, LS_TIME.WIN_V -/
def LS_TIME_WIN_V : Fld := ⟨0x4b00, 4, 128, 0, 10, .rwl, .s, 0, [360, 360, 360, 360, 360, 360, 360, 360, 360, 360, 360, 360, 360, 360, 360, 360, 360, 360, 360, 360, 360, 360, 360, 360, 0, 0, 0, 0, 0, 0, 0, 0, 0, 0, 0, 0, 0, 0, 0, 0, 10, 10, 10, 10, 10, 10, 10, 10, 10, 10, 10, 10, 360, 360, 360, 360, 360, 360, 360, 360, 360, 360, 360, 360, 360, 360, 360, 360, 360, 360, 360, 360, 0, 0, 0, 0, 0, 0, 0, 0, 0, 0, 0, 0, 0, 0, 0, 360, 1, 0, 0, 0, 0, 0, 0, 0, 6, 6, 0, 0, 0, 0, 0, 0, 0, 0, 0, 0, 0, 0, 0, 0, 0, 0, 0, 0, 0, 0, 0, 0, 0, 0, 0, 0, 0, 0, 0, 0]⟩
/-- 12_ledger_faults.md, LS_STAT.RCV -/
def LS_STAT_RCV : Fld := ⟨0x4d00, 4, 128, 24, 8, .ro, .s, 0, []⟩
/-- 12_ledger_faults.md, LS_STAT.COUNT -/
def LS_STAT_COUNT : Fld := ⟨0x4d00, 4, 128, 16, 8, .ro, .s, 0, []⟩
/-- 12_ledger_faults.md, LS_STAT.CUR_CLASS -/
def LS_STAT_CUR_CLASS : Fld := ⟨0x4d00, 4, 128, 8, 3, .ro, .s, 0, []⟩
/-- 12_ledger_faults.md, LS_STAT.WAIT_HOST -/
def LS_STAT_WAIT_HOST : Fld := ⟨0x4d00, 4, 128, 3, 1, .ro, .s, 0, []⟩
/-- 12_ledger_faults.md, LS_STAT.QUIET -/
def LS_STAT_QUIET : Fld := ⟨0x4d00, 4, 128, 2, 1, .ro, .l, 0, []⟩
/-- 12_ledger_faults.md, LS_STAT.FENCED -/
def LS_STAT_FENCED : Fld := ⟨0x4d00, 4, 128, 1, 1, .ro, .l, 0, []⟩
/-- 12_ledger_faults.md, LS_STAT.ESC -/
def LS_STAT_ESC : Fld := ⟨0x4d00, 4, 128, 0, 1, .ro, .s, 0, []⟩
/-- 13_backup_domain.md, BK_STAT.T_LAST -/
def BK_STAT_T_LAST : Fld := ⟨0x5000, 0, 1, 24, 8, .ro, .k, 0, []⟩
/-- 13_backup_domain.md, BK_STAT.N_NOW -/
def BK_STAT_N_NOW : Fld := ⟨0x5000, 0, 1, 13, 11, .ro, .k, 0, []⟩
/-- 13_backup_domain.md, BK_STAT.SYNC_BUSY -/
def BK_STAT_SYNC_BUSY : Fld := ⟨0x5000, 0, 1, 10, 1, .ro, .k, 0, []⟩
/-- 13_backup_domain.md, BK_STAT.ALM_FLAG -/
def BK_STAT_ALM_FLAG : Fld := ⟨0x5000, 0, 1, 9, 1, .w1c, .k, 0, []⟩
/-- 13_backup_domain.md, BK_STAT.BTN -/
def BK_STAT_BTN : Fld := ⟨0x5000, 0, 1, 8, 1, .w1c, .k, 0, []⟩
/-- 13_backup_domain.md, BK_STAT.EMPTY -/
def BK_STAT_EMPTY : Fld := ⟨0x5000, 0, 1, 7, 1, .ro, .k, 0, []⟩
/-- 13_backup_domain.md, BK_STAT.SHIP -/
def BK_STAT_SHIP : Fld := ⟨0x5000, 0, 1, 6, 1, .ro, .k, 0, []⟩
/-- 13_backup_domain.md, BK_STAT.UNSET -/
def BK_STAT_UNSET : Fld := ⟨0x5000, 0, 1, 5, 1, .ro, .k, 1, []⟩
/-- 13_backup_domain.md, BK_STAT.RC_SEEN -/
def BK_STAT_RC_SEEN : Fld := ⟨0x5000, 0, 1, 4, 1, .w1c, .k, 0, []⟩
/-- 13_backup_domain.md, BK_STAT.ON_RC -/
def BK_STAT_ON_RC : Fld := ⟨0x5000, 0, 1, 3, 1, .ro, .k, 0, []⟩
/-- 13_backup_domain.md, BK_STAT.VBKUP_LOW -/
def BK_STAT_VBKUP_LOW : Fld := ⟨0x5000, 0, 1, 2, 1, .ro, .k, 0, []⟩
/-- 13_backup_domain.md, BK_STAT.DOM_POR -/
def BK_STAT_DOM_POR : Fld := ⟨0x5000, 0, 1, 0, 1, .w1c, .k, 1, []⟩
/-- 13_backup_domain.md, BK_CFG.PWRON_LVL -/
def BK_CFG_PWRON_LVL : Fld := ⟨0x5004, 0, 1, 3, 1, .rw, .k, 0, []⟩
/-- 13_backup_domain.md, BK_CFG.PWRON_MODE -/
def BK_CFG_PWRON_MODE : Fld := ⟨0x5004, 0, 1, 1, 2, .rw, .k, 0, []⟩
/-- 13_backup_domain.md, BK_CFG.CHG_EN -/
def BK_CFG_CHG_EN : Fld := ⟨0x5004, 0, 1, 0, 1, .rw, .k, 0, []⟩
/-- 13_backup_domain.md, RTC_TICK_LO.TICK -/
def RTC_TICK_LO_TICK : Fld := ⟨0x5008, 0, 1, 0, 32, .ro, .k, 0, []⟩
/-- 13_backup_domain.md, RTC_TICK_HI.TICK -/
def RTC_TICK_HI_TICK : Fld := ⟨0x500c, 0, 1, 0, 32, .ro, .k, 0, []⟩
/-- 13_backup_domain.md, RTC_NOW_LO.WALL -/
def RTC_NOW_LO_WALL : Fld := ⟨0x5010, 0, 1, 0, 32, .ro, .k, 0, []⟩
/-- 13_backup_domain.md, RTC_NOW_HI.WALL -/
def RTC_NOW_HI_WALL : Fld := ⟨0x5014, 0, 1, 0, 32, .ro, .k, 0, []⟩
/-- 13_backup_domain.md, RTC_SETL.SEC_LO -/
def RTC_SETL_SEC_LO : Fld := ⟨0x5018, 0, 1, 16, 16, .rw, .k, 0, []⟩
/-- 13_backup_domain.md, RTC_SETL.FRAC -/
def RTC_SETL_FRAC : Fld := ⟨0x5018, 0, 1, 0, 16, .rw, .k, 0, []⟩
/-- 13_backup_domain.md, RTC_SETH.GO -/
def RTC_SETH_GO : Fld := ⟨0x501c, 0, 1, 31, 1, .wo, .v, 0, []⟩
/-- 13_backup_domain.md, RTC_SETH.SEC_HI -/
def RTC_SETH_SEC_HI : Fld := ⟨0x501c, 0, 1, 0, 24, .rw, .k, 0, []⟩
/-- 13_backup_domain.md, RTC_TRIM.SRC -/
def RTC_TRIM_SRC : Fld := ⟨0x5020, 0, 1, 12, 1, .rw, .k, 0, []⟩
/-- 13_backup_domain.md, RTC_TRIM.TRIM -/
def RTC_TRIM_TRIM : Fld := ⟨0x5020, 0, 1, 0, 11, .rw, .k, 0, []⟩
/-- 13_backup_domain.md, RTC_CURVE.OFS -/
def RTC_CURVE_OFS : Fld := ⟨0x5024, 0, 1, 16, 11, .rw, .k, 0, []⟩
/-- 13_backup_domain.md, RTC_CURVE.T0 -/
def RTC_CURVE_T0 : Fld := ⟨0x5024, 0, 1, 8, 8, .rw, .k, 25, []⟩
/-- 13_backup_domain.md, RTC_CURVE.K_C -/
def RTC_CURVE_K_C : Fld := ⟨0x5024, 0, 1, 0, 8, .rw, .k, 34, []⟩
/-- 13_backup_domain.md, RTC_ALM_LO.ALM_LO -/
def RTC_ALM_LO_ALM_LO : Fld := ⟨0x5028, 0, 1, 0, 32, .rw, .k, 0, []⟩
/-- 13_backup_domain.md, RTC_ALM_HI.EN -/
def RTC_ALM_HI_EN : Fld := ⟨0x502c, 0, 1, 31, 1, .rw, .k, 0, []⟩
/-- 13_backup_domain.md, RTC_ALM_HI.ALM_HI -/
def RTC_ALM_HI_ALM_HI : Fld := ⟨0x502c, 0, 1, 0, 8, .rw, .k, 0, []⟩
/-- 13_backup_domain.md, BK_SCRATCH.DATA -/
def BK_SCRATCH_DATA : Fld := ⟨0x5040, 4, 8, 0, 32, .rw, .k, 0, []⟩
/-- 14_interrupts_and_timers.md, IS_PRI.PRI0 -/
def IS_PRI_PRI0 : Fld := ⟨0x5400, 4, 32, 0, 4, .rw, .s, 0, []⟩
/-- 14_interrupts_and_timers.md, IS_PRI.PRI1 -/
def IS_PRI_PRI1 : Fld := ⟨0x5400, 4, 32, 4, 4, .rw, .s, 0, []⟩
/-- 14_interrupts_and_timers.md, IS_PRI.PRI2 -/
def IS_PRI_PRI2 : Fld := ⟨0x5400, 4, 32, 8, 4, .rw, .s, 0, []⟩
/-- 14_interrupts_and_timers.md, IS_PRI.PRI3 -/
def IS_PRI_PRI3 : Fld := ⟨0x5400, 4, 32, 12, 4, .rw, .s, 0, []⟩
/-- 14_interrupts_and_timers.md, IS_PRI.PRI4 -/
def IS_PRI_PRI4 : Fld := ⟨0x5400, 4, 32, 16, 4, .rw, .s, 0, []⟩
/-- 14_interrupts_and_timers.md, IS_PRI.PRI5 -/
def IS_PRI_PRI5 : Fld := ⟨0x5400, 4, 32, 20, 4, .rw, .s, 0, []⟩
/-- 14_interrupts_and_timers.md, IS_PRI.PRI6 -/
def IS_PRI_PRI6 : Fld := ⟨0x5400, 4, 32, 24, 4, .rw, .s, 0, []⟩
/-- 14_interrupts_and_timers.md, IS_PRI.PRI7 -/
def IS_PRI_PRI7 : Fld := ⟨0x5400, 4, 32, 28, 4, .rw, .s, 0, []⟩
/-- 14_interrupts_and_timers.md, IS_LEVEL.LEVEL -/
def IS_LEVEL_LEVEL : Fld := ⟨0x5480, 4, 8, 0, 32, .ro, .v, 0, []⟩
/-- 14_interrupts_and_timers.md, IS_RLAT.RLAT -/
def IS_RLAT_RLAT : Fld := ⟨0x54a0, 4, 8, 0, 32, .w1c, .s, 0, []⟩
/-- 14_interrupts_and_timers.md, IS_PSET.PEND -/
def IS_PSET_PEND : Fld := ⟨0x54c0, 4, 8, 0, 32, .set, .s, 0, []⟩
/-- 14_interrupts_and_timers.md, IS_PCLR.PEND -/
def IS_PCLR_PEND : Fld := ⟨0x54e0, 4, 8, 0, 32, .clr, .s, 0, []⟩
/-- 14_interrupts_and_timers.md, IS_ACT.ACT -/
def IS_ACT_ACT : Fld := ⟨0x5500, 4, 8, 0, 32, .ro, .v, 0, []⟩
/-- 14_interrupts_and_timers.md, IC_CLAIM.SRC -/
def IC_CLAIM_SRC : Fld := ⟨0x5540, 4, 7, 0, 9, .ro, .v, 511, []⟩
/-- 14_interrupts_and_timers.md, IC_COMPLETE.SRC -/
def IC_COMPLETE_SRC : Fld := ⟨0x5560, 4, 7, 0, 9, .wo, .v, 511, []⟩
/-- 14_interrupts_and_timers.md, IC_LAST.SRC -/
def IC_LAST_SRC : Fld := ⟨0x5580, 4, 7, 0, 9, .ro, .v, 511, []⟩
/-- 14_interrupts_and_timers.md, IC_TH.TH1 -/
def IC_TH_TH1 : Fld := ⟨0x55a0, 0, 1, 8, 4, .rw, .s, 0, []⟩
/-- 14_interrupts_and_timers.md, IC_TH.TH0 -/
def IC_TH_TH0 : Fld := ⟨0x55a0, 0, 1, 0, 4, .rw, .s, 0, []⟩
/-- 14_interrupts_and_timers.md, IC_STAT.CLAIM_BAD -/
def IC_STAT_CLAIM_BAD : Fld := ⟨0x55a4, 0, 1, 8, 1, .w1c, .v, 0, []⟩
/-- 14_interrupts_and_timers.md, IC_STAT.COMP_BAD -/
def IC_STAT_COMP_BAD : Fld := ⟨0x55a4, 0, 1, 0, 7, .w1c, .v, 0, []⟩
/-- 14_interrupts_and_timers.md, IC_ESET.EN -/
def IC_ESET_EN : Fld := ⟨0x5600, 4, 104, 0, 32, .set, .s, 0, []⟩
/-- 14_interrupts_and_timers.md, IC_ECLR.EN -/
def IC_ECLR_EN : Fld := ⟨0x5620, 4, 104, 0, 32, .clr, .s, 0, []⟩
/-- 14_interrupts_and_timers.md, TM_CTRL.OUT_EN -/
def TM_CTRL_OUT_EN : Fld := ⟨0x5800, 32, 16, 23, 1, .rw, .s, 0, []⟩
/-- 14_interrupts_and_timers.md, TM_CTRL.OUT_LVL -/
def TM_CTRL_OUT_LVL : Fld := ⟨0x5800, 32, 16, 22, 1, .rw, .s, 0, []⟩
/-- 14_interrupts_and_timers.md, TM_CTRL.OVF_PIN -/
def TM_CTRL_OVF_PIN : Fld := ⟨0x5800, 32, 16, 20, 2, .rw, .s, 0, []⟩
/-- 14_interrupts_and_timers.md, TM_CTRL.MATCH_PIN -/
def TM_CTRL_MATCH_PIN : Fld := ⟨0x5800, 32, 16, 18, 2, .rw, .s, 0, []⟩
/-- 14_interrupts_and_timers.md, TM_CTRL.OVF_STOP -/
def TM_CTRL_OVF_STOP : Fld := ⟨0x5800, 32, 16, 17, 1, .rw, .s, 0, []⟩
/-- 14_interrupts_and_timers.md, TM_CTRL.MATCH_STOP -/
def TM_CTRL_MATCH_STOP : Fld := ⟨0x5800, 32, 16, 16, 1, .rw, .s, 0, []⟩
/-- 14_interrupts_and_timers.md, TM_CTRL.OIE -/
def TM_CTRL_OIE : Fld := ⟨0x5800, 32, 16, 9, 1, .rw, .s, 0, []⟩
/-- 14_interrupts_and_timers.md, TM_CTRL.MIE -/
def TM_CTRL_MIE : Fld := ⟨0x5800, 32, 16, 8, 1, .rw, .s, 0, []⟩
/-- 14_interrupts_and_timers.md, TM_CTRL.CLK -/
def TM_CTRL_CLK : Fld := ⟨0x5800, 32, 16, 4, 1, .rw, .s, 0, []⟩
/-- 14_interrupts_and_timers.md, TM_CTRL.ARM -/
def TM_CTRL_ARM : Fld := ⟨0x5800, 32, 16, 1, 1, .rw, .s, 0, []⟩
/-- 14_interrupts_and_timers.md, TM_CTRL.RUN -/
def TM_CTRL_RUN : Fld := ⟨0x5800, 32, 16, 0, 1, .rw, .s, 0, []⟩
/-- 14_interrupts_and_timers.md, TM_PER_LO.PER -/
def TM_PER_LO_PER : Fld := ⟨0x5804, 32, 16, 0, 32, .rw, .s, 0, []⟩
/-- 14_interrupts_and_timers.md, TM_PER_HI.PER -/
def TM_PER_HI_PER : Fld := ⟨0x5808, 32, 16, 0, 16, .rw, .s, 0, []⟩
/-- 14_interrupts_and_timers.md, TM_MAT_LO.MAT -/
def TM_MAT_LO_MAT : Fld := ⟨0x580c, 32, 16, 0, 32, .rw, .s, 0, []⟩
/-- 14_interrupts_and_timers.md, TM_MAT_HI.MAT -/
def TM_MAT_HI_MAT : Fld := ⟨0x5810, 32, 16, 0, 16, .rw, .s, 0, []⟩
/-- 14_interrupts_and_timers.md, TM_CNT_LO.CNT -/
def TM_CNT_LO_CNT : Fld := ⟨0x5814, 32, 16, 0, 32, .rw, .s, 0, []⟩
/-- 14_interrupts_and_timers.md, TM_CNT_HI.CNT -/
def TM_CNT_HI_CNT : Fld := ⟨0x5818, 32, 16, 0, 16, .rw, .s, 0, []⟩
/-- 14_interrupts_and_timers.md, TM_STAT.MAT_PEND -/
def TM_STAT_MAT_PEND : Fld := ⟨0x581c, 32, 16, 5, 1, .ro, .s, 0, []⟩
/-- 14_interrupts_and_timers.md, TM_STAT.OUT -/
def TM_STAT_OUT : Fld := ⟨0x581c, 32, 16, 4, 1, .ro, .s, 0, []⟩
/-- 14_interrupts_and_timers.md, TM_STAT.CFG_BUSY -/
def TM_STAT_CFG_BUSY : Fld := ⟨0x581c, 32, 16, 3, 1, .w1c, .s, 0, []⟩
/-- 14_interrupts_and_timers.md, TM_STAT.RD_RUN_ERR -/
def TM_STAT_RD_RUN_ERR : Fld := ⟨0x581c, 32, 16, 2, 1, .w1c, .s, 0, []⟩
/-- 14_interrupts_and_timers.md, TM_STAT.OVF_F -/
def TM_STAT_OVF_F : Fld := ⟨0x581c, 32, 16, 1, 1, .w1c, .s, 0, []⟩
/-- 14_interrupts_and_timers.md, TM_STAT.MATCH_F -/
def TM_STAT_MATCH_F : Fld := ⟨0x581c, 32, 16, 0, 1, .w1c, .s, 0, []⟩
/-- 14_interrupts_and_timers.md, TM_GLOBAL.GSTOP -/
def TM_GLOBAL_GSTOP : Fld := ⟨0x5a00, 0, 1, 1, 1, .wo, .v, 0, []⟩
/-- 14_interrupts_and_timers.md, TM_GLOBAL.GSTART -/
def TM_GLOBAL_GSTART : Fld := ⟨0x5a00, 0, 1, 0, 1, .wo, .v, 0, []⟩
/-- 14_interrupts_and_timers.md, TM_RUN.RUN -/
def TM_RUN_RUN : Fld := ⟨0x5a04, 0, 1, 0, 16, .ro, .s, 0, []⟩
/-- 15_host_links.md, HL_SPI_ERR.WR_CRC -/
def HL_SPI_ERR_WR_CRC : Fld := ⟨0x80, 0, 1, 24, 8, .ro, .w, 0, []⟩
/-- 15_host_links.md, HL_SPI_ERR.RD_CRC -/
def HL_SPI_ERR_RD_CRC : Fld := ⟨0x80, 0, 1, 16, 8, .ro, .w, 0, []⟩
/-- 15_host_links.md, HL_SPI_ERR.CNT_CLR -/
def HL_SPI_ERR_CNT_CLR : Fld := ⟨0x80, 0, 1, 4, 1, .wo, .v, 0, []⟩
/-- 15_host_links.md, HL_SPI_ERR.EARLY -/
def HL_SPI_ERR_EARLY : Fld := ⟨0x80, 0, 1, 3, 1, .w1c, .v, 0, []⟩
/-- 15_host_links.md, HL_SPI_ERR.BUSY_DROP -/
def HL_SPI_ERR_BUSY_DROP : Fld := ⟨0x80, 0, 1, 2, 1, .w1c, .v, 0, []⟩
/-- 15_host_links.md, HL_SPI_ERR.CMD_BAD -/
def HL_SPI_ERR_CMD_BAD : Fld := ⟨0x80, 0, 1, 1, 1, .w1c, .v, 0, []⟩
/-- 15_host_links.md, HL_SPI_ERR.FRAME_BAD -/
def HL_SPI_ERR_FRAME_BAD : Fld := ⟨0x80, 0, 1, 0, 1, .w1c, .v, 0, []⟩
/-- 15_host_links.md, HL_SMB_CFG.ADDR -/
def HL_SMB_CFG_ADDR : Fld := ⟨0x84, 0, 1, 8, 7, .ro, .m, 96, []⟩
/-- 15_host_links.md, HL_SMB_CFG.TMO_EN -/
def HL_SMB_CFG_TMO_EN : Fld := ⟨0x84, 0, 1, 3, 1, .rw, .s, 1, []⟩
/-- 15_host_links.md, HL_SMB_CFG.ARA_EN -/
def HL_SMB_CFG_ARA_EN : Fld := ⟨0x84, 0, 1, 2, 1, .rw, .s, 1, []⟩
/-- 15_host_links.md, HL_SMB_CFG.ALERT_EN -/
def HL_SMB_CFG_ALERT_EN : Fld := ⟨0x84, 0, 1, 1, 1, .rw, .s, 1, []⟩
/-- 15_host_links.md, HL_SMB_CFG.PEC_REQ -/
def HL_SMB_CFG_PEC_REQ : Fld := ⟨0x84, 0, 1, 0, 1, .rwl, .s, 0, []⟩
/-- 15_host_links.md, HL_SMB_STAT.RD_WORDS -/
def HL_SMB_STAT_RD_WORDS : Fld := ⟨0x88, 0, 1, 4, 4, .ro, .w, 1, []⟩
/-- 15_host_links.md, HL_SMB_STAT.BLK_BAD -/
def HL_SMB_STAT_BLK_BAD : Fld := ⟨0x88, 0, 1, 2, 1, .w1c, .v, 0, []⟩
/-- 15_host_links.md, HL_SMB_STAT.TIMEOUT -/
def HL_SMB_STAT_TIMEOUT : Fld := ⟨0x88, 0, 1, 1, 1, .w1c, .v, 0, []⟩
/-- 15_host_links.md, HL_SMB_STAT.PEC_ERR -/
def HL_SMB_STAT_PEC_ERR : Fld := ⟨0x88, 0, 1, 0, 1, .w1c, .v, 0, []⟩
/-- 15_host_links.md, PM_LOOP.TCH -/
def PM_LOOP_TCH : Fld := ⟨0xc0, 4, 8, 24, 8, .rw, .s, 255, []⟩
/-- 15_host_links.md, PM_LOOP.ICH -/
def PM_LOOP_ICH : Fld := ⟨0xc0, 4, 8, 16, 8, .rw, .s, 255, []⟩
/-- 15_host_links.md, PM_LOOP.VCH -/
def PM_LOOP_VCH : Fld := ⟨0xc0, 4, 8, 8, 8, .rw, .s, 255, []⟩
/-- 15_host_links.md, PM_LOOP.RSH -/
def PM_LOOP_RSH : Fld := ⟨0xc0, 4, 8, 0, 8, .rw, .s, 100, []⟩
/-- 16_security_and_debug.md, SEC_LC.REQ_BAD -/
def SEC_LC_REQ_BAD : Fld := ⟨0x7000, 0, 1, 7, 1, .w1c, .v, 0, []⟩
/-- 16_security_and_debug.md, SEC_LC.OTP_BUSY -/
def SEC_LC_OTP_BUSY : Fld := ⟨0x7000, 0, 1, 6, 1, .ro, .l, 0, []⟩
/-- 16_security_and_debug.md, SEC_LC.ERASE_DONE -/
def SEC_LC_ERASE_DONE : Fld := ⟨0x7000, 0, 1, 5, 1, .ro, .n, 0, []⟩
/-- 16_security_and_debug.md, SEC_LC.HASH_SET -/
def SEC_LC_HASH_SET : Fld := ⟨0x7000, 0, 1, 2, 3, .ro, .n, 4, []⟩
/-- 16_security_and_debug.md, SEC_LC.LC -/
def SEC_LC_LC : Fld := ⟨0x7000, 0, 1, 0, 2, .ro, .n, 1, []⟩
/-- 16_security_and_debug.md, SEC_LC_REQ.TARGET -/
def SEC_LC_REQ_TARGET : Fld := ⟨0x7004, 0, 1, 8, 2, .wo, .v, 0, []⟩
/-- 16_security_and_debug.md, SEC_LC_REQ.KEY -/
def SEC_LC_REQ_KEY : Fld := ⟨0x7004, 0, 1, 0, 8, .wo, .v, 0, []⟩
/-- 16_security_and_debug.md, SEC_PMAP.REGIONS -/
def SEC_PMAP_REGIONS : Fld := ⟨0x7010, 4, 6, 0, 20, .rwl, .v, 0, [606211, 606211, 1048575, 0, 0, 0]⟩
/-- 16_security_and_debug.md, SEC_TLOCK.LOCK -/
def SEC_TLOCK_LOCK : Fld := ⟨0x7030, 4, 6, 0, 32, .rwl, .v, 0, []⟩
/-- 16_security_and_debug.md, SEC_PSTAT.COUNT -/
def SEC_PSTAT_COUNT : Fld := ⟨0x7048, 0, 1, 24, 8, .ro, .w, 0, []⟩
/-- 16_security_and_debug.md, SEC_PSTAT.WHO -/
def SEC_PSTAT_WHO : Fld := ⟨0x7048, 0, 1, 16, 3, .ro, .w, 7, []⟩
/-- 16_security_and_debug.md, SEC_PSTAT.ADDR -/
def SEC_PSTAT_ADDR : Fld := ⟨0x7048, 0, 1, 0, 16, .ro, .w, 0, []⟩
/-- 16_security_and_debug.md, SEC_DBG.FAILS -/
def SEC_DBG_FAILS : Fld := ⟨0x704c, 0, 1, 24, 8, .ro, .w, 0, []⟩
/-- 16_security_and_debug.md, SEC_DBG.EXTEST_REF -/
def SEC_DBG_EXTEST_REF : Fld := ⟨0x704c, 0, 1, 4, 1, .w1c, .v, 0, []⟩
/-- 16_security_and_debug.md, SEC_DBG.RO_NOW -/
def SEC_DBG_RO_NOW : Fld := ⟨0x704c, 0, 1, 3, 1, .ro, .l, 0, []⟩
/-- 16_security_and_debug.md, SEC_DBG.SESSION -/
def SEC_DBG_SESSION : Fld := ⟨0x704c, 0, 1, 0, 3, .ro, .l, 0, []⟩
/-- 16_security_and_debug.md, SEC_UID0.UID -/
def SEC_UID0_UID : Fld := ⟨0x7050, 0, 1, 0, 32, .ro, .n, 0, []⟩
/-- 16_security_and_debug.md, SEC_UID1.UID -/
def SEC_UID1_UID : Fld := ⟨0x7054, 0, 1, 0, 32, .ro, .n, 0, []⟩
/-- 16_security_and_debug.md, SEC_HASHBUF.DATA -/
def SEC_HASHBUF_DATA : Fld := ⟨0x7060, 4, 8, 0, 32, .rw, .v, 0, []⟩
/-- 16_security_and_debug.md, SEC_OTP_CMD.BAD -/
def SEC_OTP_CMD_BAD : Fld := ⟨0x7080, 0, 1, 10, 1, .w1c, .v, 0, []⟩
/-- 16_security_and_debug.md, SEC_OTP_CMD.OP -/
def SEC_OTP_CMD_OP : Fld := ⟨0x7080, 0, 1, 8, 2, .wo, .v, 0, []⟩
/-- 16_security_and_debug.md, SEC_OTP_CMD.KEY -/
def SEC_OTP_CMD_KEY : Fld := ⟨0x7080, 0, 1, 0, 8, .wo, .v, 0, []⟩
/-- 16_security_and_debug.md, SEC_NONCE.NONCE -/
def SEC_NONCE_NONCE : Fld := ⟨0x7090, 4, 4, 0, 32, .ro, .l, 0, []⟩
/-- 16_security_and_debug.md, TP_CTRL.SLOT_CONV -/
def TP_CTRL_SLOT_CONV : Fld := ⟨0x7800, 0, 1, 16, 4, .rw, .v, 0, []⟩
/-- 16_security_and_debug.md, TP_CTRL.LOCK_MM -/
def TP_CTRL_LOCK_MM : Fld := ⟨0x7800, 0, 1, 12, 4, .wo, .v, 0, []⟩
/-- 16_security_and_debug.md, TP_CTRL.REF_FAIL -/
def TP_CTRL_REF_FAIL : Fld := ⟨0x7800, 0, 1, 8, 4, .wo, .v, 0, []⟩
/-- 16_security_and_debug.md, TP_CTRL.GCRC_P1 -/
def TP_CTRL_GCRC_P1 : Fld := ⟨0x7800, 0, 1, 6, 1, .rw, .v, 0, []⟩
/-- 16_security_and_debug.md, TP_CTRL.LDG_EN -/
def TP_CTRL_LDG_EN : Fld := ⟨0x7800, 0, 1, 5, 1, .rw, .v, 0, []⟩
/-- 16_security_and_debug.md, TP_CTRL.JIT_EN -/
def TP_CTRL_JIT_EN : Fld := ⟨0x7800, 0, 1, 4, 1, .rw, .v, 0, []⟩
/-- 16_security_and_debug.md, TP_CTRL.GCRC_P0 -/
def TP_CTRL_GCRC_P0 : Fld := ⟨0x7800, 0, 1, 3, 1, .rw, .v, 0, []⟩
/-- 16_security_and_debug.md, TP_CTRL.DBK_EN -/
def TP_CTRL_DBK_EN : Fld := ⟨0x7800, 0, 1, 2, 1, .rw, .v, 0, []⟩
/-- 16_security_and_debug.md, TP_CTRL.SE_EN -/
def TP_CTRL_SE_EN : Fld := ⟨0x7800, 0, 1, 1, 1, .rw, .v, 0, []⟩
/-- 16_security_and_debug.md, TP_CTRL.SLOT_EN -/
def TP_CTRL_SLOT_EN : Fld := ⟨0x7800, 0, 1, 0, 1, .rw, .v, 0, []⟩
/-- 16_security_and_debug.md, TP_MAG0.SE_DLY -/
def TP_MAG0_SE_DLY : Fld := ⟨0x7804, 0, 1, 16, 10, .rw, .v, 0, []⟩
/-- 16_security_and_debug.md, TP_MAG0.SLOT_STR -/
def TP_MAG0_SLOT_STR : Fld := ⟨0x7804, 0, 1, 0, 6, .rw, .v, 0, []⟩
/-- 16_security_and_debug.md, TP_MAG1.JIT -/
def TP_MAG1_JIT : Fld := ⟨0x7808, 0, 1, 24, 8, .rw, .v, 0, []⟩
/-- 16_security_and_debug.md, TP_MAG1.LDG_SHIFT -/
def TP_MAG1_LDG_SHIFT : Fld := ⟨0x7808, 0, 1, 20, 4, .rw, .v, 0, []⟩
/-- 16_security_and_debug.md, TP_MAG1.GCRC_DLY -/
def TP_MAG1_GCRC_DLY : Fld := ⟨0x7808, 0, 1, 10, 10, .rw, .v, 0, []⟩
/-- 16_security_and_debug.md, TP_MAG1.DBK_BP -/
def TP_MAG1_DBK_BP : Fld := ⟨0x7808, 0, 1, 0, 5, .rw, .v, 0, []⟩
/-- 16_security_and_debug.md, TP_STAT.APPLIED -/
def TP_STAT_APPLIED : Fld := ⟨0x780c, 0, 1, 16, 16, .ro, .w, 0, []⟩
/-- 16_security_and_debug.md, TP_STAT.ON -/
def TP_STAT_ON : Fld := ⟨0x780c, 0, 1, 0, 7, .ro, .v, 0, []⟩

/-- Register fields, part 0. -/
def part0 : List Fld :=
  [DEV_ID_PART_ID,
   DEV_ID_REV,
   SOFT_RST_KEY_BAD,
   SOFT_RST_KEY,
   RST_CAUSE_BOR_SRC,
   RST_CAUSE_STALL,
   RST_CAUSE_WDT,
   RST_CAUSE_HOST,
   RST_CAUSE_PIN,
   RST_CAUSE_BOR,
   RST_CAUSE_POR,
   RST_CFG_WARM_TMO,
   ORDER_STAT_LOGGED,
   ORDER_STAT_RULE,
   ORDER_STAT_ORDER_VIOL,
   SUP_STAT_ANA_EXT,
   SUP_STAT_CORE_EXT,
   SUP_STAT_VIOP_MODE,
   SUP_STAT_VIOH_MODE,
   SUP_STAT_HOSTIO_LOW,
   BOOT_CFG_SLOT,
   BOOT_STAT_IMG_SEQ,
   BOOT_STAT_IMAGE_BAD,
   BOOT_STAT_SEAL_TMO,
   BOOT_STAT_UNSIGNED,
   BOOT_STAT_FELLBACK,
   BOOT_STAT_SLOT_RUN,
   PWR_STATE_REQ_BAD,
   PWR_STATE_REQ_REFUSED,
   PWR_STATE_RIDE_READY,
   PWR_STATE_ON_BATT,
   PWR_STATE_BOOTING,
   PWR_STATE_CUR,
   PWR_REQ_REQ,
   STBY_CFG_WAKE_PRI,
   STBY_CFG_SCAN_P,
   WAKE_CAUSE_PREV,
   WAKE_CAUSE_COLLAPSE,
   WAKE_CAUSE_ALARM_NOSRC,
   WAKE_CAUSE_ALARM]

/-- Register fields, part 1. -/
def part1 : List Fld :=
  [WAKE_CAUSE_VBAT,
   WAKE_CAUSE_VBUS1,
   WAKE_CAUSE_VBUS0,
   WAKE_CAUSE_DCIN,
   WAKE_CAUSE_PWRBTN,
   NVM_PAGE_PAGE,
   NVM_STAT_PART,
   NVM_STAT_ERR,
   NVM_STAT_DROP,
   NVM_STAT_BUSY,
   NVM_STAT_QUEUE,
   DBK_PAGE_PAGE,
   MLC_FRAME_SYNC_OUT_OFS,
   MLC_FRAME_SYNC_OUT_EN,
   MLC_FRAME_SRC,
   MLC_FRAME_FRAME_KHZ,
   MLC_SYNC_STAT_FRAME_NOW,
   MLC_SYNC_STAT_CFG_BUSY,
   MLC_SYNC_STAT_HOLDING,
   MLC_SYNC_STAT_LOSS,
   MLC_SYNC_STAT_LOCK,
   PH_CFG_OFFSET,
   PH_CFG_ASSIGN,
   PH_CFG_LOOP,
   PH_STAT_ILIM,
   PH_STAT_CAUSE,
   PH_STAT_FENCED,
   LP_CTRL_EN,
   LP_CTRL_MIN_PH,
   LP_CTRL_INSW_PIN,
   LP_CTRL_INSW_EN,
   LP_CTRL_STOP_MODE,
   LP_CTRL_MULT_M1,
   LP_REF_VREF_NOW,
   LP_REF_TARGET,
   LP_SS_PREBIAS_MAX,
   LP_SS_RATE,
   LP_LL_LL,
   LP_COMP_KI,
   LP_COMP_KP]

/-- Register fields, part 2. -/
def part2 : List Fld :=
  [LP_COMP2_KB,
   LP_COMP2_AF,
   LP_COMP2_KD,
   LP_ISEN_FLT_LVL,
   LP_ISEN_ISREF,
   LP_ISEN_GAIN,
   LP_LIMIT_IMB_T,
   LP_LIMIT_IMB_TH,
   LP_LIMIT_IPH_MAX,
   LP_PROT_BRAKE_TH,
   LP_PROT_RUSH_TH,
   LP_PG_PG_OFF_FILT,
   LP_PG_PG_ON_DLY,
   LP_PG_PG_WIN,
   LP_STAT_CFG_BUSY,
   LP_STAT_ILIM,
   LP_STAT_BRAKE,
   LP_STAT_RUSH,
   LP_STAT_FREQ_BAD,
   LP_STAT_HSS_PH,
   LP_STAT_HSS,
   LP_STAT_STATE,
   LP_STAT_PG,
   LP_CAP_I_CAP,
   LP_CAP_N_ACT,
   LP_CAP_N_CFG,
   CH_CFG_HYST,
   CH_CFG_UV_ARM,
   CH_CFG_CNT_M1,
   CH_CFG_OSC,
   CH_CFG_MODE,
   CH_OV_OVF,
   CH_OV_OVW,
   CH_UV_UVW,
   CH_UV_UVF,
   CH_DATA_SCAN_TAG,
   CH_DATA_FLT_SEEN,
   CH_DATA_ARMED,
   CH_DATA_STALE,
   CH_DATA_ZONE]

/-- Register fields, part 3. -/
def part3 : List Fld :=
  [CH_DATA_VALUE,
   CR_CFG_FILT,
   CR_CFG_HYST,
   CR_CFG_STBY_EN,
   CR_CFG_LO_EN,
   CR_CFG_HI_EN,
   CR_CFG_EN,
   CR_THR_HI,
   CR_THR_LO,
   CR_STAT_FENCED,
   CR_STAT_DISAGREE,
   CR_STAT_TRIP_LO,
   CR_STAT_TRIP_HI,
   CR_STAT_OUT_LO,
   CR_STAT_OUT_HI,
   SCN_STAT_CFG_BAD,
   SCN_STAT_REF_SUSP,
   SCN_STAT_BLIND,
   SCN_STAT_FENCED,
   SCN_STAT_K_LIVE,
   SCN_STAT_TSCAN,
   SCN_COUNT_COUNT,
   SCN_OFS_OFS_D,
   SCN_OFS_OFS_C,
   SCN_OFS_OFS_B,
   SCN_OFS_OFS_A,
   SCN_MAP_LIVE,
   SCN_MAP_CAUSE,
   SCN_MAP_GROUPS,
   SCN_MAP_LAST_CH,
   SCN_MAP_FIRST_CH,
   SCN_ALERT_ALERT,
   KPR_CTRL_REQ,
   KPR_STAT_FROZEN,
   KPR_STAT_REF_RAIL,
   KPR_STAT_REF_WHY,
   KPR_STAT_REQ_MERGED,
   KPR_STAT_TBL_BAD,
   KPR_STAT_REQ_REFUSED,
   KPR_STAT_PEND_ON]

/-- Register fields, part 4. -/
def part4 : List Fld :=
  [KPR_STAT_STATE,
   KPR_CFG_BLIND_TMO,
   KPR_CFG_SD_TMO,
   KPR_CFG_TOFF_MIN,
   KPR_LATCH_REC_SEQ,
   KPR_LATCH_RAIL,
   KPR_LATCH_CAUSE,
   KPR_LATCH_CLR_REFUSED,
   KPR_LATCH_REC_LOST,
   KPR_LATCH_LATCH_READ,
   KPR_LATCH_DAYBOOK_ACK,
   KPR_LATCH_CLR,
   KPR_LATCH_SEQ_LATCH,
   KPR_ON_RAILS,
   KPR_GOOD_RAILS,
   DBK_CFG_TIMED_S,
   DBK_CFG_SNAP_CLASS,
   DBK_CFG_SRC_GAP,
   DBK_STAT_CRIT_LOST,
   DBK_STAT_DROPPED,
   DBK_STAT_TOKENS,
   DBK_HEAD_SEQ_HI,
   DBK_HEAD_SLOT,
   DBK_SNAP_GO,
   DBK_MASK_MASK,
   SEQ_OUT_RSTATE,
   SEQ_OUT_RANK,
   SEQ_OUT_UP_SET,
   SEQ_OUT_OWNER,
   SEQ_OUT_OUT_KIND,
   SEQ_OUT_OUT_NUM,
   SEQ_DEP_DEP2,
   SEQ_DEP_DEP1,
   SEQ_DEP_DEP0,
   SEQ_JDG_FLT_ACT,
   SEQ_JDG_CRIER_ACT,
   SEQ_JDG_CRIER,
   SEQ_JDG_PG_SRC,
   SEQ_JDG_CHAN,
   SEQ_TIM_UP_TMO]

/-- Register fields, part 5. -/
def part5 : List Fld :=
  [SEQ_TIM_DN_DLY,
   SQ_CFG_IN,
   SQ_CFG_PG_FILT,
   SQ_CFG_GPO,
   SQ_CFG_POL,
   SQ_CFG_MODE,
   STL_CTRL_RESTART,
   STL_CTRL_START,
   STL_SPARE_TAKEOVERS,
   STL_SPARE_FENCED,
   STL_SPARE_SHADOW_ERR,
   STL_SPARE_FOR,
   STL_SPARE_SPARE,
   STL_STAT_FPC,
   STL_STAT_START_BAD,
   STL_STAT_KICK_BAD,
   STL_STAT_WD_EXP,
   STL_STAT_WD_EARLY,
   STL_STAT_FCODE,
   STL_STAT_PHYS,
   STL_STAT_STATE,
   STL_TKLOG_DUR,
   STL_TKLOG_REISSUE,
   STL_TKLOG_ID,
   STL_TKLOG_ADDR,
   STL_WDCFG_STBY_RUN,
   STL_WDCFG_RST,
   STL_WDCFG_TMO,
   STL_WDKICK_KEY,
   MBX_IN_WORD,
   MBX_LEVEL_HOST_FULL,
   MBX_LEVEL_HOST,
   MBX_LEVEL_RX3,
   MBX_LEVEL_RX2,
   MBX_LEVEL_RX1,
   MBX_LEVEL_RX0,
   MBX_HOST_HEAD_WORD,
   MBX_CTRL_FLUSH_RX,
   MBX_CTRL_FLUSH_HOST,
   MBX_CTRL_POP]

/-- Register fields, part 6. -/
def part6 : List Fld :=
  [PP_CFG_FSW,
   PP_CFG_VSYS_MIN,
   PP_CFG_CHEM,
   PP_CFG_CELLS,
   PP_CFG_UPGRADE,
   PP_CFG_P1_EN,
   PP_CFG_P0_EN,
   PP_CFG_DCIN_EN,
   PP_CFG_PRIO,
   PP_CTRL_SRCH_GO,
   PP_CTRL_CHG_CLR,
   PP_CTRL_RETEST,
   PP_CTRL_BAT_GO,
   PP_CTRL_CHG_EN,
   PP_DCIN_OV,
   PP_DCIN_LOSS,
   PP_DCIN_QMIN,
   PP_SRCH_DIP_PCT,
   PP_SRCH_T_STEP,
   PP_SRCH_IIN_STEP,
   PP_SRCH_IIN_MAX,
   PP_SRCH_IIN_START,
   PP_STAT_SRCH_END,
   PP_STAT_SUPPL,
   PP_STAT_BATT_ABSENT,
   PP_STAT_BAT,
   PP_STAT_BFET,
   PP_STAT_P1_ST,
   PP_STAT_P0_ST,
   PP_STAT_DCIN_ST,
   PP_STAT_SEL,
   PP_ILIM_IIN_LIM,
   PP_EVT_BAT_CMD_BAD,
   PP_EVT_BFET_SS_FAIL,
   PP_EVT_BSCP,
   PP_EVT_BOCP,
   PP_EVT_BUV,
   PP_EVT_BAT_SHORT,
   PP_EVT_BAT_INSERT,
   PP_EVT_BAT_REMOVED]

/-- Register fields, part 7. -/
def part7 : List Fld :=
  [PP_EVT_SUPPL_SEEN,
   PP_EVT_SRCH_DONE,
   PP_EVT_INSW_FAIL,
   PP_EVT_RCP,
   PP_EVT_OV,
   PP_EVT_LOSS,
   CHG_I_ITERM,
   CHG_I_IPRE,
   CHG_I_ICHG,
   CHG_V_VBUV,
   CHG_V_VRECHG,
   CHG_V_VPRE,
   CHG_V_VREG,
   CHG_LIM_LIN_PMAX,
   CHG_LIM_NTC_REQ,
   CHG_LIM_NTC_CH,
   CHG_LIM_IDIS_MAX,
   CHG_LIM_ICHG_MAX,
   CHG_TMR_PT_PERIOD,
   CHG_TMR_SAFE_TMO,
   CHG_TMR_PRE_TMO,
   CHG_STAT_FLT_WHY,
   CHG_STAT_TEMP,
   CHG_STAT_INH,
   CHG_STAT_PHASE,
   PORT_CFG_DEF_ILIM,
   PORT_CFG_HOLD_SRC,
   PORT_CFG_PRS_POL,
   PORT_CFG_DRS_EN,
   PORT_CFG_VCONN_EN,
   PORT_CFG_EPR_EN,
   PORT_CFG_PPS_EN,
   PORT_CFG_RP_LVL,
   PORT_CFG_TRY_SNK,
   PORT_CFG_PD_EN,
   PORT_CFG_ROLE,
   PORT_SNK_PMAX,
   PORT_SNK_IMAX,
   PORT_SNK_VMAX,
   PORT_SNK_VMIN]

/-- Register fields, part 8. -/
def part8 : List Fld :=
  [PORT_PPS_PPS_V,
   PORT_SRCPDO_EN,
   PORT_SRCPDO_I20,
   PORT_SRCPDO_I15,
   PORT_SRCPDO_I9,
   PORT_SRCPDO_I5,
   PORT_SRCLIM_SRC_PMAX,
   PORT_CTRL_CMD,
   PORT_STAT_PE_BUSY,
   PORT_STAT_NO_PD,
   PORT_STAT_LATCHED,
   PORT_STAT_EPR,
   PORT_STAT_REV,
   PORT_STAT_VCONN,
   PORT_STAT_CONTRACT,
   PORT_STAT_DROLE,
   PORT_STAT_PROLE,
   PORT_STAT_TC_LVL,
   PORT_STAT_ORIENT,
   PORT_STAT_TC,
   PORT_CONTRACT_OBJ,
   PORT_CONTRACT_V,
   PORT_CONTRACT_I,
   PORT_RXPDO_PDO,
   PORT_CABLE_VALID,
   PORT_CABLE_EPR_CAP,
   PORT_CABLE_ICAP,
   PORT_CABLE_VMAX,
   PORT_EVT_NO_PD,
   PORT_EVT_CMD_BAD,
   PORT_EVT_NSUP,
   PORT_EVT_MISMATCH,
   PORT_EVT_SETTLE_FAIL,
   PORT_EVT_VCONN_OCP,
   PORT_EVT_CC_OVP,
   PORT_EVT_RCP,
   PORT_EVT_OCP,
   PORT_EVT_OVP,
   PORT_EVT_SWAP_REJ,
   PORT_EVT_SWAP_DONE]

/-- Register fields, part 9. -/
def part9 : List Fld :=
  [PORT_EVT_HRST_TX,
   PORT_EVT_HRST_RX,
   PORT_EVT_ABORT,
   PORT_EVT_CONTRACT,
   PORT_EVT_DETACH,
   PORT_EVT_ATTACH,
   GG_CFG_R0_INIT,
   GG_CFG_OCV_SRC,
   GG_CFG_RSH,
   GG_DESIGN_DESIGN,
   GG_RSV_RSV_MIN,
   GG_RSV_I_HOLD,
   GG_REF_STEP_SIG,
   GG_REF_DI_STEP,
   GG_REF_I_REST,
   GG_REF_LEARN_DX,
   GG_WARN_WARN2,
   GG_WARN_WARN1,
   GG_VBAT_VBAT_K,
   GG_VBAT_VBAT_CH,
   GG_JRNL_VWRITE_MIN,
   GG_JRNL_HOLD_US,
   GG_JRNL_VSYS_CH,
   GG_CTRL_SPREAD_MAX,
   GG_CTRL_NEW_PACK,
   GG_Q_SOC_PCT,
   GG_Q_Q_U,
   GG_FCC_FCC_U,
   GG_QFC_LEARN_CNT,
   GG_QFC_Q_FC,
   GG_UNC_HRS,
   GG_UNC_U,
   GG_LVL_Q_RIF,
   GG_R0_LAST_REF,
   GG_R0_R0,
   GG_STAT_STEPS,
   GG_STAT_TBL_BAD,
   GG_STAT_WR_SKIP,
   GG_STAT_CMD_BAD,
   GG_STAT_RSV_BIG]

/-- Register fields, part 10. -/
def part10 : List Fld :=
  [GG_STAT_LEARN_PEND,
   GG_STAT_SPREAD,
   GG_STAT_CELL_HI,
   GG_STAT_WARN2,
   GG_STAT_WARN1,
   GG_STAT_EMPTY,
   GG_STAT_RSV_LOW,
   GG_STAT_RSV_ENTER,
   GG_STAT_REF_STALE,
   GG_STAT_FROZEN,
   GG_STAT_VALID,
   GG_OCV_P_HI,
   GG_OCV_P_LO,
   LG_CFG_BUS_MASK,
   LG_CFG_FLT_MASK,
   LG_STAT_GRAVE,
   LG_STAT_FLT_LOW,
   LG_STAT_BUS_DRV,
   LG_STAT_BUS_LOW,
   LG_STAT_ADMIT_LOST,
   LG_STAT_GRAVE_SRC,
   LG_STAT_LAST_SRC,
   LG_STAT_LAST_CLASS,
   LG_ADMIT_RCV_CLR,
   LG_ADMIT_ADMIT,
   LG_ADMIT_SRC,
   LG_STICKY_STICKY,
   LS_CFG_RAISABLE,
   LS_CFG_THR,
   LS_CFG_ESC_REACT,
   LS_CFG_ESC_CLASS,
   LS_CFG_REACT,
   LS_CFG_CLASS,
   LS_TIME_RCV_MAX,
   LS_TIME_Q_U,
   LS_TIME_Q_V,
   LS_TIME_WIN_U,
   LS_TIME_WIN_V,
   LS_STAT_RCV,
   LS_STAT_COUNT]

/-- Register fields, part 11. -/
def part11 : List Fld :=
  [LS_STAT_CUR_CLASS,
   LS_STAT_WAIT_HOST,
   LS_STAT_QUIET,
   LS_STAT_FENCED,
   LS_STAT_ESC,
   BK_STAT_T_LAST,
   BK_STAT_N_NOW,
   BK_STAT_SYNC_BUSY,
   BK_STAT_ALM_FLAG,
   BK_STAT_BTN,
   BK_STAT_EMPTY,
   BK_STAT_SHIP,
   BK_STAT_UNSET,
   BK_STAT_RC_SEEN,
   BK_STAT_ON_RC,
   BK_STAT_VBKUP_LOW,
   BK_STAT_DOM_POR,
   BK_CFG_PWRON_LVL,
   BK_CFG_PWRON_MODE,
   BK_CFG_CHG_EN,
   RTC_TICK_LO_TICK,
   RTC_TICK_HI_TICK,
   RTC_NOW_LO_WALL,
   RTC_NOW_HI_WALL,
   RTC_SETL_SEC_LO,
   RTC_SETL_FRAC,
   RTC_SETH_GO,
   RTC_SETH_SEC_HI,
   RTC_TRIM_SRC,
   RTC_TRIM_TRIM,
   RTC_CURVE_OFS,
   RTC_CURVE_T0,
   RTC_CURVE_K_C,
   RTC_ALM_LO_ALM_LO,
   RTC_ALM_HI_EN,
   RTC_ALM_HI_ALM_HI,
   BK_SCRATCH_DATA,
   IS_PRI_PRI0,
   IS_PRI_PRI1,
   IS_PRI_PRI2]

/-- Register fields, part 12. -/
def part12 : List Fld :=
  [IS_PRI_PRI3,
   IS_PRI_PRI4,
   IS_PRI_PRI5,
   IS_PRI_PRI6,
   IS_PRI_PRI7,
   IS_LEVEL_LEVEL,
   IS_RLAT_RLAT,
   IS_PSET_PEND,
   IS_PCLR_PEND,
   IS_ACT_ACT,
   IC_CLAIM_SRC,
   IC_COMPLETE_SRC,
   IC_LAST_SRC,
   IC_TH_TH1,
   IC_TH_TH0,
   IC_STAT_CLAIM_BAD,
   IC_STAT_COMP_BAD,
   IC_ESET_EN,
   IC_ECLR_EN,
   TM_CTRL_OUT_EN,
   TM_CTRL_OUT_LVL,
   TM_CTRL_OVF_PIN,
   TM_CTRL_MATCH_PIN,
   TM_CTRL_OVF_STOP,
   TM_CTRL_MATCH_STOP,
   TM_CTRL_OIE,
   TM_CTRL_MIE,
   TM_CTRL_CLK,
   TM_CTRL_ARM,
   TM_CTRL_RUN,
   TM_PER_LO_PER,
   TM_PER_HI_PER,
   TM_MAT_LO_MAT,
   TM_MAT_HI_MAT,
   TM_CNT_LO_CNT,
   TM_CNT_HI_CNT,
   TM_STAT_MAT_PEND,
   TM_STAT_OUT,
   TM_STAT_CFG_BUSY,
   TM_STAT_RD_RUN_ERR]

/-- Register fields, part 13. -/
def part13 : List Fld :=
  [TM_STAT_OVF_F,
   TM_STAT_MATCH_F,
   TM_GLOBAL_GSTOP,
   TM_GLOBAL_GSTART,
   TM_RUN_RUN,
   HL_SPI_ERR_WR_CRC,
   HL_SPI_ERR_RD_CRC,
   HL_SPI_ERR_CNT_CLR,
   HL_SPI_ERR_EARLY,
   HL_SPI_ERR_BUSY_DROP,
   HL_SPI_ERR_CMD_BAD,
   HL_SPI_ERR_FRAME_BAD,
   HL_SMB_CFG_ADDR,
   HL_SMB_CFG_TMO_EN,
   HL_SMB_CFG_ARA_EN,
   HL_SMB_CFG_ALERT_EN,
   HL_SMB_CFG_PEC_REQ,
   HL_SMB_STAT_RD_WORDS,
   HL_SMB_STAT_BLK_BAD,
   HL_SMB_STAT_TIMEOUT,
   HL_SMB_STAT_PEC_ERR,
   PM_LOOP_TCH,
   PM_LOOP_ICH,
   PM_LOOP_VCH,
   PM_LOOP_RSH,
   SEC_LC_REQ_BAD,
   SEC_LC_OTP_BUSY,
   SEC_LC_ERASE_DONE,
   SEC_LC_HASH_SET,
   SEC_LC_LC,
   SEC_LC_REQ_TARGET,
   SEC_LC_REQ_KEY,
   SEC_PMAP_REGIONS,
   SEC_TLOCK_LOCK,
   SEC_PSTAT_COUNT,
   SEC_PSTAT_WHO,
   SEC_PSTAT_ADDR,
   SEC_DBG_FAILS,
   SEC_DBG_EXTEST_REF,
   SEC_DBG_RO_NOW]

/-- Register fields, part 14. -/
def part14 : List Fld :=
  [SEC_DBG_SESSION,
   SEC_UID0_UID,
   SEC_UID1_UID,
   SEC_HASHBUF_DATA,
   SEC_OTP_CMD_BAD,
   SEC_OTP_CMD_OP,
   SEC_OTP_CMD_KEY,
   SEC_NONCE_NONCE,
   TP_CTRL_SLOT_CONV,
   TP_CTRL_LOCK_MM,
   TP_CTRL_REF_FAIL,
   TP_CTRL_GCRC_P1,
   TP_CTRL_LDG_EN,
   TP_CTRL_JIT_EN,
   TP_CTRL_GCRC_P0,
   TP_CTRL_DBK_EN,
   TP_CTRL_SE_EN,
   TP_CTRL_SLOT_EN,
   TP_MAG0_SE_DLY,
   TP_MAG0_SLOT_STR,
   TP_MAG1_JIT,
   TP_MAG1_LDG_SHIFT,
   TP_MAG1_GCRC_DLY,
   TP_MAG1_DBK_BP,
   TP_STAT_APPLIED,
   TP_STAT_ON]

/-- Every register field of the register index. -/
def all : List Fld :=
  part0 ++ part1 ++ part2 ++ part3 ++ part4 ++ part5 ++ part6 ++ part7 ++ part8 ++ part9 ++ part10 ++ part11 ++ part12 ++ part13 ++ part14

end Sys2Proof.Reg

namespace Sys2Proof.Hid
open Sys2Proof.Machine

/-- Main domain: 0 unpowered, 1 held in reset, 2 reset released and ROM boot stage due, 3 running (boot program started or safe boot state) (R15,R53 01_power_states.md). -/
def MAIN : Fld := ⟨0x10000, 4, 1, 0, 2, .ro, .n, 2, []⟩
/-- VBKUP lies within its operating range (R22,R333 13_backup_domain.md). -/
def VBKUP_OK : Fld := ⟨0x10100, 4, 1, 0, 1, .ro, .n, 1, []⟩
/-- The backup domain is powered (from VAO or VBKUP) (R333 13_backup_domain.md). -/
def DOM_ON : Fld := ⟨0x10200, 4, 1, 0, 1, .ro, .n, 1, []⟩
/-- The backup domain runs from VBKUP (0: from VAO) (R333 13_backup_domain.md). -/
def ON_VBKUP : Fld := ⟨0x10300, 4, 1, 0, 1, .ro, .n, 0, []⟩
/-- Ten-ms VBAT-leg window: 0 none, 1 button, 2 alarm (R35,R37 01_power_states.md). -/
def LEGWIN : Fld := ⟨0x10400, 4, 1, 0, 2, .ro, .k, 0, []⟩
/-- Input that raised or keeps VAO and is awaited while the ship or empty flag is set: 0 none, 1 DCIN, 2 P0, 3 P1 (R35,R43,R68 01_power_states.md). -/
def RAISER : Fld := ⟨0x10500, 4, 1, 0, 3, .ro, .m, 0, []⟩
/-- Power transition in progress: 0 none, 1 RUN, 2 STANDBY entry, 3 SHIP steps, 4 HOLD_EMPTY steps (R24 01_power_states.md). -/
def TRANS : Fld := ⟨0x10600, 4, 1, 0, 3, .ro, .l, 0, []⟩
/-- Step of the SHIP or HOLD_EMPTY steps in progress (R33,R42 01_power_states.md). -/
def TSTEP : Fld := ⟨0x10700, 4, 1, 0, 3, .ro, .l, 0, []⟩
/-- Power request held while a transition runs; 0 none (R24 01_power_states.md). -/
def HELDREQ : Fld := ⟨0x10800, 4, 1, 0, 4, .ro, .l, 0, []⟩
/-- The 200 ms HOLD dwell has ended (R40 01_power_states.md). -/
def DWELL_DONE : Fld := ⟨0x10900, 4, 1, 0, 1, .ro, .l, 0, []⟩
/-- TNOW at HOLD entry (R40,R160 01_power_states.md). -/
def HOLD_T0 : Fld := ⟨0x10a00, 4, 1, 0, 64, .ro, .l, 0, []⟩
/-- FCLK: 0 stopped, 1 starting, 2 usable (R18,R19 01_power_states.md). -/
def FCLK : Fld := ⟨0x10b00, 4, 1, 0, 2, .ro, .l, 1, []⟩
/-- FCLK is locked to the crystal (R19 01_power_states.md). -/
def FLOCK : Fld := ⟨0x10c00, 4, 1, 0, 1, .ro, .l, 0, []⟩
/-- A STANDBY scan burst is in progress (R27 01_power_states.md). -/
def BURST : Fld := ⟨0x10d00, 4, 1, 0, 1, .ro, .l, 0, []⟩
/-- A burst has run since STANDBY entry (R27 01_power_states.md). -/
def BURST_ANY : Fld := ⟨0x10e00, 4, 1, 0, 1, .ro, .l, 0, []⟩
/-- TNOW at the start of the last burst (R27 01_power_states.md). -/
def BURST_T : Fld := ⟨0x10f00, 4, 1, 0, 64, .ro, .l, 0, []⟩
/-- The next burst begins at once (R27 01_power_states.md). -/
def BURST_NOW : Fld := ⟨0x11000, 4, 1, 0, 1, .ro, .l, 0, []⟩
/-- Microseconds counted since VAO rose, of which TNOW is the low 32 bits (R21,R166 01_power_states.md). -/
def TNOW : Fld := ⟨0x11100, 4, 1, 0, 64, .ro, .m, 0, []⟩
/-- Fractional accumulator of TNOW while FCLK is stopped (R21 01_power_states.md). -/
def TFRAC : Fld := ⟨0x11200, 4, 1, 0, 9, .ro, .m, 0, []⟩
/-- Model time: position within the present slow-clock period, in 32768ths of a us (R17 01_power_states.md). -/
def USFRAC : Fld := ⟨0x11300, 4, 1, 0, 20, .ro, .n, 0, []⟩
/-- The reset whose boot is due or running is cold (R58,R63 02_own_supplies_and_start.md). -/
def COLD : Fld := ⟨0x11400, 4, 1, 0, 1, .ro, .n, 1, []⟩
/-- A warm reset is shutting the rails down (R57 02_own_supplies_and_start.md). -/
def WARM : Fld := ⟨0x11500, 4, 1, 0, 1, .ro, .n, 0, []⟩
/-- The RESET record is still to be written by the ROM boot stage (R59 02_own_supplies_and_start.md). -/
def RECDUE : Fld := ⟨0x11600, 4, 1, 0, 1, .ro, .n, 1, []⟩
/-- Sticky bits of the RESET record are unknown (R59 02_own_supplies_and_start.md). -/
def STKUNK : Fld := ⟨0x11700, 4, 1, 0, 1, .ro, .n, 1, []⟩
/-- Staged records were lost by the reset (R59 02_own_supplies_and_start.md). -/
def STGLOST : Fld := ⟨0x11800, 4, 1, 0, 1, .ro, .n, 0, []⟩
/-- Sticky bits as the reset began (R59 02_own_supplies_and_start.md). -/
def STKSAVE : Fld := ⟨0x11900, 4, 1, 0, 128, .ro, .n, 0, []⟩
/-- The boot window has closed since the last boot (R9,R65 02_own_supplies_and_start.md). -/
def SEALED : Fld := ⟨0x11a00, 4, 1, 0, 1, .ro, .n, 0, []⟩
/-- The boot window is open (R9,R63 02_own_supplies_and_start.md). -/
def BOOTWIN : Fld := ⟨0x11b00, 4, 1, 0, 1, .ro, .l, 0, []⟩
/-- TNOW at the last exit from STANDBY (R129 04_scales_rail_monitor.md). -/
def RUN_T : Fld := ⟨0x11c00, 4, 1, 0, 64, .ro, .l, 0, []⟩
/-- Safe boot state (R65 02_own_supplies_and_start.md). -/
def SAFE : Fld := ⟨0x11d00, 4, 1, 0, 1, .ro, .l, 0, []⟩
/-- Image of the protection map (R62 02_own_supplies_and_start.md). -/
def MAPIMG : Fld := ⟨0x11e00, 4, 6, 0, 20, .ro, .l, 0, []⟩
/-- Image of the threshold locks SEC_TLOCK (R62,R133 02_own_supplies_and_start.md). -/
def LOCKIMG : Fld := ⟨0x11f00, 4, 6, 0, 32, .ro, .l, 0, []⟩
/-- An image of the protection map stands (R62 02_own_supplies_and_start.md). -/
def IMGOK : Fld := ⟨0x12000, 4, 1, 0, 1, .ro, .l, 0, []⟩
/-- A rush is in progress (R88 03_multiphase_loops.md). -/
def LP_RUSH : Fld := ⟨0x12100, 4, 8, 0, 1, .ro, .l, 0, []⟩
/-- Braking is in progress (R89 03_multiphase_loops.md). -/
def LP_BRAKE : Fld := ⟨0x12200, 4, 8, 0, 1, .ro, .l, 0, []⟩
/-- The input switch is driven to its enable level (R85 03_multiphase_loops.md). -/
def LP_INSW : Fld := ⟨0x12300, 4, 8, 0, 1, .ro, .l, 0, []⟩
/-- The loop starts again once its stop completes (R79 03_multiphase_loops.md). -/
def LP_RESTART : Fld := ⟨0x12400, 4, 8, 0, 1, .ro, .l, 0, []⟩
/-- Ramp accumulator in 0.05 mV (R80 03_multiphase_loops.md). -/
def LP_ACC : Fld := ⟨0x12500, 4, 8, 0, 5, .ro, .l, 0, []⟩
/-- PGn has deasserted and the Keeper has not yet taken it (R93,R138 03_multiphase_loops.md). -/
def LP_PGD : Fld := ⟨0x12600, 4, 8, 0, 1, .ro, .l, 0, []⟩
/-- VSEN of the loop in uV, as a command last brought it (R75,R84 03_multiphase_loops.md). -/
def LP_VSEN : Fld := ⟨0x12700, 4, 8, 0, 22, .ro, .l, 0, []⟩
/-- ISEN of the phase in uV, as a command last brought it (R73 03_multiphase_loops.md). -/
def PH_VISEN : Fld := ⟨0x12800, 4, 24, 0, 22, .ro, .l, 0, []⟩
/-- TNOW at which the pre-start check began (R85 03_multiphase_loops.md). -/
def LP_CHK_T : Fld := ⟨0x12900, 4, 8, 0, 64, .ro, .l, 0, []⟩
/-- TNOW at which the rush or braking in progress began (R88,R89 03_multiphase_loops.md). -/
def LP_EVT_T : Fld := ⟨0x12a00, 4, 8, 0, 64, .ro, .l, 0, []⟩
/-- TNOW before which no new rush is taken (R91 03_multiphase_loops.md). -/
def LP_RUSH_U : Fld := ⟨0x12b00, 4, 8, 0, 64, .ro, .l, 0, []⟩
/-- TNOW before which no new braking is taken (R91 03_multiphase_loops.md). -/
def LP_BRK_U : Fld := ⟨0x12c00, 4, 8, 0, 64, .ro, .l, 0, []⟩
/-- Samples due, in thousandths (R75 03_multiphase_loops.md). -/
def LP_SACC : Fld := ⟨0x12d00, 4, 8, 0, 16, .ro, .l, 0, []⟩
/-- Switching periods due, in thousandths (R76 03_multiphase_loops.md). -/
def LP_BACC : Fld := ⟨0x12e00, 4, 8, 0, 16, .ro, .l, 0, []⟩
/-- Microseconds for which VSEN has stood on the other side of PG_WIN than PG says (R93 03_multiphase_loops.md). -/
def LP_PGT : Fld := ⟨0x12f00, 4, 8, 0, 10, .ro, .l, 0, []⟩
/-- The phases of the loop work in diode emulation (R81 03_multiphase_loops.md). -/
def LP_DIODE : Fld := ⟨0x13000, 4, 8, 0, 1, .ro, .l, 0, []⟩
/-- SQ pin that the closed input switch uses (R85 03_multiphase_loops.md). -/
def LP_SWPIN : Fld := ⟨0x13100, 4, 8, 0, 6, .ro, .l, 0, []⟩
/-- The high-side pulse of the phase has been ended by the current limit (R74 03_multiphase_loops.md). -/
def PH_LIM : Fld := ⟨0x13200, 4, 24, 0, 1, .ro, .l, 0, []⟩
/-- TNOW at which READMIT_CHECK began (R98 03_multiphase_loops.md). -/
def PH_CHK_T : Fld := ⟨0x13300, 4, 24, 0, 64, .ro, .l, 0, []⟩
/-- A readmission waits (R98 03_multiphase_loops.md). -/
def PH_WAIT : Fld := ⟨0x13400, 4, 24, 0, 1, .ro, .s, 0, []⟩
/-- The phase is held for READMIT_CHECK (R98 03_multiphase_loops.md). -/
def PH_CHECK : Fld := ⟨0x13500, 4, 24, 0, 1, .ro, .l, 0, []⟩
/-- Origin of the fence: 0 none, 1 Ledger or Keeper, 2 program (R200,R326 12_ledger_faults.md). -/
def PH_FBY : Fld := ⟨0x13600, 4, 24, 0, 2, .ro, .s, 0, []⟩
/-- Debounce counters: 8n+0 cOVF, +1 cOVW, +2 cUVF, +3 cUVW, +4 rOVF, +5 rOVW, +6 rUVF, +7 rUVW (R111 04_scales_rail_monitor.md). -/
def CH_CTR : Fld := ⟨0x13700, 4, 1536, 0, 5, .ro, .s, 0, []⟩
/-- Writes waiting for the next scan start: bit 0 CHn_CFG, bit 1 CHn_OV or CHn_UV (R109,R113 04_scales_rail_monitor.md). -/
def CH_PEND : Fld := ⟨0x14f00, 4, 192, 0, 2, .ro, .s, 0, []⟩
/-- CHn_CFG with which the scan in progress began, while CH_PEND is not 0 (R109 04_scales_rail_monitor.md). -/
def CH_LCFG : Fld := ⟨0x15200, 4, 192, 0, 32, .ro, .s, 0, []⟩
/-- CHn_OV with which the scan in progress began, while CH_PEND is not 0 (R109 04_scales_rail_monitor.md). -/
def CH_LOV : Fld := ⟨0x15500, 4, 192, 0, 32, .ro, .s, 0, []⟩
/-- CHn_UV with which the scan in progress began, while CH_PEND is not 0 (R109 04_scales_rail_monitor.md). -/
def CH_LUV : Fld := ⟨0x15800, 4, 192, 0, 32, .ro, .s, 0, []⟩
/-- Change taken at the next scan start: 0 none, 1 fence, 2 readmit (R122,R198 04_scales_rail_monitor.md). -/
def CV_PEND : Fld := ⟨0x15b00, 4, 4, 0, 2, .ro, .w, 0, []⟩
/-- Origin of the converter fence: 0 none, 1 Keeper, 2 program (R200,R326 12_ledger_faults.md). -/
def CV_FBY : Fld := ⟨0x15c00, 4, 4, 0, 2, .ro, .w, 0, []⟩
/-- Consecutive scans discarded with every live converter failing, saturating at 2 (R120 04_scales_rail_monitor.md). -/
def CV_BAD : Fld := ⟨0x15d00, 4, 1, 0, 2, .ro, .w, 0, []⟩
/-- Zero results held for the running mean (R125 04_scales_rail_monitor.md). -/
def CV_ZN : Fld := ⟨0x15e00, 4, 4, 0, 4, .ro, .v, 0, []⟩
/-- Zero results 8x+k of converter x in uV, offset by 32768, newest at k = 0 (R125 04_scales_rail_monitor.md). -/
def CV_Z : Fld := ⟨0x15f00, 4, 32, 0, 16, .ro, .v, 0, []⟩
/-- Factory calibration: gain of converter x in mode m at 4x + m, in millionths (R124 04_scales_rail_monitor.md). -/
def CAL_G : Fld := ⟨0x16000, 4, 16, 0, 24, .ro, .n, 1000000, []⟩
/-- Factory calibration: offset of converter x in mode m at 4x + m, in 10 nV, offset by 2^23 (R124 04_scales_rail_monitor.md). -/
def CAL_O : Fld := ⟨0x16100, 4, 16, 0, 24, .ro, .n, 8388608, []⟩
/-- Factory calibration: reading of REF_C by converter x in uV (R124 04_scales_rail_monitor.md). -/
def CAL_R : Fld := ⟨0x16200, 4, 4, 0, 24, .ro, .n, 1250000, []⟩
/-- Factory calibration: gain of the attenuator of the channel, in millionths (R124 04_scales_rail_monitor.md). -/
def CAL_A : Fld := ⟨0x16300, 4, 192, 0, 24, .ro, .n, 1000000, []⟩
/-- Factory calibration: input offset of the channel in SHUNT mode, in 10 nV, offset by 2^23 (R124 04_scales_rail_monitor.md). -/
def CAL_S : Fld := ⟨0x16600, 4, 192, 0, 24, .ro, .n, 8388608, []⟩
/-- CAL_G as the ROM boot stage loaded it (R124 04_scales_rail_monitor.md). -/
def CN_G : Fld := ⟨0x16900, 4, 16, 0, 24, .ro, .l, 1000000, []⟩
/-- CAL_O as the ROM boot stage loaded it (R124 04_scales_rail_monitor.md). -/
def CN_O : Fld := ⟨0x16a00, 4, 16, 0, 24, .ro, .l, 8388608, []⟩
/-- CAL_R as the ROM boot stage loaded it (R124 04_scales_rail_monitor.md). -/
def CN_R : Fld := ⟨0x16b00, 4, 4, 0, 24, .ro, .l, 1250000, []⟩
/-- CAL_A as the ROM boot stage loaded it (R124 04_scales_rail_monitor.md). -/
def CN_A : Fld := ⟨0x16c00, 4, 192, 0, 24, .ro, .l, 1000000, []⟩
/-- CAL_S as the ROM boot stage loaded it (R124 04_scales_rail_monitor.md). -/
def CN_S : Fld := ⟨0x16f00, 4, 192, 0, 24, .ro, .l, 8388608, []⟩
/-- A forced reference-check failure is armed (R400 16_security_and_debug.md). -/
def CV_TEST : Fld := ⟨0x17200, 4, 4, 0, 1, .ro, .l, 0, []⟩
/-- TNOW at which the blind period began (R151 05_keeper_and_sequencing.md). -/
def BLIND_T0 : Fld := ⟨0x17300, 4, 1, 0, 64, .ro, .l, 0, []⟩
/-- BLIND_TMO has acted in this blind period (R151 05_keeper_and_sequencing.md). -/
def BLIND_SD : Fld := ⟨0x17400, 4, 1, 0, 1, .ro, .l, 0, []⟩
/-- HI output the Keeper holds (R127,R128 04_scales_rail_monitor.md). -/
def CR_HHI : Fld := ⟨0x17500, 4, 16, 0, 1, .ro, .l, 0, []⟩
/-- LO output the Keeper holds (R127,R128 04_scales_rail_monitor.md). -/
def CR_HLO : Fld := ⟨0x17600, 4, 16, 0, 1, .ro, .l, 0, []⟩
/-- The report of the crier is blanked (R128 04_scales_rail_monitor.md). -/
def CR_BLANK : Fld := ⟨0x17700, 4, 16, 0, 1, .ro, .l, 0, []⟩
/-- TNOW at which the blank began (R128 04_scales_rail_monitor.md). -/
def CR_BLANK_T : Fld := ⟨0x17800, 4, 16, 0, 64, .ro, .l, 0, []⟩
/-- Consecutive disagreeing checking scans, saturating at 2 (R130 04_scales_rail_monitor.md). -/
def CR_RUN : Fld := ⟨0x17900, 4, 16, 0, 2, .ro, .l, 0, []⟩
/-- The outputs changed during the scan in progress (R130 04_scales_rail_monitor.md). -/
def CR_CHG : Fld := ⟨0x17a00, 4, 16, 0, 1, .ro, .l, 0, []⟩
/-- A readmission waits (R131 04_scales_rail_monitor.md). -/
def CR_WAIT : Fld := ⟨0x17b00, 4, 16, 0, 1, .ro, .s, 0, []⟩
/-- Origin of the crier fence: 0 none, 1 Ledger or Keeper, 2 program (R200,R326 12_ledger_faults.md). -/
def CR_FBY : Fld := ⟨0x17c00, 4, 16, 0, 2, .ro, .s, 0, []⟩
/-- The crier is unpowered (STANDBY without STBY_EN) or not yet 20 us past the exit (R129 04_scales_rail_monitor.md). -/
def CR_OFF : Fld := ⟨0x17d00, 4, 16, 0, 1, .ro, .l, 0, []⟩
/-- Consecutive good judged scans of a rail in START (R136 05_keeper_and_sequencing.md). -/
def RL_CNT : Fld := ⟨0x17e00, 4, 72, 0, 5, .ro, .l, 0, []⟩
/-- The Keeper arms the UV side of the channel of the rail (R137 05_keeper_and_sequencing.md). -/
def RL_ARM : Fld := ⟨0x18000, 4, 72, 0, 1, .ro, .l, 0, []⟩
/-- SQ enable pin: 0 high impedance, 1 asserted, 2 deasserted (R152 05_keeper_and_sequencing.md). -/
def SQ_DRV : Fld := ⟨0x18200, 4, 64, 0, 2, .ro, .l, 0, []⟩
/-- Filtered PG input (R136 05_keeper_and_sequencing.md). -/
def SQ_PG : Fld := ⟨0x18300, 4, 64, 0, 1, .ro, .l, 0, []⟩
/-- A reverse-order shutdown of every rail is in progress (R145 05_keeper_and_sequencing.md). -/
def SD_RUN : Fld := ⟨0x18400, 4, 1, 0, 1, .ro, .l, 0, []⟩
/-- Write units of the oldest staged record already in NVM (R155 05_keeper_and_sequencing.md). -/
def UNIT : Fld := ⟨0x18500, 4, 1, 0, 5, .ro, .l, 0, []⟩
/-- The oldest staged record is being written (R155 05_keeper_and_sequencing.md). -/
def DBK_WR : Fld := ⟨0x18600, 4, 1, 0, 1, .ro, .l, 0, []⟩
/-- FLAGS.DROPS is due in the next record written (R156 05_keeper_and_sequencing.md). -/
def DROPS : Fld := ⟨0x18700, 4, 1, 0, 1, .ro, .l, 0, []⟩
/-- Tick count at which the present TIMED period began (R157 05_keeper_and_sequencing.md). -/
def TIMED_T : Fld := ⟨0x18800, 4, 1, 0, 48, .ro, .s, 0, []⟩
/-- Full SEQ of the latch record, 0 while it is not yet written (R150 05_keeper_and_sequencing.md). -/
def LATCH_SEQ : Fld := ⟨0x18900, 4, 1, 0, 32, .ro, .k, 0, []⟩
/-- NVM unit write in progress: 0 none, 1 gauge journal, 2 Daybook, 3 window queue (R409 17_register_map.md). -/
def NVM_JOB : Fld := ⟨0x18a00, 4, 1, 0, 2, .ro, .l, 0, []⟩
/-- A Daybook record has been written since the window queue last had a turn (R409 17_register_map.md). -/
def NVM_TURN : Fld := ⟨0x18b00, 4, 1, 0, 1, .ro, .l, 0, []⟩
/-- PC (R161 06_tarragon_model.md). -/
def S_PC : Fld := ⟨0x18c00, 4, 4, 0, 13, .ro, .l, 0, []⟩
/-- General register r of identity s at 16s + r; r = 0 is never written (R161 06_tarragon_model.md). -/
def S_R : Fld := ⟨0x18d00, 4, 64, 0, 32, .ro, .l, 0, []⟩
/-- Z (R161 06_tarragon_model.md). -/
def S_Z : Fld := ⟨0x18e00, 4, 4, 0, 1, .ro, .l, 0, []⟩
/-- N (R161 06_tarragon_model.md). -/
def S_N : Fld := ⟨0x18f00, 4, 4, 0, 1, .ro, .l, 0, []⟩
/-- C (R161 06_tarragon_model.md). -/
def S_C : Fld := ⟨0x19000, 4, 4, 0, 1, .ro, .l, 0, []⟩
/-- V (R161 06_tarragon_model.md). -/
def S_V : Fld := ⟨0x19100, 4, 4, 0, 1, .ro, .l, 0, []⟩
/-- REFUSED (R161 06_tarragon_model.md). -/
def S_REF : Fld := ⟨0x19200, 4, 4, 0, 1, .ro, .l, 0, []⟩
/-- Call stack depth (R161 06_tarragon_model.md). -/
def S_CSD : Fld := ⟨0x19300, 4, 4, 0, 4, .ro, .l, 0, []⟩
/-- Call stack entry d of identity s at 8s + d (R161 06_tarragon_model.md). -/
def S_CS : Fld := ⟨0x19400, 4, 32, 0, 13, .ro, .l, 0, []⟩
/-- Issue number (R161 06_tarragon_model.md). -/
def S_ISN : Fld := ⟨0x19500, 4, 4, 0, 16, .ro, .l, 0, []⟩
/-- WAIT_DL (R161 06_tarragon_model.md). -/
def S_WDL : Fld := ⟨0x19600, 4, 4, 0, 32, .ro, .l, 0, []⟩
/-- WAIT_DL is valid (R161 06_tarragon_model.md). -/
def S_WDLV : Fld := ⟨0x19700, 4, 4, 0, 1, .ro, .l, 0, []⟩
/-- Wait in progress: 0 none, 1 WAIT, 2 WAITT, 3 YIELD (R178 06_tarragon_model.md). -/
def S_WKIND : Fld := ⟨0x19800, 4, 4, 0, 2, .ro, .l, 0, []⟩
/-- Selector of the wait in progress (R181 06_tarragon_model.md). -/
def S_WSEL : Fld := ⟨0x19900, 4, 4, 0, 5, .ro, .l, 0, []⟩
/-- inv of the wait in progress (R181 06_tarragon_model.md). -/
def S_WINV : Fld := ⟨0x19a00, 4, 4, 0, 1, .ro, .l, 0, []⟩
/-- Parameter of the wait in progress (R179 06_tarragon_model.md). -/
def S_WPAR : Fld := ⟨0x19b00, 4, 4, 0, 32, .ro, .l, 0, []⟩
/-- SCN_COUNT at the first evaluation (R181 06_tarragon_model.md). -/
def S_WSCN : Fld := ⟨0x19c00, 4, 4, 0, 32, .ro, .l, 0, []⟩
/-- LENs of the loaded slot (R226 08_stalls.md). -/
def S_LEN : Fld := ⟨0x19d00, 4, 4, 0, 14, .ro, .l, 0, []⟩
/-- ENTRYs of the loaded slot (R226 08_stalls.md). -/
def S_ENT : Fld := ⟨0x19e00, 4, 4, 0, 13, .ro, .l, 0, []⟩
/-- The shadow bank of the identity is invalid (R218 08_stalls.md). -/
def S_SHBAD : Fld := ⟨0x19f00, 4, 4, 0, 1, .ro, .l, 0, []⟩
/-- The identity is halted by debug (R398 16_security_and_debug.md). -/
def S_HALT : Fld := ⟨0x1a000, 4, 4, 0, 1, .ro, .l, 0, []⟩
/-- A debug halt waits for the end of a takeover (R222 08_stalls.md). -/
def S_HALTRQ : Fld := ⟨0x1a100, 4, 4, 0, 1, .ro, .l, 0, []⟩
/-- State the identity was in when its takeover began (R229 08_stalls.md). -/
def S_PREV : Fld := ⟨0x1a200, 4, 4, 0, 3, .ro, .l, 0, []⟩
/-- STL_CTRL write held during a takeover: bit 0 START, bit 1 RESTART (R222 08_stalls.md). -/
def S_HELD : Fld := ⟨0x1a300, 4, 4, 0, 2, .ro, .l, 0, []⟩
/-- The instruction in progress at the takeover had issued a side effect (R220 08_stalls.md). -/
def S_REISS : Fld := ⟨0x1a400, 4, 1, 0, 1, .ro, .l, 0, []⟩
/-- Watchdog count in us (R232 08_stalls.md). -/
def S_WDC : Fld := ⟨0x1a500, 4, 4, 0, 26, .ro, .l, 0, []⟩
/-- Completer record 4c + s holds an entry (c: 0 Keeper, 1 fabric, 2 staging, 3 Ledger, 4 mailbox, 5 security) (R175 06_tarragon_model.md). -/
def CP_V : Fld := ⟨0x1a600, 4, 24, 0, 1, .ro, .l, 0, []⟩
/-- ISN of the completer record (R175 06_tarragon_model.md). -/
def CP_ISN : Fld := ⟨0x1a700, 4, 24, 0, 16, .ro, .l, 0, []⟩
/-- Outcome of the completer record (R175 06_tarragon_model.md). -/
def CP_REF : Fld := ⟨0x1a800, 4, 24, 0, 1, .ro, .l, 0, []⟩
/-- Returned data of the completer record; bit 32 is the Z that RECV returned (R175 06_tarragon_model.md). -/
def CP_DAT : Fld := ⟨0x1a900, 4, 24, 0, 33, .ro, .l, 0, []⟩
/-- The input is in range (0 DCIN, 1 P0, 2 P1) (R241 09_power_path_and_charger.md). -/
def IN_OK : Fld := ⟨0x1aa00, 4, 3, 0, 1, .ro, .l, 0, []⟩
/-- The input is qualified (R241 09_power_path_and_charger.md). -/
def IN_QUAL : Fld := ⟨0x1ab00, 4, 3, 0, 1, .ro, .l, 0, []⟩
/-- The input switch is closed (R237 09_power_path_and_charger.md). -/
def IN_SW : Fld := ⟨0x1ac00, 4, 3, 0, 1, .ro, .l, 0, []⟩
/-- The converter runs (R253 09_power_path_and_charger.md). -/
def CONV_ON : Fld := ⟨0x1ad00, 4, 1, 0, 1, .ro, .l, 0, []⟩
/-- The converter was released and restarts 1 ms later (R267 09_power_path_and_charger.md). -/
def CONV_REL : Fld := ⟨0x1ae00, 4, 1, 0, 1, .ro, .l, 0, []⟩
/-- quiet of the input-current search (R249 09_power_path_and_charger.md). -/
def SR_QUIET : Fld := ⟨0x1af00, 4, 1, 0, 3, .ro, .l, 0, []⟩
/-- Old input of an upgrade in progress, 0 none (R247 09_power_path_and_charger.md). -/
def UPG_OLD : Fld := ⟨0x1b000, 4, 1, 0, 2, .ro, .l, 0, []⟩
/-- Input + 1 whose upgrade is held until the search ends; 0 none (R268 09_power_path_and_charger.md). -/
def UPG_HELD : Fld := ⟨0x1b100, 4, 1, 0, 2, .ro, .l, 0, []⟩
/-- A presence test is in progress (R260 09_power_path_and_charger.md). -/
def PT_RUN : Fld := ⟨0x1b200, 4, 1, 0, 1, .ro, .l, 0, []⟩
/-- BFET before the presence test (R260 09_power_path_and_charger.md). -/
def PT_PREV : Fld := ⟨0x1b300, 4, 1, 0, 3, .ro, .l, 0, []⟩
/-- An input has been qualified since the cold reset (R260 09_power_path_and_charger.md). -/
def FIRSTQ : Fld := ⟨0x1b400, 4, 1, 0, 1, .ro, .l, 0, []⟩
/-- The BATFET is held OFF until BAT_GO or a passed presence test (R254,R265,R266 09_power_path_and_charger.md). -/
def BF_LOCK : Fld := ⟨0x1b500, 4, 1, 0, 1, .ro, .l, 1, []⟩
/-- The BATFET stays OFF after a discharge short until BAT_GO or a cold reset (R265 09_power_path_and_charger.md). -/
def BF_SHORT : Fld := ⟨0x1b600, 4, 1, 0, 1, .ro, .l, 0, []⟩
/-- VBAT is below VSYS_MIN while charging (R253 09_power_path_and_charger.md). -/
def CHG_LIN : Fld := ⟨0x1b700, 4, 1, 0, 1, .ro, .l, 0, []⟩
/-- PRE_TMO count in us (R258 09_power_path_and_charger.md). -/
def CHG_PRE_T : Fld := ⟨0x1b800, 4, 1, 0, 64, .ro, .l, 0, []⟩
/-- SAFE_TMO count in half us (R258 09_power_path_and_charger.md). -/
def CHG_SAFE_T : Fld := ⟨0x1b900, 4, 1, 0, 64, .ro, .l, 0, []⟩
/-- The input limit held the converter in regulation in the latest step (R250,R258 09_power_path_and_charger.md). -/
def CHG_CUT : Fld := ⟨0x1ba00, 4, 1, 0, 1, .ro, .l, 0, []⟩
/-- Tick of the latest hand-over, presence test or loss of the battery (R318 11_battery_gauge.md). -/
def GG_CUT_T : Fld := ⟨0x1bb00, 4, 1, 0, 48, .ro, .l, 0, []⟩
/-- GG_CUT_T holds a tick (R318 11_battery_gauge.md). -/
def GG_CUT : Fld := ⟨0x1bc00, 4, 1, 0, 1, .ro, .l, 0, []⟩
/-- The presence test in progress is one of RETEST (R261 09_power_path_and_charger.md). -/
def PT_RE : Fld := ⟨0x1bd00, 4, 1, 0, 1, .ro, .l, 0, []⟩
/-- CHG_NEED has been raised since STANDBY entry (R259 09_power_path_and_charger.md). -/
def CHG_ONCE : Fld := ⟨0x1be00, 4, 1, 0, 1, .ro, .l, 0, []⟩
/-- Consecutive gauge updates with CELL_HI, saturating at 2 (R258,R309 11_battery_gauge.md). -/
def CELLHI2 : Fld := ⟨0x1bf00, 4, 1, 0, 2, .ro, .s, 0, []⟩
/-- Exchange under way: 0 none, 1 request sent, 2 transition after Accept, 3 own PR_Swap, 4 own DR_Swap, 5 source transition, 6 EPR entry, 7 PR_Swap accepted, 8 capabilities awaited, 9 VCONN_Swap accepted (R279,R295 10_cable_ports.md). -/
def PE_EXCH : Fld := ⟨0x1c000, 4, 2, 0, 4, .ro, .l, 0, []⟩
/-- Object requested (R278 10_cable_ports.md). -/
def RQ_OBJ : Fld := ⟨0x1c100, 4, 2, 0, 4, .ro, .l, 0, []⟩
/-- Voltage requested in 20 mV (R278 10_cable_ports.md). -/
def RQ_V : Fld := ⟨0x1c200, 4, 2, 0, 12, .ro, .l, 0, []⟩
/-- Current requested in 50 mA (R278 10_cable_ports.md). -/
def RQ_I : Fld := ⟨0x1c300, 4, 2, 0, 7, .ro, .l, 0, []⟩
/-- Kind of the request, coded as STAT.CONTRACT (R278 10_cable_ports.md). -/
def RQ_KIND : Fld := ⟨0x1c400, 4, 2, 0, 2, .ro, .l, 0, []⟩
/-- Capability Mismatch of the request (R278 10_cable_ports.md). -/
def RQ_MIS : Fld := ⟨0x1c500, 4, 2, 0, 1, .ro, .l, 0, []⟩
/-- Waits received in a row (R279 10_cable_ports.md). -/
def PO_WAITS : Fld := ⟨0x1c600, 4, 2, 0, 2, .ro, .l, 0, []⟩
/-- A retry is scheduled after a Wait: 1 request, 2 PR_Swap, 3 DR_Swap (R279,R288 10_cable_ports.md). -/
def PO_RETRY : Fld := ⟨0x1c700, 4, 2, 0, 2, .ro, .l, 0, []⟩
/-- Hard_Resets sent without Source_Capabilities in reply (R277 10_cable_ports.md). -/
def PO_HRN : Fld := ⟨0x1c800, 4, 2, 0, 2, .ro, .l, 0, []⟩
/-- VBUS OV trips held for the 60 s window (R286 10_cable_ports.md). -/
def PO_OVN : Fld := ⟨0x1c900, 4, 2, 0, 2, .ro, .s, 0, []⟩
/-- Tick of held trip k of port x at 2x + k, newest first (R286 10_cable_ports.md). -/
def PO_OVT : Fld := ⟨0x1ca00, 4, 4, 0, 48, .ro, .s, 0, []⟩
/-- Held command, 0 none (R295 10_cable_ports.md). -/
def PO_CMD : Fld := ⟨0x1cb00, 4, 2, 0, 4, .ro, .l, 0, []⟩
/-- A PORTx_CFG write is held (R296 10_cable_ports.md). -/
def PO_CFGV : Fld := ⟨0x1cc00, 4, 2, 0, 1, .ro, .l, 0, []⟩
/-- Held PORTx_CFG word (R296 10_cable_ports.md). -/
def PO_CFG : Fld := ⟨0x1cd00, 4, 2, 0, 32, .ro, .l, 0, []⟩
/-- A PORTx_PPS write waits for PS_RDY (R280 10_cable_ports.md). -/
def PO_PPSV : Fld := ⟨0x1ce00, 4, 2, 0, 1, .ro, .l, 0, []⟩
/-- EPR sequence: 0 none, 1 Enter sent, 2 Enter acknowledged, 3 in EPR mode, 4 leaving, 5 to leave (R281 10_cable_ports.md). -/
def PO_EPR : Fld := ⟨0x1cf00, 4, 2, 0, 3, .ro, .l, 0, []⟩
/-- Request data object of the latest Request (R278 10_cable_ports.md). -/
def PO_RDO : Fld := ⟨0x1d000, 4, 2, 0, 32, .ro, .l, 0, []⟩
/-- The partner has taken VCONN over by VCONN_Swap (R284 10_cable_ports.md). -/
def PO_VGIV : Fld := ⟨0x1d100, 4, 2, 0, 1, .ro, .s, 0, []⟩
/-- An EPR entry failed and EPR_EN has not been written 1 again (R281 10_cable_ports.md). -/
def PO_EPRF : Fld := ⟨0x1d200, 4, 2, 0, 1, .ro, .l, 0, []⟩
/-- Objects in the latest capabilities (R278 10_cable_ports.md). -/
def PO_NCAP : Fld := ⟨0x1d300, 4, 2, 0, 4, .ro, .s, 0, []⟩
/-- Source_Capabilities shows EPR Mode Capable (R281 10_cable_ports.md). -/
def PO_ECAP : Fld := ⟨0x1d400, 4, 2, 0, 1, .ro, .s, 0, []⟩
/-- The source switch is closed (R282 10_cable_ports.md). -/
def PO_SW : Fld := ⟨0x1d500, 4, 2, 0, 1, .ro, .s, 0, []⟩
/-- Px_SRCEN (R272 10_cable_ports.md). -/
def PO_EN : Fld := ⟨0x1d600, 4, 2, 0, 1, .ro, .s, 0, []⟩
/-- Px_VSEL (R272 10_cable_ports.md). -/
def PO_SEL : Fld := ⟨0x1d700, 4, 2, 0, 2, .ro, .s, 0, []⟩
/-- Px_DSC is held low (R272 10_cable_ports.md). -/
def PO_DSC : Fld := ⟨0x1d800, 4, 2, 0, 1, .ro, .s, 0, []⟩
/-- Source voltage in force or targeted, in 20 mV (R283 10_cable_ports.md). -/
def PO_SRCV : Fld := ⟨0x1d900, 4, 2, 0, 12, .ro, .s, 0, []⟩
/-- Offered current in 10 mA (R282 10_cable_ports.md). -/
def PO_SRCI : Fld := ⟨0x1da00, 4, 2, 0, 9, .ro, .s, 0, []⟩
/-- Source hard reset: 0 none, 1 discharging, 2 waiting 700 ms (R290 10_cable_ports.md). -/
def PO_HR : Fld := ⟨0x1db00, 4, 2, 0, 2, .ro, .s, 0, []⟩
/-- CC terminations are disconnected by overvoltage (R285 10_cable_ports.md). -/
def PO_CCOV : Fld := ⟨0x1dc00, 4, 2, 0, 1, .ro, .s, 0, []⟩
/-- VCONN is off until detach (R285 10_cable_ports.md). -/
def PO_VCOCP : Fld := ⟨0x1dd00, 4, 2, 0, 1, .ro, .s, 0, []⟩
/-- The other CC line carries Ra (R284 10_cable_ports.md). -/
def PO_RA : Fld := ⟨0x1de00, 4, 2, 0, 1, .ro, .s, 0, []⟩
/-- Sourcing is stopped until ACTIVE returns (R293 10_cable_ports.md). -/
def PO_STOP : Fld := ⟨0x1df00, 4, 2, 0, 1, .ro, .s, 0, []⟩
/-- Only 5 V at 0.5 A is offered (R293 10_cable_ports.md). -/
def PO_RED : Fld := ⟨0x1e000, 4, 2, 0, 1, .ro, .s, 0, []⟩
/-- HOLD_SRC applies when the transition ends (R296 10_cable_ports.md). -/
def PO_HDUE : Fld := ⟨0x1e100, 4, 2, 0, 1, .ro, .s, 0, []⟩
/-- DRP presentation: 0 sink (Rd), 1 source (Rp) (R273 10_cable_ports.md). -/
def PO_RP : Fld := ⟨0x1e200, 4, 2, 0, 1, .ro, .s, 0, []⟩
/-- Last message sent, numbered as the list of messages of Port.lean; 0 none (R289 10_cable_ports.md). -/
def PO_TX : Fld := ⟨0x1e300, 4, 2, 0, 5, .ro, .s, 0, []⟩
/-- BIST: 0 none, 1 Carrier Mode, 2 Test Data (R271 10_cable_ports.md). -/
def PO_BIST : Fld := ⟨0x1e400, 4, 2, 0, 2, .ro, .s, 0, []⟩
/-- Discover Identity has been sent since attach (R284 10_cable_ports.md). -/
def PO_DISC : Fld := ⟨0x1e500, 4, 2, 0, 1, .ro, .s, 0, []⟩
/-- A counting window is open (R323 12_ledger_faults.md). -/
def LS_WIN : Fld := ⟨0x1e600, 4, 128, 0, 1, .ro, .s, 0, []⟩
/-- Microsecond at which the window opened (R323 12_ledger_faults.md). -/
def LS_WIN_T : Fld := ⟨0x1e800, 4, 128, 0, 64, .ro, .s, 0, []⟩
/-- Microsecond at which the quiet period began (R326 12_ledger_faults.md). -/
def LS_QT : Fld := ⟨0x1ea00, 4, 128, 0, 64, .ro, .s, 0, []⟩
/-- The FLTBUS_IN detector is armed (R330 12_ledger_faults.md). -/
def BUS_ARM : Fld := ⟨0x1ec00, 4, 1, 0, 1, .ro, .l, 1, []⟩
/-- Tick count (R337 13_backup_domain.md). -/
def BK_TICK : Fld := ⟨0x1ed00, 4, 1, 0, 48, .ro, .k, 0, []⟩
/-- Seconds count with fraction (R338 13_backup_domain.md). -/
def BK_WALL : Fld := ⟨0x1ee00, 4, 1, 0, 56, .ro, .k, 0, []⟩
/-- A time load waits for its tick (R344 13_backup_domain.md). -/
def RTC_DUE : Fld := ⟨0x1ef00, 4, 1, 0, 1, .ro, .k, 0, []⟩
/-- Software latches (R354 14_interrupts_and_timers.md). -/
def IS_SOFT : Fld := ⟨0x1f000, 4, 8, 0, 32, .ro, .s, 0, []⟩
/-- Claimer of an active source (R356 14_interrupts_and_timers.md). -/
def IS_CLM : Fld := ⟨0x1f100, 4, 256, 0, 3, .ro, .v, 0, []⟩
/-- Enables: word j of target t at 16t + j (R353 14_interrupts_and_timers.md). -/
def IC_ENA : Fld := ⟨0x1f500, 4, 128, 0, 32, .ro, .s, 0, []⟩
/-- Match value M (R359,R364 14_interrupts_and_timers.md). -/
def TM_M : Fld := ⟨0x1f700, 4, 16, 0, 48, .ro, .s, 0, []⟩
/-- PMBus page (R378 15_host_links.md). -/
def PM_PAGE : Fld := ⟨0x1f800, 4, 1, 0, 8, .ro, .w, 0, []⟩
/-- SMBus register pointer (R376 15_host_links.md). -/
def PM_PTR : Fld := ⟨0x1f900, 4, 1, 0, 16, .ro, .w, 0, []⟩
/-- STATUS_VOUT bits 7:4 of a page (R380 15_host_links.md). -/
def PM_VOUT : Fld := ⟨0x1fa00, 4, 224, 0, 4, .ro, .w, 0, []⟩
/-- STATUS_IOUT bits 7 and 5 (R380 15_host_links.md). -/
def PM_IOUT : Fld := ⟨0x1fe00, 4, 224, 0, 2, .ro, .w, 0, []⟩
/-- STATUS_TEMPERATURE bits 7 and 6 (R380 15_host_links.md). -/
def PM_TEMP : Fld := ⟨0x20200, 4, 224, 0, 2, .ro, .w, 0, []⟩
/-- STATUS_WORD bit 8 (R380 15_host_links.md). -/
def PM_UNK : Fld := ⟨0x20600, 4, 224, 0, 1, .ro, .w, 0, []⟩
/-- STATUS_CML (R379 15_host_links.md). -/
def PM_CML : Fld := ⟨0x20a00, 4, 1, 0, 8, .ro, .w, 0, []⟩
/-- SMBALERT_N is driven low (R382 15_host_links.md). -/
def PM_ALERT : Fld := ⟨0x20b00, 4, 1, 0, 1, .ro, .l, 0, []⟩
/-- LAST_PROT, LAST_CRC, LAST_FRAME in bits 2 to 0 (R372 15_host_links.md). -/
def SPI_LAST : Fld := ⟨0x20c00, 4, 1, 0, 3, .ro, .v, 0, []⟩
/-- Key hashes IMG_KEY, DBG_KEY, RET_KEY (R389 16_security_and_debug.md). -/
def HASH : Fld := ⟨0x20d00, 4, 3, 0, 256, .ro, .n, 0, []⟩
/-- OTP programming: 0 none, 1 to 3 key hash, 4 lifecycle step (R387,R389 16_security_and_debug.md). -/
def OTPJOB : Fld := ⟨0x20e00, 4, 1, 0, 3, .ro, .m, 0, []⟩
/-- Target of the lifecycle step (R387 16_security_and_debug.md). -/
def LCT : Fld := ⟨0x20f00, 4, 1, 0, 2, .ro, .m, 0, []⟩
/-- LC[2:0] (R386 16_security_and_debug.md). -/
def LCBITS : Fld := ⟨0x21000, 4, 1, 0, 3, .ro, .n, 1, []⟩
/-- Microsecond of the CHALLENGE (R394 16_security_and_debug.md). -/
def NONCE_T : Fld := ⟨0x21100, 4, 1, 0, 64, .ro, .l, 0, []⟩
/-- Microsecond of the failed response (R394 16_security_and_debug.md). -/
def LOCK_T : Fld := ⟨0x21200, 4, 1, 0, 64, .ro, .m, 0, []⟩
/-- A nonce is live (R394 16_security_and_debug.md). -/
def NONCE_OK : Fld := ⟨0x21300, 4, 1, 0, 1, .ro, .l, 0, []⟩
/-- A response is being checked (R394 16_security_and_debug.md). -/
def RSPBUSY : Fld := ⟨0x21400, 4, 1, 0, 1, .ro, .l, 0, []⟩
/-- Scope of the response (R394 16_security_and_debug.md). -/
def RSPSCOPE : Fld := ⟨0x21500, 4, 1, 0, 8, .ro, .l, 0, []⟩
/-- The response satisfies the key and signature check (R394 16_security_and_debug.md). -/
def RSPOK : Fld := ⟨0x21600, 4, 1, 0, 1, .ro, .l, 0, []⟩
/-- No CHALLENGE is accepted (10 s after a failure) (R394 16_security_and_debug.md). -/
def LOCKOUT : Fld := ⟨0x21700, 4, 1, 0, 1, .ro, .m, 0, []⟩
/-- EXTEST is in force (R399 16_security_and_debug.md). -/
def EXT : Fld := ⟨0x21800, 4, 1, 0, 1, .ro, .l, 0, []⟩
/-- A forced lockstep mismatch is armed (R400 16_security_and_debug.md). -/
def MM_ARM : Fld := ⟨0x21900, 4, 4, 0, 1, .ro, .l, 0, []⟩
/-- Words in the queue when the unit write in progress took its words (R409 17_register_map.md). -/
def Q_CNT : Fld := ⟨0x21a00, 4, 1, 0, 5, .ro, .l, 0, []⟩
/-- The input stands above the threshold of the pre-regulator, whether in its range or not (R22,R43,R47 01_power_states.md). -/
def IN_PWR : Fld := ⟨0x21b00, 4, 3, 0, 1, .ro, .l, 0, []⟩
/-- An ordering breach holds the part in reset (R51 02_own_supplies_and_start.md). -/
def ORD_HOLD : Fld := ⟨0x21c00, 4, 1, 0, 1, .ro, .m, 0, []⟩
/-- The dead-battery Rd clamp stands on the CC lines (R67 02_own_supplies_and_start.md). -/
def PO_CLAMP : Fld := ⟨0x21d00, 4, 2, 0, 1, .ro, .l, 1, []⟩
/-- The port applies its own termination (R67 02_own_supplies_and_start.md). -/
def PO_RD : Fld := ⟨0x21e00, 4, 2, 0, 1, .ro, .l, 1, []⟩

/-- Block state, part 0. -/
def part0 : List Fld :=
  [MAIN,
   VBKUP_OK,
   DOM_ON,
   ON_VBKUP,
   LEGWIN,
   RAISER,
   TRANS,
   TSTEP,
   HELDREQ,
   DWELL_DONE,
   HOLD_T0,
   FCLK,
   FLOCK,
   BURST,
   BURST_ANY,
   BURST_T,
   BURST_NOW,
   TNOW,
   TFRAC,
   USFRAC,
   COLD,
   WARM,
   RECDUE,
   STKUNK,
   STGLOST,
   STKSAVE,
   SEALED,
   BOOTWIN,
   RUN_T,
   SAFE,
   MAPIMG,
   LOCKIMG,
   IMGOK,
   LP_RUSH,
   LP_BRAKE,
   LP_INSW,
   LP_RESTART,
   LP_ACC,
   LP_PGD,
   LP_VSEN]

/-- Block state, part 1. -/
def part1 : List Fld :=
  [PH_VISEN,
   LP_CHK_T,
   LP_EVT_T,
   LP_RUSH_U,
   LP_BRK_U,
   LP_SACC,
   LP_BACC,
   LP_PGT,
   LP_DIODE,
   LP_SWPIN,
   PH_LIM,
   PH_CHK_T,
   PH_WAIT,
   PH_CHECK,
   PH_FBY,
   CH_CTR,
   CH_PEND,
   CH_LCFG,
   CH_LOV,
   CH_LUV,
   CV_PEND,
   CV_FBY,
   CV_BAD,
   CV_ZN,
   CV_Z,
   CAL_G,
   CAL_O,
   CAL_R,
   CAL_A,
   CAL_S,
   CN_G,
   CN_O,
   CN_R,
   CN_A,
   CN_S,
   CV_TEST,
   BLIND_T0,
   BLIND_SD,
   CR_HHI,
   CR_HLO]

/-- Block state, part 2. -/
def part2 : List Fld :=
  [CR_BLANK,
   CR_BLANK_T,
   CR_RUN,
   CR_CHG,
   CR_WAIT,
   CR_FBY,
   CR_OFF,
   RL_CNT,
   RL_ARM,
   SQ_DRV,
   SQ_PG,
   SD_RUN,
   UNIT,
   DBK_WR,
   DROPS,
   TIMED_T,
   LATCH_SEQ,
   NVM_JOB,
   NVM_TURN,
   S_PC,
   S_R,
   S_Z,
   S_N,
   S_C,
   S_V,
   S_REF,
   S_CSD,
   S_CS,
   S_ISN,
   S_WDL,
   S_WDLV,
   S_WKIND,
   S_WSEL,
   S_WINV,
   S_WPAR,
   S_WSCN,
   S_LEN,
   S_ENT,
   S_SHBAD,
   S_HALT]

/-- Block state, part 3. -/
def part3 : List Fld :=
  [S_HALTRQ,
   S_PREV,
   S_HELD,
   S_REISS,
   S_WDC,
   CP_V,
   CP_ISN,
   CP_REF,
   CP_DAT,
   IN_OK,
   IN_QUAL,
   IN_SW,
   CONV_ON,
   CONV_REL,
   SR_QUIET,
   UPG_OLD,
   UPG_HELD,
   PT_RUN,
   PT_PREV,
   FIRSTQ,
   BF_LOCK,
   BF_SHORT,
   CHG_LIN,
   CHG_PRE_T,
   CHG_SAFE_T,
   CHG_CUT,
   GG_CUT_T,
   GG_CUT,
   PT_RE,
   CHG_ONCE,
   CELLHI2,
   PE_EXCH,
   RQ_OBJ,
   RQ_V,
   RQ_I,
   RQ_KIND,
   RQ_MIS,
   PO_WAITS,
   PO_RETRY,
   PO_HRN]

/-- Block state, part 4. -/
def part4 : List Fld :=
  [PO_OVN,
   PO_OVT,
   PO_CMD,
   PO_CFGV,
   PO_CFG,
   PO_PPSV,
   PO_EPR,
   PO_RDO,
   PO_VGIV,
   PO_EPRF,
   PO_NCAP,
   PO_ECAP,
   PO_SW,
   PO_EN,
   PO_SEL,
   PO_DSC,
   PO_SRCV,
   PO_SRCI,
   PO_HR,
   PO_CCOV,
   PO_VCOCP,
   PO_RA,
   PO_STOP,
   PO_RED,
   PO_HDUE,
   PO_RP,
   PO_TX,
   PO_BIST,
   PO_DISC,
   LS_WIN,
   LS_WIN_T,
   LS_QT,
   BUS_ARM,
   BK_TICK,
   BK_WALL,
   RTC_DUE,
   IS_SOFT,
   IS_CLM,
   IC_ENA,
   TM_M]

/-- Block state, part 5. -/
def part5 : List Fld :=
  [PM_PAGE,
   PM_PTR,
   PM_VOUT,
   PM_IOUT,
   PM_TEMP,
   PM_UNK,
   PM_CML,
   PM_ALERT,
   SPI_LAST,
   HASH,
   OTPJOB,
   LCT,
   LCBITS,
   NONCE_T,
   LOCK_T,
   NONCE_OK,
   RSPBUSY,
   RSPSCOPE,
   RSPOK,
   LOCKOUT,
   EXT,
   MM_ARM,
   Q_CNT,
   IN_PWR,
   ORD_HOLD,
   PO_CLAMP,
   PO_RD]

/-- Every scalar the blocks hold besides their registers. -/
def all : List Fld :=
  part0 ++ part1 ++ part2 ++ part3 ++ part4 ++ part5

end Sys2Proof.Hid
end

