-- ==== Sys2Proof/Machine/Ops.lean ====
section
/-! DEFINITION. The named operations that the blocks share: power state, time, free values, byte memories, CRC-32, interrupt sources, and the
raising of Ledger events. -/

namespace Sys2Proof.Machine
open Sys2Proof

/-- A command's effect on State, as an outcome. -/
def done (s : State) : Out := .next s

/-- Apply an operation where a condition holds; leave the state as it is otherwise. -/
def State.ifDo (s : State) (c : Bool) (f : State → State) : State := if c then f s else s

/-- Apply an operation for each number of a list, in order. -/
def State.forEach (s : State) (l : List Nat) (f : State → Nat → State) : State := l.foldl f s

/-- The numbers below n for which a test holds. -/
def below (n : Nat) (p : Nat → Bool) : List Nat := (List.range n).filter p

/- Power state (R15, R22). -/

/-- PWR_STATE.CUR: 1 STANDBY, 2 ACTIVE, 3 HOLD, 4 SHIP_PEND. -/
def State.cur (s : State) : Nat := s.get Reg.PWR_STATE_CUR 0

/-- The main domain is powered and out of reset: commands of the main domain act. -/
def State.up (s : State) : Bool := 2 ≤ s.get Hid.MAIN 0

/-- The main domain is powered (VAO is alive). -/
def State.vao (s : State) : Bool := s.is Hid.MAIN 0

/-- What a warm reset keeps goes on: the part is out of reset, or in a warm reset (R61, R294, R316). -/
def State.carries (s : State) : Bool := s.up || (s.vao && s.is Hid.WARM 0)

/-- The part runs: out of reset and past the ROM boot stage. -/
def State.runs (s : State) : Bool := s.get Hid.MAIN 0 == 3

/-- In STANDBY, SHIP_PEND included (R15). -/
def State.standby (s : State) : Bool := s.cur == 1 || s.cur == 4

def State.active (s : State) : Bool := s.cur == 2

def State.hold (s : State) : Bool := s.cur == 3

/-- FCLK is usable (R18, R19). -/
def State.fclk (s : State) : Bool := s.get Hid.FCLK 0 == 2

/- Sets without FCLK (R7). -/

/-- The mark beside a status field that a set of it was made without FCLK and has not counted yet: a clear leaves such bits set (R7). -/
def Fld.held (f : Fld) : Fld := { f with base := f.base + 0x40000, rst := 0, rsts := [] }

/-- A block sets status bits; while FCLK is not usable the set counts with the first edge after it (R7). -/
def State.flag (s : State) (f : Fld) (n v : Nat) : State :=
  (s.put f n (s.get f n ||| v)).ifDo (!s.fclk) (fun s => s.put f.held n (s.get f.held n ||| v))

/-- FCLK becomes usable: the sets that waited for it have counted (R7, R19). -/
def State.fclkOn (s : State) : State := { s with fld := Pages.keep s.fld (fun k => decide (k / 256 < 0x40000)) }.put Hid.FCLK 0 2

/-- A demand of R18 arises: FCLK starts where it is stopped. -/
def State.demand (s : State) : State := s.ifDo (s.get Hid.FCLK 0 == 0) (fun s => s.put Hid.FCLK 0 1)

/- Time (R21, R337, R338). -/

def State.tick (s : State) : Nat := s.get Hid.BK_TICK 0

def State.wall (s : State) : Nat := s.get Hid.BK_WALL 0

/-- The microseconds counted since VAO rose. -/
def State.usec (s : State) : Nat := s.get Hid.TNOW 0

def State.tnow (s : State) : Nat := s.usec % 2 ^ 32

/-- a - b modulo 2^32. -/
def diff32 (a b : Nat) : Nat := (a + 2 ^ 32 - b % 2 ^ 32) % 2 ^ 32

/-- The signed 32-bit number a - b is 0 or more (R178). -/
def reached (now dl : Nat) : Bool := diff32 now dl < 2 ^ 31

/-- The next free value of a width, and the state with the counter moved on (DESIGN CHOICE, log 3). -/
def State.drawFree (s : State) (w : Nat) : Nat × State :=
  ((Config.freeValue s.free).toNat % 2 ^ w, { s with free := s.free + 1 })

/- Bytes and words. -/

/-- The n bytes of a number, lowest first. -/
def leBytes (n v : Nat) : List (BitVec 8) :=
  match n with
  | 0 => []
  | k + 1 => BitVec.ofNat 8 v :: leBytes k (v / 256)

/-- The number that bytes make, lowest first. -/
def leNat (l : List (BitVec 8)) : Nat :=
  match l with
  | [] => 0
  | b :: t => b.toNat + 256 * leNat t

/-- The bytes of a byte memory from an address on. -/
def bytesAt (m : List Host.Cell) (a n : Nat) : List (BitVec 8) := (List.range n).map (fun i => Cells.look m (a + i))

/-- The number that n bytes at an address make, little-endian (R164, R407). -/
def leAt (m : List Host.Cell) (a n : Nat) : Nat := leNat (bytesAt m a n)

/-- The word at an address, little-endian. -/
def wordAt (m : List Host.Cell) (a : Nat) : Word := BitVec.ofNat 32 (leAt m a 4)

/-- A byte memory with bytes stored from an address on. -/
def storeBytes (m : List Host.Cell) (a : Nat) (l : List (BitVec 8)) : List Host.Cell :=
  match l with
  | [] => m
  | b :: t => storeBytes (Cells.set m a b) (a + 1) t

/-- A byte memory with a word stored at an address, little-endian. -/
def storeWord (m : List Host.Cell) (a : Nat) (v : Word) : List Host.Cell := storeBytes m a (leBytes 4 v.toNat)

/-- One bit of CRC-32, reflected, polynomial 0x04C11DB7 (R159). -/
def crcBit (c : Nat) : Nat := if c % 2 = 1 then Nat.xor (c / 2) 0xEDB88320 else c / 2

/-- Eight bits of CRC-32. -/
def crcByte (c : Nat) (b : BitVec 8) : Nat :=
  crcBit (crcBit (crcBit (crcBit (crcBit (crcBit (crcBit (crcBit (Nat.xor c b.toNat))))))))

/-- CRC-32 of bytes: initial value and final exclusive or 0xFFFFFFFF (R159). -/
def crc32 (l : List (BitVec 8)) : Nat := Nat.xor (l.foldl crcByte 0xFFFFFFFF) 0xFFFFFFFF

/-- A bit of an array of 32-bit words held by a field: bit i % 32 of unit i / 32. -/
def State.arr (s : State) (f : Fld) (i : Nat) : Bool := s.bit f (i / 32) (i % 32)

def State.setArr (s : State) (f : Fld) (i : Nat) (b : Bool) : State := s.setBit f (i / 32) (i % 32) b

/-- A bit field of a word. -/
def bits (w hi lo : Nat) : Nat := w / 2 ^ lo % 2 ^ (hi + 1 - lo)

/-- Fields of one register packed at their bits. -/
def State.pack (s : State) (l : List Fld) (n : Nat) : Nat := l.foldl (fun a f => a + s.get f n * 2 ^ f.lsb) 0

/- Interrupt sources (R351 to R353). -/

/-- The sources whose level is a raise latch (R351). -/
def hasLatch (n : Nat) : Bool := (5 ≤ n && n ≤ 51) || (57 ≤ n && n ≤ 59) || (62 ≤ n && n ≤ 65)

/-- Some sticky bit has CUR_CLASS k (R325). -/
def State.stickyClass (s : State) (k : Nat) : Bool :=
  (List.range 128).any (fun n => s.arr Reg.LG_STICKY_STICKY n && s.get Reg.LS_STAT_CUR_CLASS n == k)

/-- Any bit of PORTx_EVT is set (R351). -/
def State.portEvt (s : State) (x : Nat) : Bool :=
  [Reg.PORT_EVT_NO_PD, Reg.PORT_EVT_CMD_BAD, Reg.PORT_EVT_NSUP, Reg.PORT_EVT_MISMATCH, Reg.PORT_EVT_SETTLE_FAIL,
   Reg.PORT_EVT_VCONN_OCP, Reg.PORT_EVT_CC_OVP, Reg.PORT_EVT_RCP, Reg.PORT_EVT_OCP, Reg.PORT_EVT_OVP, Reg.PORT_EVT_SWAP_REJ,
   Reg.PORT_EVT_SWAP_DONE, Reg.PORT_EVT_HRST_TX, Reg.PORT_EVT_HRST_RX, Reg.PORT_EVT_ABORT, Reg.PORT_EVT_CONTRACT,
   Reg.PORT_EVT_DETACH, Reg.PORT_EVT_ATTACH].any (fun f => s.is f x)

/-- The level of timer n's source (R361). -/
def State.tmrLevel (s : State) (n : Nat) : Bool :=
  (s.is Reg.TM_STAT_MATCH_F n && s.is Reg.TM_CTRL_MIE n) || (s.is Reg.TM_STAT_OVF_F n && s.is Reg.TM_CTRL_OIE n)

/-- The level of an interrupt source (R351). -/
def State.isLevel (s : State) (n : Nat) : Bool :=
  if n < 5 then s.stickyClass n
  else if hasLatch n then s.arr Reg.IS_RLAT_RLAT n
  else if 52 ≤ n && n ≤ 55 then s.is Reg.STL_STAT_WD_EARLY (n - 52)
  else if n == 56 then s.mail.any (fun m => m.1 == 4)
  else if n == 60 || n == 61 then s.portEvt (n - 60)
  else if n == 66 then s.is Reg.BK_STAT_ALM_FLAG 0
  else if n == 67 then s.is Reg.BK_STAT_BTN 0
  else if 68 ≤ n && n ≤ 83 then s.tmrLevel (n - 68)
  else false

/-- A source is pending (R352). -/
def State.isPending (s : State) (n : Nat) : Bool := s.isLevel n || s.arr Hid.IS_SOFT n

/-- The priority of a source (R353). -/
def State.isPri (s : State) (n : Nat) : Nat :=
  let f := match n % 8 with
    | 0 => Reg.IS_PRI_PRI0
    | 1 => Reg.IS_PRI_PRI1
    | 2 => Reg.IS_PRI_PRI2
    | 3 => Reg.IS_PRI_PRI3
    | 4 => Reg.IS_PRI_PRI4
    | 5 => Reg.IS_PRI_PRI5
    | 6 => Reg.IS_PRI_PRI6
    | _ => Reg.IS_PRI_PRI7
  s.get f (n / 8)

/-- Source n is enabled for target t (R353). -/
def State.isEnabled (s : State) (t n : Nat) : Bool := s.bit Hid.IC_ENA (16 * t + n / 32) (n % 32)

/-- Pair 4 carries an identity (R214). -/
def State.spareUsed (s : State) : Bool := s.get Reg.STL_SPARE_SPARE 0 == 1

/-- Source n is presentable to target t (R353). -/
def State.presentable (s : State) (t n : Nat) : Bool :=
  s.isEnabled t n && !s.arr Reg.IS_ACT_ACT n && s.isPending n &&
    (t != 0 || s.get Reg.IC_TH_TH0 0 ≤ s.isPri n) && (t != 1 || s.get Reg.IC_TH_TH1 0 ≤ s.isPri n) && (t != 6 || s.spareUsed)

/-- Source n is a wake event of STANDBY, not yet claimed (R29). -/
def State.wakeEvent (s : State) (n : Nat) : Bool :=
  s.get Reg.STBY_CFG_WAKE_PRI 0 ≤ s.isPri n && s.isPending n && !s.arr Reg.IS_ACT_ACT n &&
    [2, 3, 4, 5, 6].any (fun t => s.isEnabled t n)

/-- In STANDBY a wake event starts FCLK (R18, R29). -/
def State.wake (s : State) (n : Nat) : State := s.ifDo (s.standby && s.up && s.wakeEvent n) State.demand

/-- A block raises an interrupt source: its raise latch sets, without FCLK (R351). -/
def State.irq (s : State) (n : Nat) : State := s.ifDo s.vao (fun s => (s.flag Reg.IS_RLAT_RLAT (n / 32) (2 ^ (n % 32))).wake n)

/-- An event of port x sets a bit of PORTx_EVT, which is the level of its interrupt source (R29, R351). -/
def State.portFlag (s : State) (f : Fld) (x : Nat) : State := (s.flag f x 1).wake (60 + x)

/- Ledger events. -/

/-- A block raises a Ledger source. The Ledger registers it when it is settled; while the part is held in reset no event is registered (R331), and
an event still unregistered is one event however often it is raised (R322, R331). -/
def State.raise (s : State) (n : Nat) : State :=
  if s.up && !s.evq.contains n then { s with evq := s.evq ++ [n] } else s

/-- The 128 sticky bits as one number. -/
def State.stickies (s : State) : Nat :=
  s.get Reg.LG_STICKY_STICKY 0 + 2 ^ 32 * (s.get Reg.LG_STICKY_STICKY 1 + 2 ^ 32 *
    (s.get Reg.LG_STICKY_STICKY 2 + 2 ^ 32 * s.get Reg.LG_STICKY_STICKY 3))

/-- The grave flag (R329). -/
def State.grave (s : State) : Bool := s.is Reg.LG_STAT_GRAVE 0

/-- The backup domain's supply is present: its registers hold their values and its logic runs (R332, R333). -/
def State.domain (s : State) : Bool := s.is Hid.DOM_ON 0

/- Units of supply. -/

/-- An input is qualified (R241; 0 DCIN, 1 P0, 2 P1). -/
def State.qualified (s : State) (i : Nat) : Bool := s.is Hid.IN_QUAL i

/-- Some input is qualified. -/
def State.anyInput (s : State) : Bool := s.qualified 0 || s.qualified 1 || s.qualified 2

end Sys2Proof.Machine
end

