-- ==== Sys2Proof/Machine/Daybook.lean ====
section
/-! DEFINITION. The Daybook (R154 to R160): building, staging, merging and writing records, and the turns of the NVM unit writes (R409). -/

namespace Sys2Proof.Machine
open Sys2Proof

/- Record types (R160). -/

def tyReset : Nat := 0x0001
def tyOrderViol : Nat := 0x0002
def tyShipEntry : Nat := 0x0003
def tyHoldEmpty : Nat := 0x0004
def tySeqFail : Nat := 0x0010
def tyRailFault : Nat := 0x0011
def tyCrierTrip : Nat := 0x0012
def tyBlind : Nat := 0x0013
def tyHoldEntry : Nat := 0x0020
def tyInputBack : Nat := 0x0021
def tyLedger : Nat := 0x0030
def tyGrave : Nat := 0x0031
def tyTakeover : Nat := 0x0032
def tyProg : Nat := 0x0040
def tyHost : Nat := 0x0041
def tyTimed : Nat := 0x0042

/-- Critical records (R156). -/
def isCritical (ty : Nat) : Bool := !(ty == tyLedger || ty == tyProg || ty == tyHost || ty == tyTimed)

/-- A rail is enabled: START, GOOD, FAULT or STOP (KPR_ONj, R145). -/
def State.railOn (s : State) (r : Nat) : Bool := let x := s.get Reg.SEQ_OUT_RSTATE r; 1 ≤ x && x ≤ 4

/-- The bits of a test over the numbers below n, as one number. -/
def bitsOf (n : Nat) (p : Nat → Bool) : Nat := (List.range n).foldl (fun a i => if p i then a + 2 ^ i else a) 0

/-- CHn_DATA as it reads (R115). -/
def State.chData (s : State) (n : Nat) : Word :=
  BitVec.ofNat 32 (s.get Reg.CH_DATA_VALUE n + 2 ^ 16 * s.get Reg.CH_DATA_ZONE n + 2 ^ 19 * s.get Reg.CH_DATA_STALE n +
    2 ^ 20 * s.get Reg.CH_DATA_ARMED n + 2 ^ 21 * s.get Reg.CH_DATA_FLT_SEEN n + 2 ^ 24 * s.get Reg.CH_DATA_SCAN_TAG n)

/-- The snapshot mask of DBK_MASKj (R157). -/
def State.dbkMask (s : State) : Nat := bitsOf 192 (fun n => s.arr Reg.DBK_MASK_MASK n)

/-- KPR_STAT.STATE, SEQ_LATCH, BLIND and TBL_BAD as the KSTATE byte (R159). -/
def State.kstate (s : State) : Nat :=
  s.get Reg.KPR_STAT_STATE 0 + 4 * s.get Reg.KPR_LATCH_SEQ_LATCH 0 + 8 * s.get Reg.SCN_STAT_BLIND 0 + 16 * s.get Reg.KPR_STAT_TBL_BAD 0

/-- A record built at its trigger (R155, R159), with its mask, origin, rail (255 none), Ledger source (255 none) and EVENT bytes. -/
def State.build (s : State) (ty origin mask rail lsrc : Nat) (ev user : List (BitVec 8)) : Record :=
  { ty := ty, flags := if s.is Reg.BK_STAT_UNSET 0 then 8 else 0, tick := s.tick, wall := s.wall, tnow := s.tnow,
    pwr := if s.is Reg.PWR_STATE_BOOTING 0 then 0 else s.cur, kstate := s.kstate, origin := origin, sticky := s.stickies,
    railOn := bitsOf 72 s.railOn, user := user, mask := mask, snap := (below 192 (fun n => mask.testBit n)).map s.chData,
    rep := 0, rail := rail, lsrc := lsrc, ev := ev, latch := false }

/-- A list of bytes cut or filled with zeros to a length. -/
def pad (n : Nat) (l : List (BitVec 8)) : List (BitVec 8) := (l ++ List.replicate n 0).take n

/-- The bytes 0x000 to 0x3FB of a record (R159). -/
def Record.body (r : Record) (seq : Nat) : List (BitVec 8) :=
  leBytes 4 seq ++ leBytes 2 r.ty ++ [1] ++ leBytes 1 r.flags ++ leBytes 6 r.tick ++ leBytes 2 r.snap.length ++ leBytes 8 r.wall ++
  leBytes 4 r.tnow ++ leBytes 1 r.pwr ++ leBytes 1 r.kstate ++ leBytes 1 r.origin ++ [0] ++ leBytes 16 r.sticky ++
  leBytes 12 r.railOn ++ leBytes 1 r.user.length ++ [0, 0, 0] ++ leBytes 24 r.mask ++
  leBytes 2 r.rep ++ leBytes 1 r.rail ++ leBytes 1 r.lsrc ++ pad 36 r.ev ++
  pad 768 (r.snap.flatMap (fun w => leBytes 4 w.toNat)) ++ pad 120 r.user ++ [0, 0, 0, 0]

/-- The 1024 bytes of a record (R159). -/
def Record.bytes (r : Record) (seq : Nat) : List (BitVec 8) := r.body seq ++ leBytes 4 (crc32 (r.body seq))

/-- SEQ of the newest record, 0 while the ring is empty (R158). -/
def State.newestSeq (s : State) : Nat := s.get Reg.DBK_HEAD_SEQ_HI 0 * 1024 + (s.get Reg.DBK_HEAD_SLOT 0 + 1) % 1024

/-- The NVM byte address of a ring slot (R407). -/
def slotAddr (slot : Nat) : Nat := 0x080000 + 1024 * slot

/-- A record dropped for want of staging or of a token (R156). -/
def State.dropped (s : State) : State := (s.sat Reg.DBK_STAT_DROPPED 0 0xFFFF).put Hid.DROPS 0 1

/-- A unit write of the window queue begins with the words that stand in the queue (R409). -/
def State.queueStart (s : State) : State := ((s.put Hid.NVM_JOB 0 3).put Hid.Q_CNT 0 s.nvmq.length).demand

/-- Start the next NVM unit write where none is in progress: a gauge journal record, then Daybook units, then the window queue (R409);
after a whole Daybook record a waiting queue goes first, so that the units take turns. -/
def State.nvmNext (s : State) : State :=
  if s.get Hid.NVM_JOB 0 != 0 then s
  else if s.gauge.writing != 0 then (s.put Hid.NVM_JOB 0 1).demand
  else if s.is Hid.NVM_TURN 0 && !s.nvmq.isEmpty then s.queueStart
  else match s.staging with
    | r :: t =>
      let s := s.demand.put Hid.NVM_JOB 0 2
      if s.is Hid.DBK_WR 0 then s
      else
        let seq := (s.newestSeq + 1) % 2 ^ 32
        let s := { s with staging := (if s.is Hid.DROPS 0 then { r with flags := r.flags ||| 4 } else r) :: t }
        let s := ((s.put Hid.DROPS 0 0).put Hid.DBK_WR 0 1).put Hid.UNIT 0 0
        let s := s.ifDo r.latch (fun s => (s.put Hid.LATCH_SEQ 0 seq).put Reg.KPR_LATCH_REC_SEQ 0 seq)
        s.ifDo (s.is Reg.KPR_LATCH_SEQ_LATCH 0 && s.get Hid.LATCH_SEQ 0 != 0 && seq == s.get Hid.LATCH_SEQ 0 + 1024)
          (fun s => s.put Reg.KPR_LATCH_REC_LOST 0 1)
    | [] => if s.nvmq.isEmpty then s else s.queueStart

/-- A record put at the end of the staging queue; it spends a token if one is there (R156). -/
def State.append (s : State) (r : Record) : State :=
  ({ s with staging := s.staging ++ [r] }.put Reg.DBK_STAT_TOKENS 0 (s.get Reg.DBK_STAT_TOKENS 0 - 1)).nvmNext

/-- Records whose write has begun: the head of the queue while it is being written. -/
def State.begun (s : State) : Nat := s.get Hid.DBK_WR 0

/-- The index of the last element of a list that meets a test. -/
def lastIdx {α : Type} (p : α → Bool) (l : List α) : Option Nat :=
  ((List.range l.length).filter (fun i => (l[i]?).any p)).getLast?

/-- Stage a critical record (R156). -/
def State.stageCritical (s : State) (r : Record) : State :=
  if s.staging.length < 16 then s.append r
  else
    let open_ := s.staging.drop s.begun
    let head := s.staging.take s.begun
    match lastIdx (fun x => !isCritical x.ty) open_ with
    | some i => ({ s with staging := head ++ open_.eraseIdx i }.dropped).append r
    | none =>
      match lastIdx (fun x => x.ty == r.ty) open_ with
      | some i =>
        { s with staging := head ++ open_.modify i (fun x => { x with rep := min 0xFFFF (x.rep + 1), latch := x.latch || r.latch }) }
      | none =>
        ((s.sat Reg.DBK_STAT_CRIT_LOST 0 0xFF).raise 111).ifDo r.latch (fun s => s.put Reg.KPR_LATCH_REC_LOST 0 1)

/-- A source staged a record within SRC_GAP (R156; 0 ms taken as 1). -/
def State.inGap (s : State) (g : Gap) : Bool :=
  ((s.tick + 2 ^ 48 - g.last) % 2 ^ 48) * 1000 < max 1 (s.get Reg.DBK_CFG_SRC_GAP 0) * 32768

/-- The entry of a Daybook source. -/
def State.gapOf (s : State) (src : Nat) : Option Gap := s.gap.find? (fun g => g.src == src)

/-- The entry of a Daybook source replaced. -/
def State.setGap (s : State) (g : Gap) : State := { s with gap := g :: s.gap.filter (fun x => x.src != g.src) }

/-- What became of an other record: staged, counted as a repeat, or dropped (R156, R206). -/
inductive Staged where
  | staged
  | repeated
  | dropped
  deriving DecidableEq, Repr

/-- Stage a record of the other kind for a source (none: TIMED) (R156). -/
def State.stageOther (s : State) (src : Option Nat) (r : Record) : Staged × State :=
  if 16 < s.staging.length + 5 || s.get Reg.DBK_STAT_TOKENS 0 == 0 then (.dropped, s.dropped)
  else match src with
    | none => (.staged, s.append r)
    | some n =>
      match s.gapOf n with
      | none => (.staged, (s.setGap { src := n, last := s.tick, rep := 0 }).append r)
      | some g =>
        if s.inGap g then (.repeated, s.setGap { g with rep := g.rep + 1 })
        else (.staged, (s.setGap { src := n, last := s.tick, rep := 0 }).append { r with rep := min 0xFFFF g.rep })

/-- Stage a critical record of a type, by the Keeper, with the default mask. -/
def State.record (s : State) (ty rail lsrc : Nat) (ev : List (BitVec 8)) : State :=
  s.stageCritical (s.build ty 0 s.dbkMask rail lsrc ev [])

/-- The RSTATE of every rail as the bit string of a SEQ_FAIL record (R160). -/
def State.rstates (s : State) : Nat :=
  (List.range 72).foldl (fun a r => a + s.get Reg.SEQ_OUT_RSTATE r * 8 ^ r) 0

/-- SEQ_LATCH set with a cause and a rail, and its latch record staged; a setting while the latch is set changes nothing (R150). -/
def State.setLatch (s : State) (cause rail lsrc : Nat) : State :=
  if s.is Reg.KPR_LATCH_SEQ_LATCH 0 then s
  else
    let s := (((s.put Reg.KPR_LATCH_SEQ_LATCH 0 1).put Reg.KPR_LATCH_CAUSE 0 cause).put Reg.KPR_LATCH_RAIL 0 rail).put Reg.KPR_STAT_PEND_ON 0 0
    let s := s.put Hid.LATCH_SEQ 0 0
    s.stageCritical { s.build tySeqFail 0 s.dbkMask rail lsrc (leBytes 1 cause ++ leBytes 27 s.rstates) [] with latch := true }

/-- The n bytes a failed NVM unit holds: free values (R409; DESIGN CHOICE, log 3). -/
def State.freeBytes (s : State) (n : Nat) : List (BitVec 8) × State :=
  match n with
  | 0 => ([], s)
  | k + 1 =>
    let d := s.drawFree 8
    let r := State.freeBytes d.2 k
    (BitVec.ofNat 8 d.1 :: r.1, r.2)

/-- One unit of bytes stored in NVM; a unit whose read-back fails sets NVM_STAT.ERR, raises NVM_ERR and holds free bytes (R409). -/
def State.writeUnit (s : State) (a : Nat) (l : List (BitVec 8)) (ok : Bool) : State :=
  if ok then { s with nvm := storeBytes s.nvm a l }
  else
    let r := s.freeBytes l.length
    ({ r.2 with nvm := storeBytes r.2.nvm a r.1 }.put Reg.NVM_STAT_ERR 0 1).raise 103

/-- The record at the head of staging committed: DBK_HEAD names it and it leaves staging (R155, R158). -/
def State.commit (s : State) : State :=
  let seq := (s.newestSeq + 1) % 2 ^ 32
  let s := { s with staging := s.staging.drop 1 }
  let s := (s.put Reg.DBK_HEAD_SLOT 0 ((seq + 1023) % 1024)).put Reg.DBK_HEAD_SEQ_HI 0 (seq / 1024)
  ((s.put Hid.DBK_WR 0 0).put Hid.UNIT 0 0).put Hid.NVM_TURN 0 1

/-- One Daybook unit written (R155): the record type committed by it, if it was the last of its record. -/
def State.daybookUnit (s : State) (ok : Bool) : Option Nat × State :=
  match s.staging with
  | [] => (none, s.put Hid.NVM_JOB 0 0)
  | r :: _ =>
    let seq := (s.newestSeq + 1) % 2 ^ 32
    let k := s.get Hid.UNIT 0
    let s := s.writeUnit (slotAddr ((seq + 1023) % 1024) + 64 * k) (((r.bytes seq).drop (64 * k)).take 64) ok
    let s := s.put Hid.NVM_JOB 0 0
    if k < 15 then (none, (s.put Hid.UNIT 0 (k + 1)).nvmNext) else (some r.ty, s.commit.nvmNext)

/-- Every staged record written at once, oldest first (R59, R63 step 4). -/
def State.flushStaging (s : State) (fuel : Nat) : State :=
  match fuel with
  | 0 => s
  | k + 1 =>
    match s.staging with
    | [] => s
    | _ :: _ =>
      let s := s.nvmNext
      match s.staging with
      | [] => s
      | r :: _ =>
        let seq := (s.newestSeq + 1) % 2 ^ 32
        let s := { s with nvm := storeBytes s.nvm (slotAddr ((seq + 1023) % 1024)) (r.bytes seq) }
        State.flushStaging ((s.put Hid.NVM_JOB 0 0).commit) k

/-- Staged records lost with the SRAM; a latch record among them is lost (R150, R154). -/
def State.loseStaging (s : State) : State :=
  let lost := s.staging.any (fun r => r.latch)
  let s := ({ s with staging := [], gap := [] }.put Hid.DBK_WR 0 0).put Hid.UNIT 0 0
  s.ifDo (lost && s.is Reg.KPR_LATCH_SEQ_LATCH 0) (fun s => s.put Reg.KPR_LATCH_REC_LOST 0 1)

/-- The SEQ of the record a ring slot holds, none where its CRC fails or its SEQ is 0 (R158). -/
def State.slotSeq (s : State) (slot : Nat) : Option Nat :=
  let b := bytesAt s.nvm (slotAddr slot) 1024
  let seq := leNat (b.take 4)
  if seq != 0 && leNat (b.drop 1020) == crc32 (b.take 1020) then some seq else none

/-- The head of the ring: the valid record of highest SEQ (R158). -/
def State.findHead (s : State) : State :=
  let best := (List.range 1024).foldl (fun a i =>
    match (if wordAt s.nvm (slotAddr i) == 0 then none else s.slotSeq i) with
    | some q => max a q
    | none => a) 0
  if best == 0 then (s.put Reg.DBK_HEAD_SEQ_HI 0 0).put Reg.DBK_HEAD_SLOT 0 0x3FF
  else (s.put Reg.DBK_HEAD_SEQ_HI 0 (best / 1024)).put Reg.DBK_HEAD_SLOT 0 ((best + 1023) % 1024)

end Sys2Proof.Machine
end

