-- ==== Sys2Proof/Machine/Mlc.lean ====
section
/-! DEFINITION. The multiphase loop controller (R70 to R103): phases, loops, current sense, the compensator, starts and stops, ramps, the levels of
rush, braking, power good and phase faults, the frame, and what the loops drive. What touches rails stands in Keeper.lean and MlcCmd.lean. -/

namespace Sys2Proof.Machine
open Sys2Proof

/- Loop states: LPn_STAT.STATE. -/
def lpOff : Nat := 0
def lpCheck : Nat := 1
def lpSoft : Nat := 2
def lpRun : Nat := 3
def lpStopping : Nat := 4
def lpHss : Nat := 5

def State.lp (s : State) (n : Nat) : Nat := s.get Reg.LP_STAT_STATE n

/-- The loop is enabled: starting, running or stopping (LPn_CTRL.EN). -/
def State.lpEn (s : State) (n : Nat) : Bool := 1 ≤ s.lp n && s.lp n ≤ 4

/-- Any loop is enabled (R101, R23). -/
def State.anyLoop (s : State) : Bool := (List.range 8).any s.lpEn

/-- Phase k is assigned to loop n (R70). -/
def State.assigned (s : State) (n k : Nat) : Bool := s.is Reg.PH_CFG_ASSIGN k && s.get Reg.PH_CFG_LOOP k == n

/-- The phases of loop n, in rising order. -/
def State.phases (s : State) (n : Nat) : List Nat := below 24 (s.assigned n)

/-- N_CFG (R72). -/
def State.nCfg (s : State) (n : Nat) : Nat := (s.phases n).length

/-- N_ACT (R72). -/
def State.nAct (s : State) (n : Nat) : Nat := ((s.phases n).filter (fun k => !s.is Reg.PH_STAT_FENCED k)).length

/-- LPn_LIMIT.IPH_MAX as it acts: 0 taken as 1. -/
def State.iphMax (s : State) (n : Nat) : Nat := max 1 (s.get Reg.LP_LIMIT_IPH_MAX n)

/-- I_CAP = N_ACT × IPH_MAX (R72). -/
def State.iCap (s : State) (n : Nat) : Nat := s.nAct n * s.iphMax n

/-- A value kept within two bounds. -/
def clampN (lo hi v : Nat) : Nat := max lo (min hi v)

/-- LPn_SS.RATE as it acts, in 0.05 mV/µs. -/
def State.rate (s : State) (n : Nat) : Nat := clampN 1 1000 (s.get Reg.LP_SS_RATE n)

/-- The frame frequency in force in kHz (R100). With SRC = 1 and no lock yet the frame goes on at the frequency it had as SRC was set (DESIGN CHOICE,
log 64: the spec gives none). -/
def State.frameKhz (s : State) : Nat :=
  if s.is Reg.MLC_FRAME_SRC 0 then s.get Reg.MLC_SYNC_STAT_FRAME_NOW 0 else clampN 200 2000 (s.get Reg.MLC_FRAME_FRAME_KHZ 0)

/-- f_SW of a loop in kHz (R100). -/
def State.fsw (s : State) (n : Nat) : Nat := s.frameKhz * (s.get Reg.LP_CTRL_MULT_M1 n + 1)

/-- LPn_STAT.FREQ_BAD (R100). -/
def State.freqBad (s : State) (n : Nat) : Bool := s.fsw n < 200 || 2000 < s.fsw n

/-- The phases of the loop switch: soft start, running, or ramping down (R81, R82). -/
def State.switching (s : State) (n : Nat) : Bool := s.lp n == lpSoft || s.lp n == lpRun || s.lp n == lpStopping

/-- Rush or braking is under way. -/
def State.inEvent (s : State) (n : Nat) : Bool := s.is Hid.LP_RUSH n || s.is Hid.LP_BRAKE n

/-- The R79 refusal cases of a start: N_ACT 0, HSS, FREQ_BAD. -/
def State.startBad (s : State) (n : Nat) : Bool := s.nAct n == 0 || s.is Reg.LP_STAT_HSS n || s.freqBad n

/- Current sense (R73): currents in A. -/

/-- V_ISREF in µV (LPn_ISEN.ISREF; above 240 taken as 240). -/
def State.isRef (s : State) (n : Nat) : Nat := 600000 + 5000 * min 240 (s.get Reg.LP_ISEN_ISREF n)

/-- G_ISEN in µV/A (LPn_ISEN.GAIN, clamped). -/
def State.isGain (s : State) (n : Nat) : Nat := 100 * clampN 10 100 (s.get Reg.LP_ISEN_GAIN n)

/-- I_k of a phase, positive into the output. -/
def State.amps (s : State) (k : Nat) : Rat :=
  let n := s.get Reg.PH_CFG_LOOP k
  ((s.get Hid.PH_VISEN k : Rat) - s.isRef n) / s.isGain n

/-- The active phases of loop n: assigned and not fenced (R72). -/
def State.activePhases (s : State) (n : Nat) : List Nat := (s.phases n).filter (fun k => !s.is Reg.PH_STAT_FENCED k)

/-- I_SUM (R73). -/
def State.iSum (s : State) (n : Nat) : Rat := (s.activePhases n).foldl (fun x k => x + s.amps k) 0

/-- I_AVG (R73). -/
def State.iAvg (s : State) (n : Nat) : Rat := s.iSum n / s.nAct n

/-- V_TGT = V_REF - R_LL × I_SUM in µV, clamped at 0 (R75, R81): R_LL is LL × 2 µΩ, LL above 1000 taken as 1000. -/
def State.vTgt (s : State) (n : Nat) : Rat :=
  max 0 (1000 * (s.get Reg.LP_REF_VREF_NOW n : Rat) - 2 * (min 1000 (s.get Reg.LP_LL_LL n) : Nat) * s.iSum n)

/-- VSEN of the loop in µV. -/
def State.vSen (s : State) (n : Nat) : Nat := s.get Hid.LP_VSEN n

/-- The levels of a loop's sense inputs, brought by a command. -/
def State.sense (s : State) (n : Nat) (m : LoopSense) : State :=
  m.isen.foldl (fun s x => s.put Hid.PH_VISEN x.1 x.2) (s.put Hid.LP_VSEN n m.vsen)

/-- A length of so many switching periods of loop n, in whole microseconds, rounded up. -/
def State.periods (s : State) (n m : Nat) : Nat := (1000 * m + s.fsw n - 1) / s.fsw n

/- The input switch (R85, R87): an SQ pin in an enable mode. -/

/-- The input switch of loop n closes, where INSW_EN = 1. -/
def State.swClose (s : State) (n : Nat) : State :=
  let p := s.get Reg.LP_CTRL_INSW_PIN n
  s.ifDo (s.is Reg.LP_CTRL_INSW_EN n) (fun s => ((s.put Hid.LP_INSW n 1).put Hid.LP_SWPIN n p).put Hid.SQ_DRV p 1)

/-- The input switch of loop n opens; a pin that another loop's closed switch uses stays at its enable level (DESIGN CHOICE, log 64). -/
def State.swOpen (s : State) (n : Nat) : State :=
  let p := s.get Hid.LP_SWPIN n
  s.ifDo (s.is Hid.LP_INSW n) (fun s =>
    (s.put Hid.LP_INSW n 0).ifDo (!(List.range 8).any (fun m => m != n && s.is Hid.LP_INSW m && s.get Hid.LP_SWPIN m == p))
      (fun s => s.put Hid.SQ_DRV p 2))

/-- The pre-start check begins (R85 step 1). -/
def State.loopStart (s : State) (n : Nat) : State :=
  ((((s.put Reg.LP_STAT_STATE n lpCheck).put Reg.LP_REF_VREF_NOW n 0).put Hid.LP_RESTART n 0).put Hid.LP_CHK_T n s.usec).swClose n

/-- The balance correction of a phase set (R76). -/
def State.setBal (s : State) (k : Nat) (b : Rat) : State := { s with bal := s.bal.setIfInBounds k b }

/-- A phase enters service: it leaves its fence with B_k = 0, and N_ACT rises (R98, R72). -/
def State.phaseJoin (s : State) (k : Nat) : State :=
  let n := s.get Reg.PH_CFG_LOOP k
  let s := ((((s.put Reg.PH_STAT_FENCED k 0).put Hid.PH_FBY k 0).put Hid.PH_WAIT k 0).put Hid.PH_CHECK k 0).setBal k 0
  s.ifDo (s.is Reg.PH_CFG_ASSIGN k) (fun s => s.irq (5 + n))

/-- Readmissions that wait or are being checked take effect when the loop is off or released (R98). -/
def State.endWaits (s : State) (n : Nat) : State :=
  s.forEach ((s.phases n).filter (fun k => s.is Hid.PH_WAIT k || s.is Hid.PH_CHECK k)) State.phaseJoin

/-- PGn deasserts (R93, R94); the Keeper takes the change under R138. -/
def State.pgLow (s : State) (n : Nat) : State :=
  s.ifDo (s.is Reg.LP_STAT_PG n) (fun s => ((s.put Reg.LP_STAT_PG n 0).put Hid.LP_PGD n 1).put Hid.LP_PGT n 0)

/-- A rush ends: no new one for a switching period (R88 step 4, R91). -/
def State.rushEnd (s : State) (n : Nat) : State :=
  s.ifDo (s.is Hid.LP_RUSH n) (fun s => (s.put Hid.LP_RUSH n 0).put Hid.LP_RUSH_U n (s.usec + s.periods n 1))

/-- Braking ends: no new one for a switching period (R89 step 4, R91). -/
def State.brakeEnd (s : State) (n : Nat) : State :=
  s.ifDo (s.is Hid.LP_BRAKE n) (fun s => (s.put Hid.LP_BRAKE n 0).put Hid.LP_BRK_U n (s.usec + s.periods n 1))

/-- The loop at OFF: phases at high impedance, PG low, input switch open (R83, R87); a high-side short keeps its block (R86). -/
def State.loopOff (s : State) (n : Nat) : State :=
  let s := s.ifDo (s.lpEn n) (fun s => s.put Reg.LP_STAT_STATE n lpOff)
  let s := (((s.pgLow n).rushEnd n).brakeEnd n).swOpen n
  let s := s.forEach (s.phases n) (fun s k => s.put Hid.PH_LIM k 0)
  ((((s.put Reg.LP_REF_VREF_NOW n 0).put Hid.LP_RESTART n 0).put Hid.LP_PGT n 0).put Hid.LP_DIODE n 0).endWaits n

/-- The loop begins a stop under its STOP_MODE (R83, R79, R87); a loop that is off or already stopping does not. -/
def State.loopStop (s : State) (n : Nat) : State :=
  if s.lp n == lpCheck || ((s.lp n == lpSoft || s.lp n == lpRun) && !s.is Reg.LP_CTRL_STOP_MODE n) then s.loopOff n
  else if s.lp n == lpSoft || s.lp n == lpRun then
    (((((s.put Reg.LP_STAT_STATE n lpStopping).pgLow n).rushEnd n).brakeEnd n).put Hid.LP_ACC n 0).put Hid.LP_DIODE n 0
  else s.put Hid.LP_RESTART n 0

/-- The effective pre-bias limit in mV (R85). -/
def State.prebias (s : State) (n : Nat) : Nat := min (max 50 (s.get Reg.LP_SS_PREBIAS_MAX n)) (s.get Reg.LP_REF_TARGET n)

/-- A voltage in µV as the converter's wide range reads it: whole millivolts from 0 to 3600 (R84). -/
def wideMv (v : Nat) : Nat := min 3600 (v / 1000)

/-- A high-side short shows in the watch of the pre-start check (R85): VSEN more than 200 mV above V0, or above the pre-bias limit. -/
def State.shortSeen (s : State) (n v0 v : Nat) : Bool := wideMv v0 + 200 < wideMv v || s.prebias n < wideMv v

/-- HSS_PH (R86): the assigned phase with the highest I_k above +2.0 A, 0x1F where none exceeds it. -/
def State.hssPhase (s : State) (n : Nat) : Nat :=
  let hot := (s.phases n).filter (fun k => (2 : Rat) < s.amps k)
  (hot.find? (fun k => hot.all (fun j => s.amps j ≤ s.amps k))).getD 0x1F

/-- One microsecond of a ramp: the accumulator advances by RATE, and the reference by whole millivolts toward its end (R80, R82). -/
def State.rampTick (s : State) (n : Nat) : State :=
  if !s.switching n then s
  else
    let goal := if s.lp n == lpStopping then 0 else s.get Reg.LP_REF_TARGET n
    let v := s.get Reg.LP_REF_VREF_NOW n
    if v == goal then s.put Hid.LP_ACC n 0
    else
      let acc := s.get Hid.LP_ACC n + s.rate n
      let v' := if v < goal then min goal (v + acc / 20) else max goal (v - acc / 20)
      (s.put Hid.LP_ACC n (acc % 20)).put Reg.LP_REF_VREF_NOW n v'

/-- Begin the readmission of a fenced phase (R98): at once in a loop that is off, with READMIT_CHECK in a loop that runs, waiting during rush,
braking and soft start. -/
def State.phaseReadmit (s : State) (k : Nat) : State :=
  let n := s.get Reg.PH_CFG_LOOP k
  if !s.is Reg.PH_STAT_FENCED k then s
  else if !s.is Reg.PH_CFG_ASSIGN k || !s.switching n then s.phaseJoin k
  else if s.lp n == lpSoft || s.inEvent n then s.put Hid.PH_WAIT k 1
  else ((s.put Hid.PH_CHECK k 1).put Hid.PH_WAIT k 0).put Hid.PH_CHK_T k s.usec

/- The compensator (R75 to R77, R90), in exact arithmetic: e in 0.25 mV, duty in 1/65536 of the period. -/

/-- The error as the window gives it: saturated at ±64 mV (R75). -/
def windowErr (e : Rat) : Rat := max (-256) (min 256 e)

/-- e = V_TGT - V_SEN of loop n as its converter gives it: to the nearest 0.25 mV (DESIGN CHOICE, log 63: the spec gives the step, not the
rounding), within the window (R75). -/
def State.loopErr (s : State) (n : Nat) : Rat := windowErr ((((s.vTgt n - s.vSen n) / 250 + 1 / 2).floor : Int) : Rat)

/-- One sample of the compensator of loop n; during rush and braking the integrator is frozen (R75, R90). -/
def Comp.sample (c : Comp) (kp ki kd af : Nat) (frozen : Bool) (err : Rat) : Comp :=
  let e := windowErr err
  let u := c.u + (kp : Rat) / 256 * (e - c.e1) + (if frozen then 0 else (ki : Rat) / 256 * e) + (kd : Rat) / 256 * (e - 2 * c.e1 + c.e2)
  let u := max 0 (min 65535 u)
  { u := u, d := c.d + (af : Rat) / 256 * (u - c.d), e1 := e, e2 := c.e1 }

/-- D_MAX = 1 - 40 ns × f_SW, in 1/65536 (R75). -/
def dMax (fswKhz : Nat) : Rat := 65536 * (1 - 40 * (fswKhz : Rat) / 1000000)

/-- The duty a sample gives (R75). -/
def Comp.duty (c : Comp) (fswKhz : Nat) : Rat := max 0 (min (dMax fswKhz) c.d)

/-- The balance correction of one switching period (R76), currents in A, as a fraction of the period; a fenced phase holds 0. -/
def balance (b : Rat) (kb : Nat) (iAvg iK : Rat) (fenced : Bool) : Rat :=
  if fenced then 0 else max (-1 / 10) (min (1 / 10) (b + (kb : Rat) / 1024 * (iAvg - iK)))

/-- The compensator of loop n. -/
def State.compOf (s : State) (n : Nat) : Comp := s.comp.getD n Comp.reset

/-- B_k of a phase (R76). -/
def State.balOf (s : State) (k : Nat) : Rat := s.bal.getD k 0

/-- Loop n takes a sample with the coefficients in force (R75, R77, R90). -/
def State.takeSample (s : State) (n : Nat) : State :=
  { s with comp := s.comp.setIfInBounds n ((s.compOf n).sample (s.get Reg.LP_COMP_KP n) (s.get Reg.LP_COMP_KI n) (s.get Reg.LP_COMP2_KD n)
      (s.get Reg.LP_COMP2_AF n) (s.inEvent n) (s.loopErr n)) }

/-- A switching period of loop n begins: the balance correction of each active phase (R76), an end of the current limit's hold (R74), and of diode
emulation once the soft start has ended (R81). -/
def State.nextPeriod (s : State) (n : Nat) : State :=
  let avg := s.iAvg n
  let s := s.forEach (s.activePhases n) (fun s k =>
    (s.setBal k (balance (s.balOf k) (s.get Reg.LP_COMP2_KB n) avg (s.amps k) false)).put Hid.PH_LIM k 0)
  s.ifDo (s.lp n != lpSoft) (fun s => s.put Hid.LP_DIODE n 0)

/-- An operation done m times. -/
def State.times (s : State) (m : Nat) (f : State → State) : State := s.forEach (List.range m) (fun s _ => f s)

/-- One microsecond of a switching loop: samples at f_S = f_SW × N_CFG, and switching periods at f_SW (R75, R76). -/
def State.loopClock (s : State) (n : Nat) : State :=
  let a := s.get Hid.LP_SACC n + s.fsw n * s.nCfg n
  let b := s.get Hid.LP_BACC n + s.fsw n
  let s := (s.put Hid.LP_SACC n (a % 1000)).put Hid.LP_BACC n (b % 1000)
  (s.times (a / 1000) (fun s => s.takeSample n)).times (b / 1000) (fun s => s.nextPeriod n)

/- Rush, braking and power good (R88 to R93): levels in µV. -/

/-- RUSH_TH or BRAKE_TH as it acts, in mV: 0 disables, 1 to 9 are taken as 10 (R92). -/
def eventTh (f : Nat) : Nat := if f == 0 then 0 else max 10 f

/-- VSEN lies below the rush level, by a share of RUSH_TH (R88): the whole of it to enter, half of it to stay. -/
def State.rushLevel (s : State) (n : Nat) (share : Rat) : Bool :=
  decide ((s.vSen n : Rat) < s.vTgt n - 1000 * (eventTh (s.get Reg.LP_PROT_RUSH_TH n) : Rat) * share)

/-- VSEN lies above the brake level, by a share of BRAKE_TH (R89). -/
def State.brakeLevel (s : State) (n : Nat) (share : Rat) : Bool :=
  decide (s.vTgt n + 1000 * (eventTh (s.get Reg.LP_PROT_BRAKE_TH n) : Rat) * share < (s.vSen n : Rat))

/-- The moment at which the rush in progress has lasted 4 switching periods (R88). -/
def State.rushLast (s : State) (n : Nat) : Nat := s.get Hid.LP_EVT_T n + s.periods n 4

/-- The moment at which the braking in progress has lasted 2 µs (R89). -/
def State.brakeLast (s : State) (n : Nat) : Nat := s.get Hid.LP_EVT_T n + 2

/-- A rush or braking in progress ends by its level or its time (R88, R89 step 3). -/
def State.eventEnds (s : State) (n : Nat) : State :=
  let s := s.ifDo (!s.rushLevel n (1 / 2) || s.rushLast n ≤ s.usec) (fun s => s.rushEnd n)
  s.ifDo (!s.brakeLevel n (1 / 2) || s.brakeLast n ≤ s.usec) (fun s => s.brakeEnd n)

/-- PG_WIN as it acts, in mV: 0 to 4 are taken as 5, above 64 it acts as 64 (R93). -/
def State.pgWin (s : State) (n : Nat) : Nat := clampN 5 64 (s.get Reg.LP_PG_PG_WIN n)

/-- VSEN lies within PG_WIN of V_TGT (R93). -/
def State.inPgWin (s : State) (n : Nat) : Bool :=
  let d := s.vTgt n - s.vSen n
  decide (d ≤ 1000 * (s.pgWin n : Rat) ∧ -d ≤ 1000 * (s.pgWin n : Rat))

/-- The microseconds after which PG asserts in the window: PG_ON_DLY (R93). -/
def State.pgOnDly (s : State) (n : Nat) : Nat := s.get Reg.LP_PG_PG_ON_DLY n

/-- The microseconds after which PG deasserts outside the window: PG_OFF_FILT, above 10 taken as 10 (R93). -/
def State.pgOffFilt (s : State) (n : Nat) : Nat := min 10 (s.get Reg.LP_PG_PG_OFF_FILT n)

/- Phase faults (R95). -/

/-- FLT_LVL as it acts, in µV. -/
def State.fltLvl (s : State) (n : Nat) : Nat := 1000 * clampN 2000 3100 (s.get Reg.LP_ISEN_FLT_LVL n)

/-- IMB_T as it acts, in µs. -/
def State.imbT (s : State) (n : Nat) : Nat := clampN 1 100 (s.get Reg.LP_LIMIT_IMB_T n)

/-- The distance of two currents. -/
def ampsApart (a b : Rat) : Rat := max (a - b) (b - a)

/-- The cause of a phase fault that stands at phase k, the lowest code of those whose level has stood for its time (R95): 1 ISEN_RANGE for a
switching period, 2 STAGE_FLT for 1 µs, 3 IMBALANCE for IMB_T; 0 for none. IPH_MAX and IMB_TH count in 0.5 A. -/
def State.phaseCause (s : State) (k : Nat) (t : FaultTimes) : Nat :=
  let n := s.get Reg.PH_CFG_LOOP k
  let v := s.get Hid.PH_VISEN k
  if (v < 100000 || 3200000 < v) && 1000000 ≤ t.range * s.fsw n then 1
  else if s.fltLvl n ≤ v && v ≤ 3200000 && 1000 ≤ t.stage then 2
  else if s.is Reg.LP_LIMIT_IMB_TH n && decide ((s.iphMax n : Rat) / 20 ≤ s.iAvg n) &&
      decide ((s.get Reg.LP_LIMIT_IMB_TH n : Rat) / 2 < ampsApart (s.amps k) (s.iAvg n)) && 1000 * s.imbT n ≤ t.imbalance then 3
  else 0

/-- Detection is live at a phase: assigned, unfenced and switching (R95). -/
def State.faultLive (s : State) (k : Nat) : Bool :=
  s.is Reg.PH_CFG_ASSIGN k && !s.is Reg.PH_STAT_FENCED k && s.switching (s.get Reg.PH_CFG_LOOP k)

/-- I_k exceeds IPH_MAX (R74). -/
def State.overLimit (s : State) (k : Nat) : Bool := decide ((s.iphMax (s.get Reg.PH_CFG_LOOP k) : Rat) / 2 < s.amps k)

/- What the MLC drives. -/

/-- What a PWM output does: high impedance, a level, or a pulse in every switching period, which begins after a share of the period and lasts a share of
it; after the pulse the output is low, or in diode emulation at high impedance once I_k has fallen to 0.5 A. -/
inductive Pwm where
  | hiZ
  | low
  | high
  | pulse (start duty : Rat) (diode : Bool)
  deriving DecidableEq, Repr

/-- PWM output of phase k (R70, R74, R76, R81 to R83, R88, R89, R96, R100). -/
def State.pwm (s : State) (k : Nat) : Pwm :=
  let n := s.get Reg.PH_CFG_LOOP k
  if !s.faultLive k || s.is Hid.LP_BRAKE n then .hiZ
  else if s.is Hid.PH_LIM k then .low
  else if s.is Hid.LP_RUSH n then .high
  else .pulse ((s.get Reg.PH_CFG_OFFSET k : Rat) / 256) ((s.compOf n).duty (s.fsw n) / 65536 + s.balOf k) (s.is Hid.LP_DIODE n)

/-- The point of the switching period at which the part samples ISEN of a phase (R73): the middle of the on-time, or of the phase's own period where the
on-time is shorter than 60 ns. -/
def State.sampleAt (s : State) (k : Nat) : Rat :=
  let n := s.get Reg.PH_CFG_LOOP k
  let duty := (s.compOf n).duty (s.fsw n) / 65536 + s.balOf k
  (s.get Reg.PH_CFG_OFFSET k : Rat) / 256 + (if duty * 1000000 < 60 * s.fsw n then 1 / 2 else duty / 2)

/-- PGn is driven low; else it is released (R94): unpowered and in reset too. -/
def State.pgPinLow (s : State) (n : Nat) : Bool := s.up && !s.is Reg.LP_STAT_PG n

/-- SYNC_OUT (R103, R419): none where it is low, or high impedance in reset, or a square wave of a frequency in kHz whose rising edge lags the frame by a number of 256ths of its period. -/
def State.syncOut (s : State) : Option (Nat × Nat) :=
  if s.up && s.is Reg.MLC_FRAME_SYNC_OUT_EN 0 then some (s.frameKhz, s.get Reg.MLC_FRAME_SYNC_OUT_OFS 0) else none

/- Commands. -/

/-- PHASE_CURRENT_LIMIT (R74): I_k above IPH_MAX ends the high-side pulse, and the phase is low for the rest of its period. -/
def execPhaseCurrentLimit (p : PhaseAt) (s : State) : Out :=
  let n := s.get Reg.PH_CFG_LOOP p.k
  let s := s.put Hid.PH_VISEN p.k p.visen
  done (s.ifDo (s.up && s.faultLive p.k && s.overLimit p.k)
    (fun s => ((s.put Hid.PH_LIM p.k 1).put Reg.PH_STAT_ILIM p.k 1).put Reg.LP_STAT_ILIM n 1))

/-- PHASE_READMIT (R98): a waiting readmission starts its READMIT_CHECK once rush, braking and soft start have ended. -/
def execPhaseReadmit (k : PhaseN) (s : State) : Out :=
  done (s.ifDo (s.up && s.is Hid.PH_WAIT k) (fun s => s.phaseReadmit k))

/-- RUSH_START (R88): VSEN below V_TGT - RUSH_TH; not in the soft start (R92), nor within a switching period of the last rush (R91). -/
def execRushStart (l : LoopAt) (s : State) : Out :=
  let n := l.n
  let s := s.sense n l.m
  done (s.ifDo (s.up && (s.lp n == lpRun || s.lp n == lpStopping) && s.is Reg.LP_PROT_RUSH_TH n && s.rushLevel n 1 && !s.inEvent n &&
      s.get Hid.LP_RUSH_U n ≤ s.usec)
    (fun s => ((s.put Hid.LP_RUSH n 1).put Reg.LP_STAT_RUSH n 1).put Hid.LP_EVT_T n s.usec))

/-- BRAKE_START (R89): VSEN above V_TGT + BRAKE_TH, in the soft start too (R92); not within a switching period of the last braking (R91). -/
def execBrakeStart (l : LoopAt) (s : State) : Out :=
  let n := l.n
  let s := s.sense n l.m
  done (s.ifDo (s.up && s.switching n && s.is Reg.LP_PROT_BRAKE_TH n && s.brakeLevel n 1 && !s.inEvent n && s.get Hid.LP_BRK_U n ≤ s.usec)
    (fun s => ((s.put Hid.LP_BRAKE n 1).put Reg.LP_STAT_BRAKE n 1).put Hid.LP_EVT_T n s.usec))

/-- SYNC_LOSS (R102): with the frame following SYNC_IN, it holds its frequency, and SYNC_LOSS is raised; also where it was never locked (DESIGN
CHOICE, log 64). -/
def execSyncLoss (s : State) : Out :=
  done (s.ifDo (s.up && s.is Reg.MLC_FRAME_SRC 0 && !s.is Reg.MLC_SYNC_STAT_HOLDING 0)
    (fun s => (((s.put Reg.MLC_SYNC_STAT_LOSS 0 1).put Reg.MLC_SYNC_STAT_HOLDING 0 1).put Reg.MLC_SYNC_STAT_LOCK 0 0).irq 13))

/-- SYNC_LOCK (R102): the frame locks to SYNC_IN at its frequency, which a valid SYNC_IN has between 200 kHz and 2 MHz; a locked frame follows SYNC_IN
to another. -/
def execSyncLock (khz : Nat) (s : State) : Out :=
  done (s.ifDo (s.up && s.is Reg.MLC_FRAME_SRC 0 && 200 ≤ khz && khz ≤ 2000)
    (fun s => ((s.put Reg.MLC_SYNC_STAT_LOCK 0 1).put Reg.MLC_SYNC_STAT_HOLDING 0 0).put Reg.MLC_SYNC_STAT_FRAME_NOW 0 khz))

end Sys2Proof.Machine
end

