-- ==== Sys2Proof/Machine/Path.lean ====
section
/-! DEFINITION. The power path's inputs, converter and BATFET (R237 to R268): the operations that the Keeper, the power states and the
commands share. -/

namespace Sys2Proof.Machine
open Sys2Proof

/- Input states: PP_STAT.x_ST. -/
def inAbsent : Nat := 0
def inDebounce : Nat := 1
def inReady : Nat := 2
def inSearch : Nat := 3
def inFeed : Nat := 4
def inFault : Nat := 5

/- BATFET modes: PP_STAT.BFET (R253). -/
def bfOff : Nat := 0
def bfSoft : Nat := 1
def bfArmed : Nat := 2
def bfOn : Nat := 3
def bfLinear : Nat := 4

/-- The state of an input (0 DCIN, 1 P0, 2 P1). -/
def State.inSt (s : State) (i : Nat) : Nat :=
  match i with
  | 0 => s.get Reg.PP_STAT_DCIN_ST 0
  | 1 => s.get Reg.PP_STAT_P0_ST 0
  | _ => s.get Reg.PP_STAT_P1_ST 0

def State.setInSt (s : State) (i v : Nat) : State :=
  match i with
  | 0 => s.put Reg.PP_STAT_DCIN_ST 0 v
  | 1 => s.put Reg.PP_STAT_P0_ST 0 v
  | _ => s.put Reg.PP_STAT_P1_ST 0 v

/-- The input is allowed by PP_CFG. -/
def State.inEn (s : State) (i : Nat) : Bool :=
  match i with
  | 0 => s.is Reg.PP_CFG_DCIN_EN 0
  | 1 => s.is Reg.PP_CFG_P0_EN 0
  | _ => s.is Reg.PP_CFG_P1_EN 0

/-- The selected input (PP_STAT.SEL), if any. -/
def State.sel (s : State) : Option Nat := let v := s.get Reg.PP_STAT_SEL 0; if v == 0 then none else some (v - 1)

/-- The inputs in the order of PP_CFG.PRIO, highest first (R242). -/
def State.prio (s : State) : List Nat :=
  match s.get Reg.PP_CFG_PRIO 0 with
  | 1 => [0, 2, 1]
  | 2 => [1, 0, 2]
  | 3 => [1, 2, 0]
  | 4 => [2, 0, 1]
  | 5 => [2, 1, 0]
  | _ => [0, 1, 2]

/-- The READY input of highest priority (R242). -/
def State.bestReady (s : State) : Option Nat := s.prio.find? (fun i => s.inSt i == inReady)

/-- A battery is available (R431). -/
def State.batAvail (s : State) : Bool :=
  (s.get Reg.PP_STAT_BAT 0 == 0 || s.get Reg.PP_STAT_BAT 0 == 1) && !s.is Reg.PP_STAT_BATT_ABSENT 0 &&
    (let b := s.get Reg.PP_STAT_BFET 0; b == bfArmed || b == bfOn || b == bfLinear) && !s.is Hid.PT_RUN 0

/-- The battery is PRESENT (R431). -/
def State.batPresent (s : State) : Bool := s.get Reg.PP_STAT_BAT 0 == 1

/- Settings as they act (R256, PP_CFG, CHG_V). -/

/-- PP_CFG.CELLS, 2 to 8. -/
def State.cells (s : State) : Nat := max 2 (min 8 (s.get Reg.PP_CFG_CELLS 0))

/-- PP_CFG.VSYS_MIN in mV, 5.0 V to 34.0 V. -/
def State.vsysMin (s : State) : Nat := 100 * max 50 (min 340 (s.get Reg.PP_CFG_VSYS_MIN 0))

/-- CHG_V.VREG's field as it acts: at most 200, 4.400 V (NMC) or 3.650 V (LFP), and the largest 5 mV step with CELLS × VREG at most 35.000 V. -/
def State.vregF (s : State) : Nat :=
  min (min (s.get Reg.CHG_V_VREG 0) 200) (min (if s.is Reg.PP_CFG_CHEM 0 then 50 else 200) ((35000 / s.cells - 3400) / 5))

/-- Charge voltage per cell in mV. -/
def State.vreg (s : State) : Nat := 3400 + 5 * s.vregF

/-- CHG_V.VPRE's field as it acts: at most VREG - 200 mV. -/
def State.vpreF (s : State) : Nat := min (s.get Reg.CHG_V_VPRE 0) ((s.vreg - 200 - 2000) / 10)

/-- Precharge threshold per cell in mV. -/
def State.vpre (s : State) : Nat := 2000 + 10 * s.vpreF

/-- Recharge drop per cell in mV. -/
def State.vrechg (s : State) : Nat := 25 * max 1 (min 8 (s.get Reg.CHG_V_VRECHG 0))

/-- Undervoltage per cell in mV. -/
def State.vbuv (s : State) : Nat := 2000 + 10 * s.get Reg.CHG_V_VBUV 0

/-- CHG_LIM.ICHG_MAX, 1 to 400. -/
def State.ichgMax (s : State) : Nat := max 1 (min 400 (s.get Reg.CHG_LIM_ICHG_MAX 0))

/-- CHG_I.ICHG as it acts, in 50 mA. -/
def State.ichg (s : State) : Nat := min (s.get Reg.CHG_I_ICHG 0) s.ichgMax

/-- CHG_I.IPRE and ITERM as they act: 0 taken as 1, at most ICHG. -/
def State.ipre (s : State) : Nat := min (max 1 (s.get Reg.CHG_I_IPRE 0)) s.ichg
def State.iterm (s : State) : Nat := min (max 1 (s.get Reg.CHG_I_ITERM 0)) s.ichg

/-- The release of the gate drivers (R152, R267): the converter and the BATFET's LINEAR drive go off; the ideal-diode drive stays, and a BATFET that
carries load, VSYS being below VBAT, takes the ON mode. After a release that is no reset the converter is to restart. -/
def State.pathRelease (s : State) (reset : Bool) : State :=
  let s := s.ifDo (!reset && s.is Hid.CONV_ON 0) (fun s => s.put Hid.CONV_REL 0 1)
  let s := (s.put Hid.CONV_ON 0 0).ifDo (s.get Reg.PP_STAT_BFET 0 == bfLinear) (fun s => s.put Reg.PP_STAT_BFET 0 bfArmed)
  s.ifDo (s.get Reg.PP_STAT_BFET 0 == bfArmed && s.is Reg.PP_STAT_SUPPL 0) (fun s => s.put Reg.PP_STAT_BFET 0 bfOn)

/-- The converter runs: not while the BATFET closes (R253). -/
def State.convOn (s : State) : Bool := s.is Hid.CONV_ON 0 && s.get Reg.PP_STAT_BFET 0 != bfSoft

end Sys2Proof.Machine
end

