-- ==== Sys2Proof/Machine/Keeper.lean ====
section
/-! DEFINITION. The Keeper (R134 to R153): rails and the sequence table, the good test, faults, the checks of rail actions, sequencing states,
the enable stack, shutdowns and releases, and the fences it applies. -/

namespace Sys2Proof.Machine
open Sys2Proof

/- Rail states: SEQ_OUTr.RSTATE. -/
def rsOff : Nat := 0
def rsStart : Nat := 1
def rsGood : Nat := 2
def rsFault : Nat := 3
def rsStop : Nat := 4
def rsInvalid : Nat := 7

/- Sequencing states: KPR_STAT.STATE (R140). -/
def kpOff : Nat := 0
def kpRising : Nat := 1
def kpOn : Nat := 2
def kpFalling : Nat := 3

def State.rail (s : State) (r : Nat) : Nat := s.get Reg.SEQ_OUT_RSTATE r

def State.setRail (s : State) (r v : Nat) : State := s.put Reg.SEQ_OUT_RSTATE r v

def State.kp (s : State) : Nat := s.get Reg.KPR_STAT_STATE 0

/-- OUT_KIND: 1 loop, 2 SQ pin; 3 is taken as 0, unused. -/
def State.outKind (s : State) (r : Nat) : Nat := let k := s.get Reg.SEQ_OUT_OUT_KIND r; if k == 3 then 0 else k

def State.outNum (s : State) (r : Nat) : Nat := s.get Reg.SEQ_OUT_OUT_NUM r

/-- The mode of an SQ pin; codes above 4 are taken as 0. -/
def State.sqMode (s : State) (p : Nat) : Nat := let m := s.get Reg.SQ_CFG_MODE p; if 4 < m then 0 else m

/-- The rail is a used and valid entry of the table. -/
def State.validRail (s : State) (r : Nat) : Bool := s.outKind r != 0 && s.rail r != rsInvalid

/-- The valid rails. -/
def State.rails (s : State) : List Nat := below 72 s.validRail

/-- The rail of an output, if a valid entry names it. -/
def State.railOf (s : State) (kind num : Nat) : Option Nat :=
  s.rails.find? (fun r => s.outKind r == kind && s.outNum r == num)

/-- The rail names a channel as CHAN. -/
def State.hasChan (s : State) (r : Nat) : Bool := s.get Reg.SEQ_JDG_CHAN r < 192

/-- The rail names a power-good input. -/
def State.hasPg (s : State) (r : Nat) : Bool := s.get Reg.SEQ_JDG_PG_SRC r < 72

/-- The level of the rail's PG_SRC: the filtered SQ input, or PGn of a loop. -/
def State.pgLevel (s : State) (r : Nat) : Bool :=
  let p := s.get Reg.SEQ_JDG_PG_SRC r
  if p < 64 then s.is Hid.SQ_PG p else s.is Reg.LP_STAT_PG (p - 64)

/-- The rails that a rail names as prerequisites. -/
def State.deps (s : State) (r : Nat) : List Nat :=
  if r < 72 then [s.get Reg.SEQ_DEP_DEP0 r, s.get Reg.SEQ_DEP_DEP1 r, s.get Reg.SEQ_DEP_DEP2 r].filter (fun d => d != 255) else []

/- The table check (R135). -/

/-- Rails that a set of rails names as prerequisites, itself included, over and over. -/
def State.depClosure (s : State) (fuel : Nat) (l : List Nat) : List Nat :=
  match fuel with
  | 0 => l
  | k + 1 =>
    let more := (l.flatMap s.deps).filter (fun d => !l.contains d)
    match more with
    | [] => l
    | _ => State.depClosure s k (l ++ more.eraseDups)

/-- The DEP links form a cycle through the rail. -/
def State.depCycle (s : State) (r : Nat) : Bool :=
  ((s.deps r).flatMap (fun d => s.depClosure 72 [d])).contains r

/-- An SQ pin is the input-switch pin of a loop. -/
def State.isInsw (s : State) (p : Nat) : Bool :=
  (List.range 8).any (fun n => s.is Reg.LP_CTRL_INSW_EN n && s.get Reg.LP_CTRL_INSW_PIN n == p)

/-- An entry is invalid (R135). -/
def State.badEntry (s : State) (r : Nat) : Bool :=
  let kind := s.outKind r
  let num := s.outNum r
  let other (q : Nat) : Bool := q != r && s.outKind q != 0 &&
    ((s.outKind q == kind && s.outNum q == num) || (s.hasChan r && s.get Reg.SEQ_JDG_CHAN q == s.get Reg.SEQ_JDG_CHAN r))
  let mode := s.sqMode num
  kind != 0 &&
    ((kind == 1 && !s.hasChan r) || (List.range 72).any other ||
     (kind == 2 && (!(mode == 1 || mode == 2) || s.isInsw num)) ||
     (s.get Reg.SEQ_JDG_PG_SRC r < 64 && s.sqMode (s.get Reg.SEQ_JDG_PG_SRC r) != 3) ||
     (s.deps r).any (fun d => d == r || s.outKind d == 0) || s.depCycle r || (kind == 1 && 7 < num))

/-- The whole table checked, when the boot window closes (R135). -/
def State.tableCheck (s : State) : State :=
  let bad := below 72 s.badEntry
  let s := s.forEach (List.range 72) (fun t r =>
    if bad.contains r then { t.setRail r rsInvalid with stack := t.stack.filter (· != r), branch := t.branch.filter (· != r) }
    else t.ifDo (t.rail r == rsInvalid) (fun t => t.setRail r rsOff))
  (s.mark Reg.KPR_STAT_TBL_BAD 0 (!bad.isEmpty)).ifDo (!bad.isEmpty) (fun s => s.raise 78)

/- Sequencing states (R140 to R143). -/

/-- RISING ends in ON when every valid UP_SET rail is GOOD. -/
def State.checkOn (s : State) : State :=
  s.ifDo (s.kp == kpRising && s.rails.all (fun r => !s.is Reg.SEQ_OUT_UP_SET r || s.rail r == rsGood))
    (fun s => (s.put Reg.KPR_STAT_STATE 0 kpOn).irq 50)

/-- Entry to RISING. -/
def State.enterRising (s : State) : State :=
  ((((s.put Reg.KPR_STAT_STATE 0 kpRising).put Reg.KPR_STAT_PEND_ON 0 0).put Reg.KPR_STAT_REQ_MERGED 0 0).irq 49).checkOn

/-- Entry to OFF. -/
def State.enterOff (s : State) : State :=
  s.ifDo (s.kp != kpOff) (fun s => ((s.put Reg.KPR_STAT_STATE 0 kpOff).put Hid.SD_RUN 0 0).irq 51)

/- Channels as the Keeper and the scan in progress see them. -/

/-- The fields of CHn_CFG. -/
def chCfgFlds : List Fld := [Reg.CH_CFG_HYST, Reg.CH_CFG_UV_ARM, Reg.CH_CFG_CNT_M1, Reg.CH_CFG_OSC, Reg.CH_CFG_MODE]
/-- The fields of CHn_OV. -/
def chOvFlds : List Fld := [Reg.CH_OV_OVF, Reg.CH_OV_OVW]
/-- The fields of CHn_UV. -/
def chUvFlds : List Fld := [Reg.CH_UV_UVW, Reg.CH_UV_UVF]

/-- os_n of an OSC code. -/
def osOf (osc : Nat) : Nat := if osc == 0 then 0 else min 8 (2 ^ (osc - 1))

/- What the scan in progress works with (R109): the values with which it began. -/

def State.scanCfg (s : State) (n : Nat) : Nat := if s.bit Hid.CH_PEND n 0 then s.get Hid.CH_LCFG n else s.pack chCfgFlds n
def State.scanOv (s : State) (n : Nat) : Nat := if s.bit Hid.CH_PEND n 1 then s.get Hid.CH_LOV n else s.pack chOvFlds n
def State.scanUv (s : State) (n : Nat) : Nat := if s.bit Hid.CH_PEND n 1 then s.get Hid.CH_LUV n else s.pack chUvFlds n

/- Rails (R136, R137, R145). -/

/-- Arm or disarm the UV side of a rail's channel, where its UV_ARM in force is KEEPER (R109, R137). -/
def State.armUv (s : State) (r : Nat) (on : Bool) : State :=
  let c := s.get Reg.SEQ_JDG_CHAN r
  (s.mark Hid.RL_ARM r on).ifDo (bits (s.scanCfg c) 13 12 == 2) (fun s => s.mark Reg.CH_DATA_ARMED c on)

/-- A rail becomes GOOD. -/
def State.becomeGood (s : State) (r : Nat) : State := (((s.setRail r rsGood).put Hid.RL_CNT r 0).armUv r true).checkOn

/-- The good test of a rail (R136), for a rail that names a channel or a power-good input; none passes through its CHAN while the Scales are blind (R151). -/
def State.goodNow (s : State) (r : Nat) : Bool :=
  (s.hasChan r || s.hasPg r) &&
  (!s.hasChan r || (!s.is Reg.SCN_STAT_BLIND 0 && bits (s.scanCfg (s.get Reg.SEQ_JDG_CHAN r)) 11 8 < s.get Hid.RL_CNT r)) &&
  (!s.hasPg r || s.pgLevel r) && (s.outKind r != 1 || s.lp (s.outNum r) == lpRun)

/-- A rail in START, or in FAULT under REPORT, becomes GOOD if its test passes (R136, R138). -/
def State.tryGood (s : State) (r : Nat) : State :=
  s.ifDo ((s.rail r == rsStart || (s.rail r == rsFault && s.get Reg.SEQ_JDG_FLT_ACT r == 0)) && s.goodNow r) (fun s => s.becomeGood r)

/-- Every valid rail that meets a condition tried for its good test. -/
def State.tryGoods (s : State) (p : Nat → Bool) : State := s.forEach (s.rails.filter p) State.tryGood

/-- Drive a rail's SQ enable pin, where its output is one: 1 asserted, 2 deasserted. -/
def State.drivePin (s : State) (r v : Nat) : State := s.ifDo (s.outKind r == 2) (fun s => s.put Hid.SQ_DRV (s.outNum r) v)

/-- A rail enters STOP: its UV side is disarmed, its loop's stop begins or its pin deasserts (R145). -/
def State.stopRail (s : State) (r : Nat) : State :=
  let s := (((s.setRail r rsStop).put Hid.RL_CNT r 0).armUv r false).drivePin r 2
  s.ifDo (s.outKind r == 1) (fun s => s.loopStop (s.outNum r))

/-- A rail is OFF and leaves the enable stack. -/
def State.railOff (s : State) (r : Nat) : State :=
  { s.setRail r rsOff with stack := s.stack.filter (· != r), branch := s.branch.filter (· != r) }

/-- The stop of a rail is complete, its loop being off (R145). -/
def State.stopDone (s : State) (r : Nat) : Bool := s.outKind r != 1 || !s.lpEn (s.outNum r)

/-- A shutdown's present step is for this rail: its OFF waits for the step's end. -/
def State.inStep (s : State) (r : Nat) : Bool := (s.is Hid.SD_RUN 0 && s.stack.head? == some r) || s.branch.head? == some r

/-- A rail in STOP whose stop is complete becomes OFF, unless a shutdown step runs for it. -/
def State.finishStop (s : State) (r : Nat) : State :=
  s.ifDo (s.rail r == rsStop && s.stopDone r && !s.inStep r) (fun s => s.railOff r)

/-- A start is confirmed: the rail enters START and is pushed on the stack (R145); its loop starts, or its pin is asserted. -/
def State.startRail (s : State) (r : Nat) : State :=
  let s := { (s.setRail r rsStart).put Hid.RL_CNT r 0 with stack := r :: s.stack.filter (· != r) }
  let s := s.drivePin r 1
  let n := s.outNum r
  let s := s.ifDo (s.outKind r == 1) (fun s => if s.lp n == lpStopping then s.put Hid.LP_RESTART n 1 else s.loopStart n)
  s.tryGood r

/- Shutdowns (R145 to R148). -/

/-- The reverse-order shutdown takes the rail on top of the stack, or ends in OFF. -/
def State.sdTop (s : State) : State :=
  match s.stack with
  | [] => s.enterOff
  | r :: _ => s.stopRail r

/-- A reverse-order shutdown of every enabled rail; one in progress is joined (R145, R148). -/
def State.shutdown (s : State) : State :=
  if s.kp == kpOff || s.is Hid.SD_RUN 0 then s
  else ({ s with branch := [] }.put Reg.KPR_STAT_STATE 0 kpFalling |>.put Hid.SD_RUN 0 1).sdTop

/-- Rails that depend on a set of rails, directly or through others, with the set. -/
def State.dependents (s : State) (fuel : Nat) (l : List Nat) : List Nat :=
  match fuel with
  | 0 => l
  | k + 1 =>
    match s.rails.filter (fun q => !l.contains q && (s.deps q).any (fun d => l.contains d)) with
    | [] => l
    | more => State.dependents s k (l ++ more)

/-- The next rail of a BRANCH shutdown begins to stop. -/
def State.branchTop (s : State) : State :=
  match s.branch with
  | [] => s
  | r :: _ => s.stopRail r

/-- A BRANCH shutdown of a rail and its dependents, in reverse order of enabling; a full shutdown in progress absorbs it (R138, R145, R148). -/
def State.branchStop (s : State) (r : Nat) : State :=
  if s.is Hid.SD_RUN 0 then s
  else
    let set := s.dependents 72 [r]
    match s.branch with
    | [] => ({ s with branch := s.stack.filter (fun q => set.contains q) }).branchTop
    | h :: t => { s with branch := h :: s.stack.filter (fun q => q != h && (set.contains q || t.contains q)) }

/-- The end of a shutdown step: the rail is OFF and leaves the stack, and the next step begins (R145). -/
def State.shutdownStep (s : State) : State :=
  if s.is Hid.SD_RUN 0 then
    match s.stack with
    | [] => s.enterOff
    | r :: _ => if s.stopDone r then (s.railOff r).sdTop else s
  else
    match s.branch with
    | [] => s
    | r :: t =>
      if s.rail r != rsStop then ({ s with branch := t }).branchTop
      else if s.stopDone r then (s.railOff r).branchTop else s

/-- Release every output to its pull-down (R152): loops, SQ enable pins, converter; the stack is emptied and the state becomes OFF (R140). -/
def State.release (s : State) (reset : Bool) : State :=
  let s := s.forEach (below 72 s.railOn) (fun s r => ((s.armUv r false).setRail r rsOff).put Hid.RL_CNT r 0)
  let s := s.forEach (below 8 s.lpEn) State.loopOff
  let s := s.forEach (below 64 (fun p => s.sqMode p == 1 || s.sqMode p == 2)) (fun s p => s.put Hid.SQ_DRV p 0)
  (({ s with stack := [], branch := [] }.put Hid.SD_RUN 0 0).enterOff).pathRelease reset

/- Faults (R138). -/

/-- FLT_ACT and CRIER_ACT (R138): 1 BRANCH, 2 ALL, 3 RELEASE. -/
def State.faultAct (s : State) (r act : Nat) : State :=
  match act with
  | 1 => s.branchStop r
  | 2 => (s.setLatch 2 r 255).shutdown
  | 3 => (s.setLatch 2 r 255).release false
  | _ => s

/-- The zone of a rail's channel, NONE where it names none. -/
def State.railZone (s : State) (r : Nat) : Nat := if s.hasChan r then s.get Reg.CH_DATA_ZONE (s.get Reg.SEQ_JDG_CHAN r) else 7

/-- A rail fault (R138). -/
def State.railFault (s : State) (r : Nat) : State :=
  let act := s.get Reg.SEQ_JDG_FLT_ACT r
  let pg := s.hasPg r && s.pgLevel r
  let s := s.record tyRailFault r 255 (leBytes 1 (s.railZone r) ++ leBytes 1 act ++ leBytes 1 (if pg then 1 else 0))
  let s := s.raise 75
  let s := s.ifDo (s.rail r == rsStart || s.rail r == rsGood) (fun s => (s.setRail r rsFault).put Hid.RL_CNT r 0)
  s.faultAct r act

/-- The part's answer to a channel that enters a fault zone (R138). -/
def State.zoneFault (s : State) (n zone : Nat) : State :=
  s.forEach (s.rails.filter (fun r => s.get Reg.SEQ_JDG_CHAN r == n)) (fun s r =>
    s.ifDo ((zone == 2 && s.railOn r) || (zone == 4 && s.rail r == rsGood)) (fun s => s.railFault r))

/-- A power-good input that changed: GOOD rails that name it fault when it deasserts, rails in START are tried when it asserts (R136, R138). -/
def State.pgChange (s : State) (src : Nat) (level : Bool) : State :=
  s.forEach (s.rails.filter (fun r => s.get Reg.SEQ_JDG_PG_SRC r == src)) (fun s r =>
    if level then s.tryGood r else s.ifDo (s.rail r == rsGood) (fun s => s.railFault r))

/-- PGn and LPn_STAT.PG assert (R93, R94). -/
def State.pgHigh (s : State) (n : Nat) : State :=
  s.ifDo (!s.is Reg.LP_STAT_PG n) (fun s => (s.put Reg.LP_STAT_PG n 1).pgChange (64 + n) true)

/-- The Keeper takes each PGn that has deasserted (R138). -/
def State.takePg (s : State) : State :=
  s.forEach (below 8 (fun n => s.is Hid.LP_PGD n)) (fun s n => (s.put Hid.LP_PGD n 0).pgChange (64 + n) false)

/-- A crier's trip reaches the Keeper (R138): CRIER_ACT of each rail linked to it. -/
def State.crierAct (s : State) (c : Nat) (hi : Bool) : State :=
  s.forEach (s.rails.filter (fun r => s.get Reg.SEQ_JDG_CRIER r == c)) (fun s r =>
    s.ifDo (if hi then s.railOn r else s.rail r == rsGood) (fun s =>
      let act := s.get Reg.SEQ_JDG_CRIER_ACT r
      (s.record tyCrierTrip r 255 (leBytes 1 c ++ leBytes 1 (if hi then 1 else 2) ++ leBytes 1 act)).faultAct r act))

/-- N_ACT of a loop reached 0 (R99, R138): the loop stops as under TRISTATE, and its rail faults. -/
def State.loopDead (s : State) (n : Nat) : State :=
  let s := (s.ifDo (s.lpEn n) (fun s => s.loopOff n)).pgLow n
  match s.railOf 1 n with
  | none => s
  | some r =>
    (s.ifDo (s.rail r == rsStart || s.rail r == rsGood || s.rail r == rsFault) (fun s => s.railFault r)).finishStop r

/- Fences (R96, R119, R131, R198). A unit is numbered by its Ledger source: 0 to 23 phases, 52 to 55 converters, 56 to 71 criers. -/

def isUnit (u : Nat) : Bool := u < 24 || (52 ≤ u && u < 72)

/-- Origin of a unit's fence: 0 not fenced, 1 Ledger or Keeper, 2 program. -/
def State.fencedBy (s : State) (u : Nat) : Nat :=
  if u < 24 then (if s.is Reg.PH_STAT_FENCED u then s.get Hid.PH_FBY u else 0)
  else if u < 56 then (if s.bit Reg.SCN_STAT_FENCED 0 (u - 52) then s.get Hid.CV_FBY (u - 52) else 0)
  else if s.is Reg.CR_STAT_FENCED (u - 56) then s.get Hid.CR_FBY (u - 56) else 0

/-- N_ACT of a loop fell below MIN_PH from the value it had (R99). -/
def State.capLow (s : State) (n old : Nat) : State :=
  s.ifDo (s.get Reg.LP_CTRL_MIN_PH n ≤ old && s.nAct n < s.get Reg.LP_CTRL_MIN_PH n) (fun s => s.raise (32 + n))

/-- A phase is fenced: its PWM goes to high impedance and N_ACT falls (R96, R72, R99). -/
def State.fencePhase (s : State) (k origin : Nat) : State :=
  let n := s.get Reg.PH_CFG_LOOP k
  let old := s.nAct n
  let was := s.is Reg.PH_STAT_FENCED k
  let s := ((((s.put Reg.PH_STAT_FENCED k 1).put Hid.PH_FBY k origin).put Hid.PH_WAIT k 0).put Hid.PH_CHECK k 0).setBal k 0
  if was || !s.is Reg.PH_CFG_ASSIGN k then s
  else
    let s := (s.irq (5 + n)).capLow n old
    s.ifDo (s.nAct n == 0) (fun s => s.loopDead n)

/-- The fence of a converter takes effect (R119, R198). -/
def State.fenceConv (s : State) (x origin : Nat) : State :=
  (((s.setBit Reg.SCN_STAT_FENCED 0 x true).put Reg.SCN_MAP_LIVE x 0).put Hid.CV_FBY x origin).put Hid.CV_PEND x 0

/-- A crier is fenced (R131). -/
def State.fenceCrier (s : State) (c origin : Nat) : State :=
  ((s.put Reg.CR_STAT_FENCED c 1).put Hid.CR_FBY c origin).put Hid.CR_WAIT c 0

/-- The FENCE reaction of the Ledger for a unit (R321); a unit that a program fenced stays so (R200). A converter is fenced by the Keeper under
R119, whatever the reaction. -/
def State.fenceUnit (s : State) (u : Nat) : State :=
  if s.fencedBy u == 2 then s
  else if u < 24 then s.fencePhase u 1
  else if u < 56 then s
  else s.ifDo (isUnit u) (fun s => s.fenceCrier (u - 56) 1)

/-- A unit's readmission begins (R98, R122, R131). -/
def State.admitUnit (s : State) (u : Nat) : State :=
  let s := (s.put Reg.LS_STAT_QUIET u 0).put Reg.LS_STAT_WAIT_HOST u 0
  if u < 24 then s.phaseReadmit u else if u < 56 then s.put Hid.CV_PEND (u - 52) 2 else s.put Hid.CR_WAIT (u - 56) 1

/-- The end of a shutdown's time (R146, R57): the remaining outputs are released. -/
def State.shutdownTimeout (s : State) : State := (s.release false).raise 77

/- Requests (R141, R143). -/

/-- An ON request; refused while SEQ_LATCH is set (R150) or EXTEST is in force (R399). -/
def State.requestOn (s : State) : State :=
  if s.is Reg.KPR_LATCH_SEQ_LATCH 0 || s.is Hid.EXT 0 then s.put Reg.KPR_STAT_REQ_REFUSED 0 1
  else if s.is Reg.KPR_STAT_PEND_ON 0 then s.sat Reg.KPR_STAT_REQ_MERGED 0 15
  else if s.kp == kpOff then s.enterRising
  else s.ifDo (s.kp == kpFalling) (fun s => s.put Reg.KPR_STAT_PEND_ON 0 1)

/-- An OFF request. -/
def State.requestOff (s : State) : State :=
  if s.is Reg.KPR_STAT_PEND_ON 0 then s.sat Reg.KPR_STAT_REQ_MERGED 0 15
  else s.ifDo (s.kp == kpRising || s.kp == kpOn) State.shutdown

/- Rail actions (R139). -/

/-- The first of a list of cases that holds: its REF_WHY, 0 for none. -/
def firstWhy (l : List (Bool × Nat)) : Nat :=
  match l with
  | [] => 0
  | c :: t => if c.1 then c.2 else firstWhy t

/-- A valid rail of lower non-zero rank is not GOOD. -/
def State.rankLow (s : State) (r : Nat) : Bool :=
  let k := s.get Reg.SEQ_OUT_RANK r
  k != 0 && s.rails.any (fun q => s.get Reg.SEQ_OUT_RANK q != 0 && s.get Reg.SEQ_OUT_RANK q < k && s.rail q != rsGood)

/-- A valid rail of higher non-zero rank is enabled. -/
def State.rankHigh (s : State) (r : Nat) : Bool :=
  let k := s.get Reg.SEQ_OUT_RANK r
  k != 0 && s.rails.any (fun q => k < s.get Reg.SEQ_OUT_RANK q && s.railOn q)

/-- REF_WHY cases 2 and 3 for a rail. -/
def State.whyOwner (s : State) (st r : Nat) : List (Bool × Nat) :=
  [(s.get Reg.SEQ_OUT_OWNER r != st, 2), (s.bit Reg.KPR_STAT_FROZEN 0 (s.get Reg.SEQ_OUT_OWNER r), 3)]

/-- REF_WHY cases 4 to 8 for the start of a rail. -/
def State.whyStart (s : State) (r : Nat) : List (Bool × Nat) :=
  [(s.is Reg.KPR_LATCH_SEQ_LATCH 0, 4), (s.kp == kpOff || s.kp == kpFalling, 5),
   ((s.deps r).any (fun d => s.rail d != rsGood) || s.rankLow r, 6),
   (s.is Reg.SCN_STAT_BLIND 0 || (s.hasChan r && s.is Reg.CH_DATA_STALE (s.get Reg.SEQ_JDG_CHAN r)), 7),
   (s.outKind r == 1 && s.standby, 8)]

/-- RAMP's parameter word (R78): the target in mV. -/
def rampTarget (p : Nat) : Nat := p % 4096

/-- RAMP's parameter word (R78): the rate code. Bits 31:22, reserved as 0, are not looked at (DESIGN CHOICE, log 64). -/
def rampRate (p : Nat) : Nat := p / 4096 % 1024

/-- The target or the RATE code is refused under R78. -/
def rampBad (p : Nat) : Bool := rampTarget p < 250 || 3300 < rampTarget p || 1000 < rampRate p

/-- REF_WHY of a RAMP of loop n by identity st, 0 if it is confirmed (R139). -/
def State.whyRamp (s : State) (st n p : Nat) : Nat :=
  match s.railOf 1 n with
  | none => 1
  | some r =>
    let start := s.rail r == rsOff
    firstWhy (s.whyOwner st r ++ (if start then s.whyStart r else []) ++ [(rampBad p || (start && s.startBad n), 9)])

/-- REF_WHY of an ENAB of an output (kind 1 loop, 2 SQ) by identity st, 0 if it is confirmed. -/
def State.whyEnab (s : State) (st kind num : Nat) : Nat :=
  match s.railOf kind num with
  | none => 1
  | some r =>
    let start := s.rail r == rsOff || s.rail r == rsStop
    firstWhy (s.whyOwner st r ++ (if start then s.whyStart r else []) ++
      [(start && kind == 1 && (s.startBad num || s.get Reg.LP_REF_TARGET num < 250), 9)])

/-- REF_WHY of a DISB of an output by identity st, 0 if it is confirmed. -/
def State.whyDisb (s : State) (st kind num : Nat) : Nat :=
  match s.railOf kind num with
  | none => 1
  | some r =>
    let stop := s.rail r == rsStart || s.rail r == rsGood || s.rail r == rsFault
    firstWhy (s.whyOwner st r ++ [(stop && (s.rails.any (fun q => (s.deps q).contains r && s.railOn q) || s.rankHigh r), 10)])

/-- The target rail of a unit (R199): the rail of a phase's loop, or the rail that names a crier. -/
def State.unitRail (s : State) (u : Nat) : Option Nat :=
  if u < 24 then (if s.is Reg.PH_CFG_ASSIGN u then s.railOf 1 (s.get Reg.PH_CFG_LOOP u) else none)
  else if u < 56 then none
  else s.rails.find? (fun r => s.get Reg.SEQ_JDG_CRIER r == u - 56)

/-- The cases of R199 that FENCE and ADMIT share. -/
def State.whyUnit (s : State) (st u : Nat) : List (Bool × Nat) :=
  match s.unitRail u with
  | none => [(u < 24, 1)]
  | some r => s.whyOwner st r

/-- A converter other than x is to be live at the next scan. -/
def State.otherLive (s : State) (x : Nat) : Bool :=
  (List.range 4).any (fun y => y != x && s.get Hid.CV_PEND y != 1 && (!s.bit Reg.SCN_STAT_FENCED 0 y || s.get Hid.CV_PEND y == 2))

/-- REF_WHY of a FENCE of a unit, 0 if it is confirmed. -/
def State.whyFence (s : State) (st u : Nat) : Nat :=
  let conv := 52 ≤ u && u < 56
  let live := conv && !s.bit Reg.SCN_STAT_FENCED 0 (u - 52) && s.get Hid.CV_PEND (u - 52) != 1
  firstWhy (s.whyUnit st u ++ [(live && !s.otherLive (u - 52), 11)])

/-- REF_WHY of an ADMIT of a unit, 0 if it is confirmed. -/
def State.whyAdmit (s : State) (st u : Nat) : Nat :=
  firstWhy (s.whyUnit st u ++ [(s.fencedBy u == 1 && s.get Reg.LS_TIME_RCV_MAX u ≤ s.get Reg.LS_STAT_RCV u, 12)])

/-- A RAMP is confirmed (R78, R79); a loop that is stopping stays disabled. -/
def State.doRamp (s : State) (n p : Nat) : State :=
  let s := s.put Reg.LP_REF_TARGET n (rampTarget p)
  let s := s.ifDo (rampRate p != 0) (fun s => s.put Reg.LP_SS_RATE n (rampRate p))
  match s.railOf 1 n with
  | none => s
  | some r =>
    if s.rail r == rsOff then s.startRail r
    else (s.put Hid.LP_RESTART n 0).ifDo ((s.rail r == rsFault || s.rail r == rsStart) && s.lp n == lpOff && !s.startBad n)
      (fun s => s.loopStart n)

/-- An ENAB is confirmed (R79, R198). -/
def State.doEnab (s : State) (kind num : Nat) : State :=
  match s.railOf kind num with
  | none => s
  | some r =>
    if s.rail r == rsOff || s.rail r == rsStop then s.startRail r
    else s.ifDo (kind == 1 && (s.rail r == rsFault || s.rail r == rsStart) && s.lp num == lpOff && !s.startBad num) (fun s => s.loopStart num)

/-- A DISB is confirmed (R79, R198). -/
def State.doDisb (s : State) (kind num : Nat) : State :=
  match s.railOf kind num with
  | none => s
  | some r => s.ifDo (s.rail r == rsStart || s.rail r == rsGood || s.rail r == rsFault) (fun s => (s.stopRail r).finishStop r)

/-- A FENCE is confirmed (R198): a converter is fenced from the start of the next scan; a fenced unit keeps its fence. -/
def State.doFence (s : State) (u : Nat) : State :=
  if u < 24 then s.ifDo (!s.is Reg.PH_STAT_FENCED u) (fun s => s.fencePhase u 2)
  else if u < 56 then s.ifDo (!s.bit Reg.SCN_STAT_FENCED 0 (u - 52)) (fun s => s.put Hid.CV_PEND (u - 52) 1)
  else s.ifDo (!s.is Reg.CR_STAT_FENCED (u - 56)) (fun s => s.fenceCrier (u - 56) 2)

/-- An ADMIT is confirmed (R198, R328): of a unit fenced by the Ledger or the Keeper it raises RCV. -/
def State.doAdmit (s : State) (u : Nat) : State :=
  if s.fencedBy u == 0 then s
  else (s.ifDo (s.fencedBy u == 1) (fun s => s.sat Reg.LS_STAT_RCV u 255)).admitUnit u

/- The loop's ends that the Keeper sees. -/

/-- A loop's stop is complete (R83): the loop is off; a loop that is to start again does (R79), and its rail's stop may be complete. -/
def State.loopStopped (s : State) (n : Nat) : State :=
  let again := s.is Hid.LP_RESTART n
  let s := s.loopOff n
  if again then s.loopStart n
  else match s.railOf 1 n with
    | none => s
    | some r => s.finishStop r

end Sys2Proof.Machine
end

