-- ==== Sys2Proof/Machine/Ledger.lean ====
section
/-! DEFINITION. The Ledger (R319 to R331): classes and reactions, the registration of an event, and readmission. -/

namespace Sys2Proof.Machine
open Sys2Proof

/-- The floor of a source's class (R319). -/
def classFloor (n : Nat) : Nat := if 24 ≤ n && n < 32 then 3 else if n == 85 then 4 else 0

/-- The floor of a source's reaction (R319). -/
def reactFloor (n : Nat) : Nat := if 52 ≤ n && n < 56 then 1 else 0

/-- A class field as it acts: codes 5 to 7 taken as 4, and the floor (R320). -/
def classOf (n v : Nat) : Nat := max (classFloor n) (min 4 v)

/-- A reaction field as it acts: codes 5 to 7 taken as 0, the floor, and FENCE as RECORD for a source that names no unit (R321). -/
def reactOf (n v : Nat) : Nat :=
  let r := max (reactFloor n) (if 4 < v then 0 else v)
  if r == 1 && !isUnit n then 0 else r

/-- A window or quiet period under TPERT: divided by 2^LDG_SHIFT, 1 ms at least (R400). -/
def State.shortened (s : State) (us : Nat) : Nat :=
  if s.is Reg.TP_CTRL_LDG_EN 0 then max 1000 (us / 2 ^ s.get Reg.TP_MAG1_LDG_SHIFT 0) else us

/-- The window WIN of a source in µs: 1 h at most (R319). -/
def State.winUs (s : State) (n : Nat) : Nat :=
  s.shortened (min 3600000000 (s.get Reg.LS_TIME_WIN_V n * (match s.get Reg.LS_TIME_WIN_U n with
    | 0 => 1000
    | 1 => 100000
    | _ => 10000000)))

/-- The quiet period Q of a unit source in µs: 0 taken as 1 unit, 10 s at most (R326). -/
def State.quietUs (s : State) (n : Nat) : Nat :=
  s.shortened (min 10000000 (max 1 (s.get Reg.LS_TIME_Q_V n) * (if s.is Reg.LS_TIME_Q_U n then 100000 else 1000)))

/-- A counting window is open and its time has not run out: an expiry is taken before an event (R323, R331). -/
def State.winOpen (s : State) (n : Nat) : Bool := s.is Hid.LS_WIN n && s.usec < s.get Hid.LS_WIN_T n + s.winUs n

/-- One event counted (R323): whether it escalates, and the state after. -/
def State.countEvent (s : State) (n : Nat) : Bool × State :=
  if s.get Reg.LS_TIME_WIN_V n == 0 then (false, (s.put Reg.LS_STAT_COUNT n 0).put Hid.LS_WIN n 0)
  else
    let c := if s.winOpen n then min 255 (s.get Reg.LS_STAT_COUNT n + 1) else 1
    let s := s.ifDo (!s.winOpen n) (fun s => s.put Hid.LS_WIN_T n s.usec)
    if max 1 (s.get Reg.LS_CFG_THR n) ≤ c then (true, ((s.put Reg.LS_STAT_COUNT n 0).put Hid.LS_WIN n 0).put Reg.LS_STAT_ESC n 1)
    else (false, (s.put Reg.LS_STAT_COUNT n c).put Hid.LS_WIN n 1)

/-- Steps 1 to 3 and 6 of R322 and the grave flag (R329): the class and reaction that apply, and the state after. -/
def State.classify (s : State) (n : Nat) : (Nat × Nat) × State :=
  let fresh := !s.arr Reg.LG_STICKY_STICKY n
  let s := s.setArr Reg.LG_STICKY_STICKY n true
  let s := s.ifDo fresh (fun s => s.put Reg.LS_STAT_CUR_CLASS n (classOf n (s.get Reg.LS_CFG_CLASS n)))
  let e := s.countEvent n
  let s := e.2
  let cls := classOf n (s.get (if e.1 then Reg.LS_CFG_ESC_CLASS else Reg.LS_CFG_CLASS) n)
  let react := reactOf n (s.get (if e.1 then Reg.LS_CFG_ESC_REACT else Reg.LS_CFG_REACT) n)
  let s := s.put Reg.LS_STAT_CUR_CLASS n (max cls (s.get Reg.LS_STAT_CUR_CLASS n))
  let s := s.ifDo (cls == 4 && !s.grave) (fun s => (s.put Reg.LG_STAT_GRAVE 0 1).put Reg.LG_STAT_GRAVE_SRC 0 n)
  ((cls, react), (s.put Reg.LG_STAT_LAST_SRC 0 n).put Reg.LG_STAT_LAST_CLASS 0 cls)

/-- Step 5 of R322: the Daybook record of an event. -/
def State.ledgerRecord (s : State) (n cls react : Nat) : State :=
  if cls == 4 then s.record tyGrave 255 n (leBytes 1 cls)
  else if s.get Reg.DBK_CFG_SNAP_CLASS 0 ≤ cls then
    (s.stageOther (some n) (s.build tyLedger 0 s.dbkMask 255 n (leBytes 1 cls ++ leBytes 1 react) [])).2
  else s

/-- One event registered (R322); the quiet period of a unit that the Ledger or the Keeper fenced restarts (R326). -/
def State.register (s : State) (n : Nat) : Nat × State :=
  let e := s.classify n
  let s := e.2.ledgerRecord n e.1.1 e.1.2
  (e.1.2, s.ifDo (isUnit n && (s.fencedBy n == 1 || (s.fencedBy n == 0 && e.1.2 == 1)))
    (fun s => (s.put Reg.LS_STAT_QUIET n 1).put Hid.LS_QT n s.usec))

/-- The Keeper's answer to a reaction of OFF, ALL or RELEASE (R321). -/
def State.react (s : State) (n react : Nat) : State :=
  match react with
  | 2 => s.requestOff
  | 3 => (s.setLatch 2 255 n).shutdown
  | 4 => (s.setLatch 2 255 n).release false
  | _ => s

/-- The strongest of OFF, ALL and RELEASE among events of one cycle, with its source (R331). -/
def strongest (l : List (Nat × Nat)) : Option (Nat × Nat) :=
  l.foldl (fun a x => if x.2 < 2 then a else match a with
    | none => some x
    | some y => if y.2 < x.2 then some x else a) none

/-- Events of one cycle registered one by one; what each is to have the Keeper do. -/
def State.registerAll (s : State) (l : List Nat) : List (Nat × Nat) × State :=
  match l with
  | [] => ([], s)
  | n :: t =>
    let e := s.register n
    let r := State.registerAll e.2 t
    ((n, e.1) :: r.1, r.2)

/-- The events raised so far, registered on one cycle (R322, R331): every FENCE is applied, and the strongest of the other reactions. -/
def State.ledgerCycle (s : State) : State :=
  let r := State.registerAll { s with evq := [] } s.evq
  let s := r.2.forEach ((r.1.filter (fun x => x.2 == 1)).map Prod.fst) State.fenceUnit
  match strongest r.1 with
  | none => s
  | some x => s.react x.1 x.2

/-- Register what has been raised, and what that raises in turn, while FCLK is usable (R322); a source raised while FCLK is stopped waits for it. -/
def State.settleN (s : State) (fuel : Nat) : State :=
  match fuel with
  | 0 => s
  | k + 1 =>
    let s := s.takePg
    if s.evq.isEmpty || !s.fclk || !s.up then s else State.settleN s.ledgerCycle k

/-- As many cycles as any chain of events can take: each cycle sets a sticky bit, a fence or a state that ends the chain. -/
def State.settle (s : State) : State := s.settleN 64

/-- A unit is readmitted at the end of its quiet period (R326), or left to the host. -/
def State.quietEnd (s : State) (n : Nat) : State :=
  if s.get Reg.LS_STAT_RCV n < s.get Reg.LS_TIME_RCV_MAX n then (s.sat Reg.LS_STAT_RCV n 255).admitUnit n
  else (s.put Reg.LS_STAT_QUIET n 0).put Reg.LS_STAT_WAIT_HOST n 1

/-- A sticky bit cleared with its CUR_CLASS and ESC, unless it is at GRAVE while the grave flag is set (R324). -/
def State.clearSticky (s : State) (n : Nat) : State :=
  if s.grave && s.get Reg.LS_STAT_CUR_CLASS n == 4 then s
  else ((s.setArr Reg.LG_STICKY_STICKY n false).put Reg.LS_STAT_CUR_CLASS n 0).put Reg.LS_STAT_ESC n 0

/-- A pin mask as it acts: 5 and 6 taken as 7, which disables (R330). -/
def pinMask (v : Nat) : Nat := if 4 < v then 7 else v

/-- Some sticky bit has CUR_CLASS at or above a mask. -/
def State.pinLow (s : State) (mask : Nat) : Bool :=
  s.up && (List.range 5).any (fun k => pinMask mask ≤ k && s.stickyClass k)

/-- The part drives FLT_N low (R330). -/
def State.fltLow (s : State) : Bool := s.pinLow (s.get Reg.LG_CFG_FLT_MASK 0)

/-- The part drives FLTBUS_N low (R330). -/
def State.busDrv (s : State) : Bool := s.pinLow (s.get Reg.LG_CFG_BUS_MASK 0)

end Sys2Proof.Machine
end

