-- ==== Sys2Proof/Machine/Gauge.lean ====
section
/-! DEFINITION. The battery gauge (R297 to R318): the cell model, the filter, references, user charge and levels, learning, the journal and
the start estimate. Voltages in mV, currents in mA, charges in mAh, resistances in mΩ, all exact rationals. -/

namespace Sys2Proof.Machine
open Sys2Proof

/-- The built-in tables (R300), in mV at x = 0, 0.05 to 1. -/
def ocvNmc : List Nat :=
  [3000, 3380, 3450, 3496, 3550, 3590, 3620, 3645, 3665, 3685, 3705, 3730, 3760, 3795, 3835, 3880, 3930, 3985, 4040, 4100, 4170]
def ocvLfp : List Nat :=
  [2500, 3000, 3150, 3200, 3220, 3240, 3255, 3265, 3275, 3282, 3288, 3293, 3297, 3300, 3305, 3315, 3328, 3332, 3335, 3340, 3420]

/-- The points of GG_OCVk. -/
def State.ocvCustom (s : State) : List Nat :=
  (List.range 21).map (fun i => s.get (if i % 2 == 0 then Reg.GG_OCV_P_LO else Reg.GG_OCV_P_HI) (i / 2))

/-- No point of a table is below the one before it. -/
def nonDecreasing (l : List Nat) : Bool := (List.range 20).all (fun i => l.getD i 0 ≤ l.getD (i + 1) 0)

/-- GG_OCVk is asked for and rejected (R300). -/
def State.ocvBad (s : State) : Bool := s.is Reg.GG_CFG_OCV_SRC 0 && !nonDecreasing s.ocvCustom

/-- The table in use (R300). -/
def State.ocvTable (s : State) : List Nat :=
  if s.is Reg.GG_CFG_OCV_SRC 0 && !s.ocvBad then s.ocvCustom else if s.is Reg.PP_CFG_CHEM 0 then ocvLfp else ocvNmc

/-- The segment that holds x, 0 to 19; the first and the last are extended. -/
def segOf (x : Rat) : Nat := min 19 (x * 20).floor.toNat

/-- A point of a table. -/
def pt (l : List Nat) (k : Nat) : Rat := (l.getD k 0 : Nat)

/-- OCV(x) in mV. -/
def ocvAt (l : List Nat) (x : Rat) : Rat := pt l (segOf x) + (x * 20 - (segOf x : Nat)) * (pt l (segOf x + 1) - pt l (segOf x))

/-- H(x): the slope of the segment that holds x, in mV per unit x. -/
def slopeAt (l : List Nat) (x : Rat) : Rat := 20 * (pt l (segOf x + 1) - pt l (segOf x))

/-- The x at which segment k has the value z, where it rises. -/
def segX (l : List Nat) (k : Nat) (z : Rat) : Rat := ((k : Nat) + (z - pt l k) / (pt l (k + 1) - pt l k)) / 20

/-- The lowest and the highest x at which a table has the value z: they differ only where a flat part of the table has it. -/
def ocvInv (l : List Nat) (z : Rat) : Rat × Rat :=
  if z < pt l 0 then (if pt l 0 < pt l 1 then let x := segX l 0 z; (x, x) else (0, 0))
  else if pt l 20 < z then (if pt l 19 < pt l 20 then let x := segX l 19 z; (x, x) else (21 / 20, 21 / 20))
  else
    let lo := match (List.range 21).find? (fun k => z ≤ pt l k) with
      | none => 1
      | some 0 => 0
      | some (k + 1) => if z == pt l (k + 1) then ((k + 1 : Nat) : Rat) / 20 else segX l k z
    let hi := match (List.range 21).reverse.find? (fun k => pt l k ≤ z) with
      | none => 0
      | some k => if z == pt l k then ((k : Nat) : Rat) / 20 else segX l k z
    (lo, hi)

/-- The x at which OCV(x) = z. Where a flat part of the table has the value z, R305, R310 and R315 give no single x: a free value between its ends
(DESIGN CHOICE, log 3). -/
def State.ocvX (s : State) (z : Rat) : Rat × State :=
  let r := ocvInv s.ocvTable z
  if r.1 == r.2 then (r.1, s)
  else
    let d := s.drawFree 16
    (r.1 + (r.2 - r.1) * ((d.1 : Nat) / 65535), d.2)

/-- x kept within two bounds. -/
def clampQ (lo hi x : Rat) : Rat := max lo (min hi x)

/-- The integer square root. -/
def isqrt (n : Nat) : Nat :=
  (List.range 64).foldl (fun r i => if (r + 2 ^ (63 - i)) * (r + 2 ^ (63 - i)) ≤ n then r + 2 ^ (63 - i) else r) 0

/-- A non-negative rational rounded down. -/
def floorN (r : Rat) : Nat := r.floor.toNat

/-- The uncertainty U = 3 × √P × Q_FC in whole mAh, rounded to the nearest (R301). -/
def Gauge.unc (g : Gauge) : Nat := (isqrt (floorN (36 * g.p * g.qfc * g.qfc)) + 1) / 2

/- Settings as they act. -/

/-- GG_CFG.RSH in 10 µΩ, 50 to 500. -/
def State.rsh (s : State) : Nat := max 50 (min 500 (s.get Reg.GG_CFG_RSH 0))

/-- The current in mA that a shunt voltage in nV stands for (R298): the voltage divided by GG_CFG.RSH. -/
def State.shuntAmps (s : State) (nv : Int) : Rat := (nv : Rat) / (10 * s.rsh : Nat)

/-- GG_DESIGN.DESIGN in mAh. -/
def State.design (s : State) : Nat := max 1 (s.get Reg.GG_DESIGN_DESIGN 0)

/-- GG_REF.I_REST in mA. -/
def State.iRest (s : State) : Nat := 10 * max 1 (s.get Reg.GG_REF_I_REST 0)

/-- GG_REF.DI_STEP in mA (R303). -/
def State.diStep (s : State) : Nat :=
  let d := 50 * s.get Reg.GG_REF_DI_STEP 0
  if d ≤ 2 * s.iRest then 2 * s.iRest + 50 else d

/-- GG_REF.STEP_SIG in mV. -/
def State.stepSig (s : State) : Nat := max 1 (s.get Reg.GG_REF_STEP_SIG 0)

/-- GG_REF.LEARN_DX as a fraction, 20 % to 80 %. -/
def State.learnDx (s : State) : Rat := (max 20 (min 80 (s.get Reg.GG_REF_LEARN_DX 0)) : Nat) / 100

/- The filter (R301). -/

/-- REF_STALE takes a value; setting it raises GG_STALE (R304). -/
def State.setStale (s : State) (b : Bool) : State := (s.ifDo (b && !s.is Reg.GG_STAT_REF_STALE 0) (fun s => s.irq 62)).mark Reg.GG_STAT_REF_STALE 0 b

/-- The prediction of one update. -/
def State.gaugePredict (s : State) (dq : Rat) : State :=
  let g := s.gauge
  let iofs : Rat := 500 / (s.rsh : Nat) / 3600
  let qi := (1 / 200 * |dq| + iofs) / g.qfc
  let qm : Rat := 4 / 1000000 / 3600 * (if s.is Reg.GG_STAT_REF_STALE 0 then 4 else 1)
  { s with gauge := { g with x := clampQ 0 (21 / 20) (g.x + dq / g.qfc), p := g.p + qi * qi + qm, q := g.q + dq } }

/-- The correction by a reference z (mV) of deviation sv (mV). -/
def State.gaugeCorrect (s : State) (z sv : Rat) : State :=
  let g := s.gauge
  let h := slopeAt s.ocvTable g.x
  let k := g.p * h / (h * h * g.p + sv * sv)
  { s with gauge := { g with x := clampQ 0 (21 / 20) (g.x + k * (z - ocvAt s.ocvTable g.x)), p := (1 - k * h) * g.p } }

/- The journal (R312 to R314). -/

/-- The NVM byte addresses of slots A and B. -/
def jrnlAddr (slot : Nat) : Nat := 0x18F000 + 64 * slot

/-- The SEQ of the valid record a journal slot holds, 0 for none. -/
def State.jrnlSeq (s : State) (slot : Nat) : Nat :=
  let b := bytesAt s.nvm (jrnlAddr slot) 64
  if leNat (b.drop 60) == crc32 (b.take 60) then leNat (b.take 4) else 0

/-- The slot a record is written to: the one that does not hold the newest valid record. -/
def State.jrnlSlot (s : State) : Nat := if s.jrnlSeq 1 < s.jrnlSeq 0 then 1 else 0

/-- Hours since the last reference (R314). -/
def State.gaugeHrs (s : State) : Nat :=
  s.gauge.hrs0 + (s.tick + 2 ^ 48 - s.gauge.refTick) % 2 ^ 48 / (32768 * 3600)

/-- The 64 bytes of a record: kind 1 LEARN, 2 STATE (R314). -/
def State.jrnlBytes (s : State) (kind : Nat) : List (BitVec 8) :=
  let g := s.gauge
  let b := leBytes 4 (max (s.jrnlSeq 0) (s.jrnlSeq 1) + 1) ++ leBytes 1 kind ++ [1, 0, 0] ++ leBytes 6 s.tick ++ leBytes 1 s.cells ++
    leBytes 1 (s.get Reg.PP_CFG_CHEM 0) ++ leBytes 4 (floorN g.qfc) ++ leBytes 2 (floorN (10 * g.r0)) ++
    leBytes 1 (s.get Reg.GG_QFC_LEARN_CNT 0) ++ leBytes 1 (s.get Reg.GG_STAT_REF_STALE 0 + (if kind == 2 && s.is Reg.GG_STAT_VALID 0 then 2 else 0)) ++
    leBytes 4 (if kind == 2 then floorN (g.x * 2 ^ 30) else 0) ++ leBytes 4 (if kind == 2 then isqrt (floorN (g.p * 2 ^ 64)) else 0) ++
    leBytes 2 (min 65535 s.gaugeHrs) ++ leBytes 1 (s.get Reg.GG_STAT_STEPS 0) ++ List.replicate 25 0
  b ++ leBytes 4 (crc32 b)

/-- The conditions under which a write starts (R312). -/
def State.jrnlOk (s : State) : Bool :=
  let c := s.get Reg.GG_JRNL_VSYS_CH 0
  let bf := s.get Reg.PP_STAT_BFET 0
  (191 < c || (s.get Reg.GG_JRNL_VWRITE_MIN 0 ≤ s.get Reg.CH_DATA_VALUE c && !s.is Reg.CH_DATA_STALE c)) &&
    (s.anyInput || ((bf == bfArmed || bf == bfOn) && s.batPresent && !s.is Reg.PP_EVT_BUV 0) || 12 ≤ s.get Reg.GG_JRNL_HOLD_US 0)

/-- The write of a record begins; a STATE record carries the Q_FC of a LEARN record that waits (R318). -/
def State.jrnlStart (s : State) (kind : Nat) : State :=
  ({ s with gauge := { s.gauge with writing := kind, image := s.jrnlBytes kind } }.put Reg.GG_STAT_LEARN_PEND 0 0).nvmNext

/-- A LEARN record that waits is written once the conditions hold and no record is being written. -/
def State.jrnlLearn (s : State) : State :=
  s.ifDo (s.is Reg.GG_STAT_LEARN_PEND 0 && s.gauge.writing == 0 && s.jrnlOk) (fun s => s.jrnlStart 1)

/- Learning (R310). -/

/-- A learning update with the newest reference as reference 2. -/
def State.gaugeLearn (s : State) : State :=
  let g := s.gauge
  match g.refs with
  | [] => s
  | r2 :: older =>
    match older.find? (fun r => decide (s.learnDx ≤ |r.x - r2.x|)) with
    | none => s
    | some r1 =>
      let d := (r2.q - r1.q) / (r2.x - r1.x) - g.qfc
      let d := d * (if r1.relaxed && r2.relaxed then 1 / 4 else 1 / 10)
      let q := g.qfc + clampQ (-(g.qfc / 20)) (g.qfc / 20) d
      let q := clampQ ((s.design : Nat) / 2) ((s.design : Nat) * 12 / 10) q
      (({ s with gauge := { g with qfc := q } }.sat Reg.GG_QFC_LEARN_CNT 0 255).put Reg.GG_STAT_LEARN_PEND 0 1).jrnlLearn

/-- A learning update when a reference has been accepted: none while a LEARN record waits; after the write of a record in progress (R318). -/
def State.learnNow (s : State) : State :=
  if s.is Reg.GG_STAT_LEARN_PEND 0 then s
  else if s.gauge.writing != 0 then { s with gauge := { s.gauge with learnNext := true } }
  else s.gaugeLearn

/-- A reference accepted (R302 to R304): the correction, REF_STALE and STEPS, and learning. -/
def State.gaugeRef (s : State) (relaxed : Bool) (z sv : Rat) (last : Nat) : State :=
  let s := s.gaugeCorrect z sv
  let d := s.ocvX z
  let s := d.2
  let g := s.gauge
  let s := { s with gauge := { g with refs := { relaxed := relaxed, x := d.1, q := g.q } :: g.refs, refTick := s.tick, hrs0 := 0 } }
  let s := s.put Reg.GG_R0_LAST_REF 0 last
  let s := if relaxed then s.put Reg.GG_STAT_REF_STALE 0 0 else
    let s := s.sat Reg.GG_STAT_STEPS 0 8
    s.ifDo (s.get Reg.GG_STAT_STEPS 0 == 8) (fun s => s.put Reg.GG_STAT_REF_STALE 0 0)
  s.learnNow

/-- The current stayed within 5 % of a mean and 50 mA of it (R303), by the lowest and the highest of a window. -/
def steady (mean lo hi : Rat) : Bool := decide (mean - (|mean| / 20 + 50) ≤ lo) && decide (hi ≤ mean + (|mean| / 20 + 50))

/-- A hand-over, a presence test or the loss of the battery: no window of R303 goes over it (R318). -/
def State.stepCut (s : State) : State := (s.put Hid.GG_CUT_T 0 s.tick).put Hid.GG_CUT 0 1

/-- The windows of a change of load lie clear of such an event: from 10 s before t_s to t_s + 2 s. -/
def State.stepClear (s : State) (ago : Nat) : Bool :=
  65536 ≤ ago && !s.is Hid.PT_RUN 0 && (!s.is Hid.GG_CUT 0 || ago + 327680 < (s.tick + 2 ^ 48 - s.get Hid.GG_CUT_T 0) % 2 ^ 48)

/-- A step reference judged, and taken if it is accepted (R303). -/
def State.gaugeStep (s : State) (r : StepRef) : State :=
  let ib := s.shuntAmps r.sBefore
  let ia := s.shuntAmps r.sAfter
  let di := ia - ib
  let dv : Rat := (((r.vAfter : Int) - (r.vBefore : Int) : Int) : Rat) / 1000
  let rm := dv / di * 1000
  if decide (di = 0) || decide (|di| < (s.diStep : Nat)) || decide (rm < s.gauge.r0 / 4) || decide (4 * s.gauge.r0 < rm) ||
      !steady ib (s.shuntAmps r.bLo) (s.shuntAmps r.bHi) || !steady ia (s.shuntAmps r.aLo) (s.shuntAmps r.aHi) || !s.stepClear r.ago then s
  else
    let z := (r.vAfter : Rat) / 1000 - ia * rm / 1000
    let s := s.gaugeRef false z (s.stepSig : Nat) 2
    { s with gauge := { s.gauge with r0 := s.gauge.r0 + (rm - s.gauge.r0) / 8 } }

/- Reports and levels (R305 to R307). -/

/-- x_E: the x at which OCV(x) - I_HOLD × R0 = VBUV, within 0 to 0.5 (R305). -/
def State.xEmpty (s : State) : Rat × State :=
  let d := s.ocvX ((s.vbuv : Nat) + (s.get Reg.GG_RSV_I_HOLD 0 : Nat) * s.gauge.r0 / 1000)
  (clampQ 0 (1 / 2) d.1, d.2)

/-- Q_RSV in mAh (R306). -/
def State.qRsv (s : State) : Rat := (s.get Reg.GG_RSV_RSV_MIN 0 : Nat) / 60 * (s.get Reg.GG_RSV_I_HOLD 0 : Nat)

/-- The margin M: the reported U while REF_STALE is set (R306). -/
def State.margin (s : State) : Rat := if s.is Reg.GG_STAT_REF_STALE 0 then (s.get Reg.GG_UNC_U 0 : Nat) else 0

/-- The gauge's reports brought up to date (R300, R301, R305, R306); charges in whole mAh, rounded down (DESIGN CHOICE, log 7). -/
def State.gaugeReport (s : State) : State :=
  let e := s.xEmpty
  let s := e.2
  let g := s.gauge
  let fcc := (1 - e.1) * g.qfc
  let qu := clampQ 0 fcc ((g.x - e.1) * g.qfc)
  let s := { s with gauge := { g with qu := qu, fcc := fcc } }
  let s := (s.put Reg.GG_Q_Q_U 0 (floorN qu)).put Reg.GG_Q_SOC_PCT 0 (floorN (100 * qu / fcc))
  let s := (s.put Reg.GG_FCC_FCC_U 0 (floorN fcc)).put Reg.GG_QFC_Q_FC 0 (floorN g.qfc)
  let s := (s.put Reg.GG_UNC_U 0 (min (2 ^ 24 - 1) g.unc)).put Reg.GG_UNC_HRS 0 (min 255 s.gaugeHrs)
  let s := (s.put Reg.GG_R0_R0 0 (min 65535 (floorN (10 * g.r0)))).mark Reg.GG_STAT_TBL_BAD 0 s.ocvBad
  (s.put Reg.GG_LVL_Q_RIF 0 (min (2 ^ 24 - 1) (floorN (s.qRsv + s.margin)))).mark Reg.GG_STAT_RSV_BIG 0 (decide (fcc < s.qRsv + s.margin))

/-- One level entered or left (R307): its threshold in mAh, whether it is in use, and the source its entry raises. -/
def State.level (s : State) (bit : Fld) (use : Bool) (thr : Rat) (src : Nat) : State :=
  let qu := s.gauge.qu
  if !s.is bit 0 then s.ifDo (use && decide (qu ≤ thr)) (fun s => (s.put bit 0 1).irq src)
  else s.ifDo (!use || decide (thr + s.gauge.fcc / 100 < qu)) (fun s => s.put bit 0 0)

/-- Every level evaluated (R306, R307), once the estimate is valid. -/
def State.levels (s : State) : State :=
  if !s.is Reg.GG_STAT_VALID 0 then s
  else
    let m := s.margin
    let w1 := s.get Reg.GG_WARN_WARN1 0
    let w2 := s.get Reg.GG_WARN_WARN2 0
    let s := s.level Reg.GG_STAT_RSV_ENTER true (s.qRsv + m) 63
    let s := s.level Reg.GG_STAT_RSV_LOW true (s.qRsv / 2 + m) 63
    let s := s.level Reg.GG_STAT_EMPTY true 0 63
    let s := s.level Reg.GG_STAT_WARN1 (w1 != 0) ((10 * w1 : Nat) : Rat) 64
    s.level Reg.GG_STAT_WARN2 (w2 != 0) ((10 * w2 : Nat) : Rat) 64

/-- A cell check bit follows its condition; GG_CELL is raised when it sets (R309). -/
def State.cellBit (s : State) (bit : Fld) (b : Bool) : State := (s.ifDo (b && !s.is bit 0) (fun s => s.irq 65)).mark bit 0 b

/-- The cell checks of one update (R309, R258). -/
def State.cellCheck (s : State) (cells : List Nat) : State :=
  let cs := cells.take s.cells
  let hi := cs.any (fun v => 1000 * (s.vreg + 75) < v)
  let lim := s.get Reg.GG_CTRL_SPREAD_MAX 0
  let top := cs.foldl max 0
  let bot := cs.foldl min top
  let s := (s.cellBit Reg.GG_STAT_CELL_HI hi).cellBit Reg.GG_STAT_SPREAD (lim != 0 && 1000 * lim < top - bot)
  if hi then s.sat Hid.CELLHI2 0 2 else s.put Hid.CELLHI2 0 0

/-- One update (R299, R301): while BATT_ABSENT freezes the gauge or before the start estimate, only a LEARN record that waits is written (R312). -/
def State.gaugeUpdate (s : State) (m : GaugeSample) : State :=
  let s := s.cellCheck m.cells
  if s.is Reg.PP_STAT_BATT_ABSENT 0 || s.gauge.startDue then s.jrnlLearn
  else
    let s := s.gaugePredict (s.shuntAmps m.shunt / 3600)
    let s := s.ifDo (s.gauge.learnNext && s.gauge.writing == 0 && !s.is Reg.GG_STAT_LEARN_PEND 0)
      (fun s => ({ s with gauge := { s.gauge with learnNext := false } }).gaugeLearn)
    let s := match m.step with
      | none => s
      | some r => s.gaugeStep r
    (s.jrnlLearn.gaugeReport).levels

/-- The gauge is frozen while the battery is absent (R317). -/
def State.gaugeFreeze (s : State) : State := ((s.put Reg.GG_STAT_FROZEN 0 1).put Reg.GG_STAT_VALID 0 0).stepCut

/-- The estimate is to start again without a STATE prior (R311, R317). -/
def State.gaugeRestart (s : State) : State :=
  { (s.put Reg.GG_STAT_FROZEN 0 0).put Reg.GG_STAT_VALID 0 0 with
    gauge := { s.gauge with startDue := true, prior := false, refs := [], learnNext := false } }

/-- The bytes of the newest usable record of the two slots (R315). -/
def State.jrnlNewest (s : State) : Option (List (BitVec 8)) :=
  let ok (slot : Nat) : Nat :=
    let b := bytesAt s.nvm (jrnlAddr slot) 64
    if leNat ((b.drop 14).take 1) == s.cells && leNat ((b.drop 15).take 1) == s.get Reg.PP_CFG_CHEM 0 then s.jrnlSeq slot else 0
  if ok 0 == 0 && ok 1 == 0 then none else some (bytesAt s.nvm (jrnlAddr (if ok 0 < ok 1 then 1 else 0)) 64)

/-- A field of a record: n bytes from an offset on. -/
def recAt (b : List (BitVec 8)) (o n : Nat) : Nat := leNat ((b.drop o).take n)

/-- The capacity and resistance that a start after a cold reset takes from its record, or from the configuration (R315). -/
def State.gaugeLoad (s : State) (r : Option (List (BitVec 8))) : State :=
  match r with
  | none =>
    ({ s with gauge := { s.gauge with qfc := (s.design : Nat), r0 := (max 1 (s.get Reg.GG_CFG_R0_INIT 0) : Nat) } }).raise 95
  | some b =>
    ({ s with gauge := { s.gauge with qfc := (recAt b 0x10 4 : Nat), r0 := (recAt b 0x14 2 : Nat) / 10 } }).put Reg.GG_QFC_LEARN_CNT 0 (recAt b 0x16 1)

/-- The start estimate (R315), from the mean cell voltage (mV) and current (mA) over 100 ms. -/
def State.gaugeStart (s : State) (v i : Rat) : State :=
  let r := if s.gauge.prior then s.jrnlNewest else none
  let s := s.ifDo s.gauge.prior (fun s => s.gaugeLoad r)
  let z := v - i * s.gauge.r0 / 1000
  let s := { s with gauge := { s.gauge with startDue := false, refs := [], q := 0 } }
  let s := match r.filter (fun b => recAt b 4 1 == 2 && (recAt b 0x17 1).testBit 1 && s.get Reg.WAKE_CAUSE_PREV 0 != 0 && recAt b 8 6 ≤ s.tick) with
    | some b =>
      let el := s.tick - recAt b 8 6
      let sg : Rat := (recAt b 0x1C 4 : Nat) / 2 ^ 32 + 1 / 1000 * ((el : Nat) / (32768 * 86400))
      let h := recAt b 0x20 2 + el / (32768 * 3600)
      let s := { s with gauge := { s.gauge with x := (recAt b 0x18 4 : Nat) / 2 ^ 30, p := sg * sg, refTick := s.tick, hrs0 := h } }
      let s := (s.setStale ((recAt b 0x17 1).testBit 0)).put Reg.GG_STAT_STEPS 0 (recAt b 0x22 1)
      if 32768 * 1800 ≤ el && decide (|i| < (s.iRest : Nat)) then s.gaugeRef true z 3 3
      else (s.gaugeCorrect z (s.stepSig : Nat)).put Reg.GG_R0_LAST_REF 0 3
    | none =>
      let d := s.ocvX z
      let f := d.2.drawFree 16
      let s := f.2
      let s := { s with gauge := { s.gauge with x := d.1, p := 1 / 400, refTick := s.tick, hrs0 := f.1 } }
      let s := (s.setStale true).put Reg.GG_STAT_STEPS 0 0
      (s.gaugeCorrect z (s.stepSig : Nat)).put Reg.GG_R0_LAST_REF 0 3
  (s.put Reg.GG_STAT_VALID 0 1).gaugeReport

/-- RIDE_READY's conditions besides ACTIVE (R44, R306, R317). -/
def State.rideOk (s : State) : Bool :=
  s.is Reg.GG_STAT_VALID 0 && !s.is Reg.PP_STAT_BATT_ABSENT 0 && decide (s.qRsv + s.margin ≤ s.gauge.qu)

/-- VBAT in mV for a HOLD_EMPTY record: from a channel of the Scales, 0 where none is named (GG_VBAT). -/
def State.vbatMv (s : State) : Nat :=
  let c := s.get Reg.GG_VBAT_VBAT_CH 0
  if c < 192 then s.get Reg.CH_DATA_VALUE c * s.get Reg.GG_VBAT_VBAT_K 0 / 65536 else 0

/- Commands that act on the gauge alone stand here; those that may start the steps of R42 stand in PowerCmd.lean. -/

/-- 72 h have passed on the tick count without an accepted reference (R304). -/
def State.refOld (s : State) : Bool :=
  72 * 3600 * 32768 ≤ s.gauge.hrs0 * 3600 * 32768 + (s.tick + 2 ^ 48 - s.gauge.refTick) % 2 ^ 48

/-- REF_STALE_SET (R304): 72 h without an accepted reference. -/
def execRefStaleSet (s : State) : Out :=
  done (s.ifDo (s.carries && !s.is Reg.GG_STAT_REF_STALE 0 && s.refOld) (fun s => (s.setStale true).put Reg.GG_STAT_STEPS 0 0))

end Sys2Proof.Machine
end

