-- ==== Sys2Proof/Machine/Port.lean ====
section
/-! DEFINITION. The cable ports (R271 to R296): attach, sink and source policy, exchanges of messages, and protection. What the power path does on
the end of a sink contract stands in Power.lean. -/

namespace Sys2Proof.Machine
open Sys2Proof

/- PORTx_STAT.TC. -/
def tcOpen : Nat := 0
def tcWait : Nat := 1
def tcSnk : Nat := 2
def tcSrc : Nat := 3
def tcTry : Nat := 4
def tcRecover : Nat := 5
def tcDisabled : Nat := 6

/- Messages a port sends (Hid.PO_TX). -/
def txRequest : Nat := 1
def txEprRequest : Nat := 2
def txAccept : Nat := 3
def txReject : Nat := 4
def txWait : Nat := 5
def txNotSupported : Nat := 6
def txHardReset : Nat := 7
def txSourceCaps : Nat := 8
def txSinkCaps : Nat := 9
def txGetSourceCap : Nat := 10
def txPsRdy : Nat := 11
def txEprEnter : Nat := 12
def txEprExit : Nat := 13
def txKeepAlive : Nat := 14
def txDiscover : Nat := 15
def txPrSwap : Nat := 16
def txDrSwap : Nat := 17
def txEprSinkCaps : Nat := 18
def txEprFailed : Nat := 19

/- Exchanges under way (Hid.PE_EXCH). -/
def exNone : Nat := 0
def exRequest : Nat := 1
def exSinkMove : Nat := 2
def exPrSwap : Nat := 3
def exDrSwap : Nat := 4
def exSrcMove : Nat := 5
def exEpr : Nat := 6
def exPrMove : Nat := 7
def exCaps : Nat := 8
def exVconn : Nat := 9

def State.tc (s : State) (x : Nat) : Nat := s.get Reg.PORT_STAT_TC x

def State.sinkOn (s : State) (x : Nat) : Bool := s.tc x == tcSnk

def State.sourceOn (s : State) (x : Nat) : Bool := s.tc x == tcSrc

def State.exch (s : State) (x : Nat) : Nat := s.get Hid.PE_EXCH x

/-- The PHY of a port receives and sends (R274, R286), through a warm reset too (R294). -/
def State.phy (s : State) (x : Nat) : Bool :=
  s.carries && s.is Reg.PORT_CFG_PD_EN x && (s.sinkOn x || s.sourceOn x)

/-- A transition or an EPR entry runs at a sink port (R291, R296). -/
def State.moving (s : State) (x : Nat) : Bool := s.exch x == exSinkMove || s.exch x == exEpr

/-- BMC activity on a CC line of an attached port is an FCLK demand (R18, R293). -/
def State.bmc (s : State) (x : Nat) : State := s.ifDo (s.up && (s.sinkOn x || s.sourceOn x)) State.demand

/-- A message sent. -/
def State.tx (s : State) (x m : Nat) : State := (s.bmc x).put Hid.PO_TX x m

/-- Not_Supported sent (R289). -/
def State.nsup (s : State) (x : Nat) : State := (s.tx x txNotSupported).portFlag Reg.PORT_EVT_NSUP x

/-- PORTx_CFG.ROLE: 0 SNK, 1 SRC, 2 DRP; 3 taken as 0. -/
def State.role (s : State) (x : Nat) : Nat := let r := s.get Reg.PORT_CFG_ROLE x; if r == 3 then 0 else r

/- Terminations (R67, R273, R275). -/

/-- The port applies its own terminations: not before the release of a cold reset, nor stopped, nor with a CC line too high, nor in ErrorRecovery. -/
def State.terminates (s : State) (x : Nat) : Bool := s.is Hid.PO_RD x && !s.is Hid.PO_STOP x && !s.is Hid.PO_CCOV x && s.tc x != tcRecover

/-- The port is unattached, or in AttachWait, where role and toggle say what it presents. -/
def State.tcIdle (s : State) (x : Nat) : Bool := s.tc x == tcOpen || s.tc x == tcWait

/-- The port's own Rp stands on the CC lines. -/
def State.ownRp (s : State) (x : Nat) : Bool :=
  s.terminates x && (s.sourceOn x || (s.tcIdle x && (s.role x == 1 || (s.role x == 2 && s.is Hid.PO_RP x))))

/-- The port's own Rd stands on the CC lines: as sink, in Try.SNK, and in DISABLED (R286). -/
def State.ownRd (s : State) (x : Nat) : Bool :=
  s.terminates x && (s.sinkOn x || s.tc x == tcTry || s.tc x == tcDisabled ||
    (s.tcIdle x && (s.role x == 0 || (s.role x == 2 && !s.is Hid.PO_RP x))))

/-- Rd stands on the CC lines: the port's own, the dead-battery clamp, or both in parallel (R67, R275). -/
def State.rdSeen (s : State) (x : Nat) : Bool := s.is Hid.PO_CLAMP x || s.ownRd x

/-- The engine uses collision avoidance: PD 3.x, with a contract (R273). -/
def State.avoids (s : State) (x : Nat) : Bool := s.get Reg.PORT_STAT_REV x == 2 && s.get Reg.PORT_STAT_CONTRACT x != 0

/-- The Rp that the port presents, coded as PORTx_STAT.TC_LVL, 0 for none (R273): RP_LVL, with 3 taken as 2; under collision avoidance 3.0 A (SinkTxOK),
and 1.5 A (SinkTxNG) while a swap of its own runs (R288; DEDUCED, log 70). -/
def State.rpShown (s : State) (x : Nat) : Nat :=
  if !s.ownRp x then 0
  else if s.sourceOn x && s.avoids x then (if s.exch x == exPrSwap || s.exch x == exDrSwap then 2 else 3)
  else min 2 (s.get Reg.PORT_CFG_RP_LVL x) + 1

/-- The port may start an exchange: no sink does while the Rp signals SinkTxNG (R288). -/
def State.txOk (s : State) (x : Nat) : Bool := !(s.sinkOn x && s.avoids x && s.get Reg.PORT_STAT_TC_LVL x == 2)

/-- The port may start an exchange now: its PHY works and none is under way. -/
def State.mayStart (s : State) (x : Nat) : Bool := s.phy x && s.exch x == exNone && s.txOk x

/- Limits and levels (R276), for the power path. -/

/-- The Type-C level's current in 50 mA. -/
def State.levelAmps (s : State) (x : Nat) : Nat :=
  match s.get Reg.PORT_STAT_TC_LVL x with
  | 2 => 30
  | 3 => 60
  | _ => 10

/-- PORTx_CFG.DEF_ILIM, 1 to 60. -/
def State.defIlim (s : State) (x : Nat) : Nat := max 1 (min 60 (s.get Reg.PORT_CFG_DEF_ILIM x))

/-- The intake limit of a sink port in 50 mA (R276). -/
def State.portLimit (s : State) (x : Nat) : Nat :=
  let old := if s.get Reg.PORT_STAT_CONTRACT x == 0 then min (s.levelAmps x) (s.defIlim x) else s.get Reg.PORT_CONTRACT_I x
  if s.exch x == exSinkMove then
    let va := if s.get Reg.PORT_STAT_CONTRACT x == 0 then 250 else s.get Reg.PORT_CONTRACT_V x
    min (min old (s.get Hid.RQ_I x)) (2500000 / (20 * max 1 (min va (s.get Hid.RQ_V x))) / 50)
  else old

/-- The voltages in force in 20 mV: the contract's, and in a transition the one requested too (5 V stands for no contract). -/
def State.portVolts (s : State) (x : Nat) : List Nat :=
  let va := if s.get Reg.PORT_STAT_CONTRACT x == 0 then 250 else s.get Reg.PORT_CONTRACT_V x
  if s.exch x == exSinkMove then [va, s.get Hid.RQ_V x] else [va]

/-- The input floor, the loss level and the overvoltage level of a sink port in mV (R276). -/
def State.portLevels (s : State) (x : Nat) : Nat × Nat × Nat :=
  if s.get Reg.PORT_STAT_CONTRACT x == 0 && s.exch x != exSinkMove then (4400, 3670, 6000)
  else
    let lo := 20 * (s.portVolts x).foldl min 4095
    let hi := 20 * (s.portVolts x).foldl max 0
    (lo * 9 / 10, (if lo == 5000 then 3670 else lo * 8 / 10), max 6000 (hi * 115 / 100))

/- Sink policy (R278). The bit layout of power data objects is that of the USB Power Delivery Specification (PRESUMED, log 8). -/

/-- What a request asks: object position, voltage in 20 mV, current in 50 mA, kind as STAT.CONTRACT, and Capability Mismatch. -/
structure Ask where
  obj : Nat
  v : Nat
  i : Nat
  kind : Nat
  mis : Bool
  deriving DecidableEq, Repr

/-- An object that the policy may choose: position, voltage in mV, power in µW, whether it is fixed, and its request. -/
structure Pick where
  mv : Nat
  p : Nat
  fixed : Bool
  ask : Ask
  deriving DecidableEq, Repr

/-- PORTx_SNK in mV, mA and µW. -/
def State.snkVmin (s : State) (x : Nat) : Nat := 250 * max 20 (min 192 (s.get Reg.PORT_SNK_VMIN x))
def State.snkVmax (s : State) (x : Nat) : Nat := 250 * max 20 (min 192 (s.get Reg.PORT_SNK_VMAX x))
def State.snkImax (s : State) (x : Nat) : Nat := 50 * max 1 (min 100 (s.get Reg.PORT_SNK_IMAX x))
def State.snkPmax (s : State) (x : Nat) : Nat := 500000 * max 1 (min 480 (s.get Reg.PORT_SNK_PMAX x))

/-- PORTx_PPS.PPS_V in mV. -/
def State.ppsV (s : State) (x : Nat) : Nat := 20 * max 250 (min 1050 (s.get Reg.PORT_PPS_PPS_V x))

/-- The choice an object at a voltage with a maximum current offers. -/
def State.pick (s : State) (x pos mv imax kind : Nat) : Pick :=
  let p := min (min (mv * imax) (mv * s.snkImax x)) (s.snkPmax x)
  { mv := mv, p := p, fixed := kind != 2, ask := { obj := pos, v := mv / 20, i := p / mv / 50, kind := kind, mis := false } }

/-- One object judged (R278). -/
def State.judgePdo (s : State) (x : Nat) (epr : Bool) (pos w : Nat) : Option Pick :=
  if bits w 31 30 == 0 then
    let mv := 50 * bits w 19 10
    if mv < s.snkVmin x || s.snkVmax x < mv || mv == 0 || ((7 < pos || 20000 < mv) && !epr) then none
    else some (s.pick x pos mv (10 * bits w 9 0) (if 20000 < mv || 7 < pos then 3 else 1))
  else if bits w 31 28 == 12 && s.is Reg.PORT_CFG_PPS_EN x then
    let mv := s.ppsV x
    if mv < 100 * bits w 15 8 || 100 * bits w 24 17 < mv || mv < s.snkVmin x || s.snkVmax x < mv then none
    else some (s.pick x pos mv (50 * bits w 6 0) 2)
  else none

/-- The better of two choices (R278). -/
def better (b o : Pick) : Pick :=
  if b.p < o.p || (o.p == b.p && o.mv < b.mv) || (o.p == b.p && o.mv == b.mv && o.fixed && !b.fixed) then o else b

/-- The stored objects of a port, with their positions. -/
def State.pdos (s : State) (x : Nat) : List (Nat × Nat) :=
  (List.range (s.get Hid.PO_NCAP x)).map (fun i => (i + 1, s.get Reg.PORT_RXPDO_PDO (32 * x + i)))

/-- The request for the 5 V object. -/
def State.askFive (s : State) (x : Nat) (mis : Bool) : Ask :=
  { obj := 1, v := 250, i := min (10 * bits (s.get Reg.PORT_RXPDO_PDO (32 * x)) 9 0) (s.snkImax x) / 50, kind := 1, mis := mis }

/-- The request that the policy chooses, EPR objects counted or not (R278). -/
def State.choose (s : State) (x : Nat) (epr : Bool) : Ask :=
  match (s.pdos x).filterMap (fun o => s.judgePdo x epr o.1 o.2) with
  | [] => s.askFive x true
  | b :: t => (t.foldl better b).ask

/-- The request data object (R278): position, Capability Mismatch, USB Communications Capable 0, No USB Suspend 1, Unchunked Extended Messages Supported 0,
EPR Mode Capable, then the two currents, equal; for PPS the voltage and the current. -/
def rdoWord (a : Ask) (epr : Bool) : Nat :=
  a.obj * 2 ^ 28 + a.mis.toNat * 2 ^ 26 + 2 ^ 24 + epr.toNat * 2 ^ 22 + (if a.kind == 2 then a.v * 2 ^ 9 + a.i else 5 * a.i * 2 ^ 10 + 5 * a.i)

/-- A Request sent (R278, R279). -/
def State.request (s : State) (x : Nat) (a : Ask) : State :=
  let s := s.put Hid.PO_RDO x (rdoWord a (s.is Reg.PORT_CFG_EPR_EN x))
  let s := ((((s.put Hid.RQ_OBJ x a.obj).put Hid.RQ_V x a.v).put Hid.RQ_I x a.i).put Hid.RQ_KIND x a.kind).mark Hid.RQ_MIS x a.mis
  let s := s.ifDo a.mis (fun s => s.portFlag Reg.PORT_EVT_MISMATCH x)
  ((s.put Hid.PE_EXCH x exRequest).put Hid.PO_RETRY x 0).tx x (if s.is Reg.PORT_STAT_EPR x then txEprRequest else txRequest)

/-- The policy's own request. -/
def State.requestBest (s : State) (x : Nat) : State := s.request x (s.choose x (s.is Reg.PORT_STAT_EPR x))

/-- An EPR entry begins where one is wanted and possible (R281). -/
def State.eprEnter (s : State) (x : Nat) : State :=
  s.ifDo (s.is Reg.PORT_CFG_EPR_EN x && s.is Hid.PO_ECAP x && !s.is Hid.PO_EPRF x && s.get Hid.PO_EPR x == 0 && s.mayStart x &&
      s.sinkOn x && (s.get Reg.PORT_STAT_CONTRACT x == 1 || s.get Reg.PORT_STAT_CONTRACT x == 2))
    (fun s => ((s.put Hid.PE_EXCH x exEpr).put Hid.PO_EPR x 1).tx x txEprEnter)

/-- An EPR entry failed (R281). -/
def State.eprFail (s : State) (x : Nat) : State :=
  (((s.put Hid.PE_EXCH x exNone).put Hid.PO_EPR x 0).put Hid.PO_EPRF x 1).portFlag Reg.PORT_EVT_MISMATCH x

/-- An EPR entry cut short by another message has failed (R281). -/
def State.eprCut (s : State) (x : Nat) : State := s.ifDo (s.exch x == exEpr) (fun s => s.eprFail x)

/-- The exit from EPR mode that a cleared EPR_EN asks for begins with the request of an SPR object (R281). -/
def State.eprOut (s : State) (x : Nat) : State :=
  s.ifDo (s.get Hid.PO_EPR x == 5 && s.mayStart x) (fun s => (s.put Hid.PO_EPR x 4).request x (s.choose x false))

/- Contracts and attach. -/

/-- PORTx_CONTRACT and STAT.CONTRACT at none. -/
def State.noContract (s : State) (x : Nat) : State :=
  (((s.put Reg.PORT_CONTRACT_OBJ x 0).put Reg.PORT_CONTRACT_V x 0).put Reg.PORT_CONTRACT_I x 0).put Reg.PORT_STAT_CONTRACT x 0

/-- The requested contract takes effect (R279). -/
def State.newContract (s : State) (x : Nat) : State :=
  let s := ((s.put Reg.PORT_CONTRACT_OBJ x (s.get Hid.RQ_OBJ x)).put Reg.PORT_CONTRACT_V x (s.get Hid.RQ_V x)).put Reg.PORT_CONTRACT_I x (s.get Hid.RQ_I x)
  ((s.put Reg.PORT_STAT_CONTRACT x (s.get Hid.RQ_KIND x)).portFlag Reg.PORT_EVT_CONTRACT x).put Hid.PE_EXCH x exNone

/-- Every exchange, retry and EPR sequence of a port ended. -/
def State.endExchange (s : State) (x : Nat) : State :=
  (((s.put Hid.PE_EXCH x exNone).put Hid.PO_RETRY x 0).put Hid.PO_WAITS x 0).put Hid.PO_PPSV x 0

/-- The protocol layer starts afresh: contract, exchange, EPR mode and BIST ended. -/
def State.protoReset (s : State) (x : Nat) : State :=
  ((((s.noContract x).endExchange x).put Hid.PO_EPR x 0).put Reg.PORT_STAT_EPR x 0).put Hid.PO_BIST x 0

/-- The source side of a port off: switch open, SRCEN low; VBUS is discharged if it was driven (R285, R292). -/
def State.sourceOff (s : State) (x : Nat) : State :=
  let s := s.ifDo (s.is Hid.PO_SW x || s.is Hid.PO_EN x) (fun s => s.put Hid.PO_DSC x 1)
  (((s.put Hid.PO_SW x 0).put Hid.PO_EN x 0).put Hid.PO_SEL x 0).put Hid.PO_HR x 0

/-- A port leaves its attach: what it negotiated and learnt of the partner and cable is gone. -/
def State.unattach (s : State) (x tc : Nat) : State :=
  let s := (s.protoReset x).sourceOff x
  let s := ((((s.put Reg.PORT_STAT_TC x tc).put Reg.PORT_STAT_PROLE x 0).put Reg.PORT_STAT_DROLE x 0).put Reg.PORT_STAT_TC_LVL x 0).put Reg.PORT_STAT_ORIENT x 0
  let s := ((((s.put Reg.PORT_STAT_VCONN x 0).put Reg.PORT_STAT_REV x 0).put Reg.PORT_STAT_NO_PD x 0).put Reg.PORT_CABLE_VALID x 0).put Reg.PORT_CABLE_EPR_CAP x 0
  let s := ((((s.put Reg.PORT_CABLE_ICAP x 0).put Reg.PORT_CABLE_VMAX x 0).put Hid.PO_VCOCP x 0).put Hid.PO_RA x 0).put Hid.PO_DISC x 0
  let s := (((s.put Hid.PO_HRN x 0).put Hid.PO_NCAP x 0).put Hid.PO_ECAP x 0).put Hid.PO_VGIV x 0
  s.forEach (List.range 11) (fun s i => s.put Reg.PORT_RXPDO_PDO (32 * x + i) 0)

/-- The abort of a transition whose VBUS was lost (R291): Unattached.SNK, with Rd applied. -/
def State.portAbort (s : State) (x : Nat) : State := ((s.unattach x tcOpen).put Hid.PO_RP x 0).portFlag Reg.PORT_EVT_ABORT x

/- Source policy (R282). -/

/-- The source voltages in 20 mV. -/
def srcVolt (k : Nat) : Nat :=
  match k with
  | 0 => 250
  | 1 => 450
  | 2 => 750
  | _ => 1000

/-- An object's current in 10 mA: the lower of its field and SRC_PMAX / V (R282). -/
def State.srcAmps (s : State) (x k : Nat) : Nat :=
  let f := match k with
    | 0 => Reg.PORT_SRCPDO_I5
    | 1 => Reg.PORT_SRCPDO_I9
    | 2 => Reg.PORT_SRCPDO_I15
    | _ => Reg.PORT_SRCPDO_I20
  min (5 * max 1 (min 60 (s.get f x))) (500000 * max 1 (min 120 (s.get Reg.PORT_SRCLIM_SRC_PMAX x)) / (20 * srcVolt k) / 10)

/-- The offer of a source port: voltage codes and currents in 10 mA, in position order; reduced to 5 V at 0.5 A under HOLD_SRC = 1 (R282, R293). -/
def State.offer (s : State) (x : Nat) : List (Nat × Nat) :=
  if s.is Hid.PO_RED x then [(0, 50)]
  else ((List.range 4).filter (fun k => k == 0 || s.bit Reg.PORT_SRCPDO_EN x k)).map (fun k => (k, s.srcAmps x k))

/-- Discover Identity sent once, by the port that supplies VCONN (R284). -/
def State.discover (s : State) (x : Nat) : State :=
  s.ifDo (s.is Reg.PORT_STAT_VCONN x && s.phy x && !s.is Hid.PO_DISC x) (fun s => (s.put Hid.PO_DISC x 1).tx x txDiscover)

/-- VCONN applied where the cable carries Ra and the partner has not taken VCONN over, and Discover Identity sent once (R284). -/
def State.vconnOn (s : State) (x : Nat) : State :=
  (s.ifDo (s.is Reg.PORT_CFG_VCONN_EN x && s.is Hid.PO_RA x && !s.is Hid.PO_VCOCP x && !s.is Hid.PO_CCOV x && !s.is Hid.PO_VGIV x)
    (fun s => s.put Reg.PORT_STAT_VCONN x 1)).discover x

/-- Source_Capabilities sent, where the PHY works. -/
def State.sendCaps (s : State) (x : Nat) : State := s.ifDo (s.phy x) (fun s => s.tx x txSourceCaps)

/-- The source supply is selected at 5 V and enabled (R282). -/
def State.sourceStart (s : State) (x : Nat) : State :=
  (((s.put Hid.PO_SEL x 0).put Hid.PO_EN x 1).put Hid.PO_SRCV x 250).put Hid.PO_SRCI x (s.srcAmps x 0)

/-- A hard reset on the source side (R290): VBUS is discharged to vSafe0V, then 700 ms are waited. VCONN is the source's again
(PRESUMED, log 8). -/
def State.sourceHardReset (s : State) (x : Nat) : State :=
  (((((s.protoReset x).put Hid.PO_VGIV x 0).put Hid.PO_SW x 0).put Hid.PO_SEL x 0).put Hid.PO_DSC x 1).put Hid.PO_HR x 1

/-- The recovery of a source port (R285). -/
def State.recovery (s : State) (x : Nat) : State := (s.unattach x tcRecover).raise (96 + x)

/-- A sourcing port stops (R293): VBUS is discharged and its terminations are removed. -/
def State.stopSource (s : State) (x : Nat) : State := s.ifDo (s.sourceOn x) (fun s => (s.unattach x tcOpen).put Hid.PO_STOP x 1)

/-- HOLD_SRC applied to a sourcing port (R293). -/
def State.holdSrc (s : State) (x : Nat) : State :=
  if !s.sourceOn x then s
  else match s.get Reg.PORT_CFG_HOLD_SRC x with
    | 0 => s
    | 1 => (s.put Hid.PO_RED x 1).sendCaps x
    | _ => s.stopSource x

/-- HOLD entry at the ports: a source transition completes first (R293, R296). -/
def State.portsHold (s : State) : State :=
  s.forEach [0, 1] (fun s x => if s.sourceOn x && s.exch x == exSrcMove then s.put Hid.PO_HDUE x 1 else s.holdSrc x)

/-- ACTIVE returns: stopped ports may source again, and a reduced offer ends. -/
def State.portsActive (s : State) : State :=
  s.forEach [0, 1] (fun s x =>
    let red := s.is Hid.PO_RED x
    let s := ((s.put Hid.PO_STOP x 0).put Hid.PO_RED x 0).put Hid.PO_HDUE x 0
    s.ifDo (red && s.sourceOn x) (fun s => s.sendCaps x))

/-- Losing VBUS of a sink port is safe (R277): another input is READY or FEED, or the battery is PRESENT with the BATFET not OFF. -/
def State.safeLoss (s : State) (x : Nat) : Bool :=
  [0, 1, 2].any (fun i => i != x + 1 && (s.inSt i == inReady || s.inSt i == inFeed)) || (s.batPresent && s.get Reg.PP_STAT_BFET 0 != bfOff)

/-- The source's answer to a Request (R282, R283). -/
def State.answerRequest (s : State) (x rdo : Nat) : State :=
  let pos := bits rdo 31 28
  match (if pos == 0 then none else (s.offer x)[pos - 1]?) with
  | none => s.tx x txReject
  | some o =>
    if o.2 < bits rdo 19 10 || o.2 < bits rdo 9 0 then s.tx x txReject
    else
      let v := srcVolt o.1
      let s := (((s.put Hid.RQ_OBJ x pos).put Hid.RQ_V x v).put Hid.RQ_I x (bits rdo 19 10 / 5)).put Hid.RQ_KIND x 1
      let old := s.get Hid.PO_SRCV x
      let s := s.put Hid.PO_SRCI x o.2
      if v == old then (s.newContract x).tx x txPsRdy
      else ((((s.put Hid.PO_SEL x o.1).put Hid.PO_SRCV x v).ifDo (v < old) (fun s => s.put Hid.PO_DSC x 1)).put Hid.PE_EXCH x exSrcMove).tx x txAccept

/- Writes of PORTx_CFG (R281, R284, R296). -/

/-- The fields of PORTx_CFG. -/
def portCfgFlds : List Fld :=
  [Reg.PORT_CFG_DEF_ILIM, Reg.PORT_CFG_HOLD_SRC, Reg.PORT_CFG_PRS_POL, Reg.PORT_CFG_DRS_EN, Reg.PORT_CFG_VCONN_EN, Reg.PORT_CFG_EPR_EN,
   Reg.PORT_CFG_PPS_EN, Reg.PORT_CFG_RP_LVL, Reg.PORT_CFG_TRY_SNK, Reg.PORT_CFG_PD_EN, Reg.PORT_CFG_ROLE]

/-- A write of PORTx_CFG taken: a cleared EPR_EN leaves EPR mode by way of an SPR request, a written EPR_EN allows an entry again; a source port
follows PD_EN and VCONN_EN. What the PHY cannot send at once waits (portFree). -/
def State.portCfgTake (s : State) (x w : Nat) : State :=
  let pd := s.is Reg.PORT_CFG_PD_EN x
  let s := portCfgFlds.foldl (fun s f => s.put f x (w / 2 ^ f.lsb)) s
  let s := if s.is Reg.PORT_CFG_EPR_EN x then (s.put Hid.PO_EPRF x 0).ifDo (s.get Hid.PO_EPR x == 5) (fun s => s.put Hid.PO_EPR x 3)
    else s.ifDo (s.get Hid.PO_EPR x == 3) (fun s => s.put Hid.PO_EPR x 5)
  let s := if s.is Reg.PORT_CFG_VCONN_EN x then s.ifDo (s.sourceOn x && s.is Hid.PO_SW x) (fun s => s.vconnOn x)
    else s.put Reg.PORT_STAT_VCONN x 0
  s.ifDo (!pd && s.sourceOn x && s.is Hid.PO_SW x) (fun s => s.sendCaps x)

/-- What waited for the end of an exchange at a port acts: a write of PORTx_CFG, HOLD_SRC, the exit from EPR mode, a new PPS voltage, an EPR entry (R280,
R281, R296). -/
def State.portFree (s : State) (x : Nat) : State :=
  if s.exch x != exNone then s
  else
    let s := s.ifDo (s.is Hid.PO_CFGV x) (fun s => (s.put Hid.PO_CFGV x 0).portCfgTake x (s.get Hid.PO_CFG x))
    let s := s.ifDo (s.is Hid.PO_HDUE x && s.exch x == exNone) (fun s => (s.put Hid.PO_HDUE x 0).holdSrc x)
    let s := (s.eprOut x).ifDo (s.is Hid.PO_PPSV x && s.get Reg.PORT_STAT_CONTRACT x != 2) (fun s => s.put Hid.PO_PPSV x 0)
    (s.ifDo (s.is Hid.PO_PPSV x && s.sinkOn x && s.mayStart x) (fun s => (s.put Hid.PO_PPSV x 0).requestBest x)).eprEnter x

/-- A write of PORTx_CFG: held during an exchange (R296). -/
def State.portCfg (s : State) (x w : Nat) : State :=
  if s.exch x == exNone then s.portCfgTake x w else (s.put Hid.PO_CFGV x 1).put Hid.PO_CFG x w

/-- A write of PORTx_PPS (R280): the Request follows once the port may start one (R288, R296). -/
def State.portPps (s : State) (x w : Nat) : State :=
  let s := s.put Reg.PORT_PPS_PPS_V x w
  s.ifDo (s.sinkOn x && (s.get Reg.PORT_STAT_CONTRACT x == 2 || (s.exch x == exSinkMove && s.get Hid.RQ_KIND x == 2)))
    (fun s => if s.mayStart x then s.requestBest x else s.put Hid.PO_PPSV x 1)

end Sys2Proof.Machine
end

