-- ==== Sys2Proof/Machine/Security.lean ====
section
/-! DEFINITION. Lifecycle, debug sessions and test perturbation (R386 to R402): the operations that the power states and the commands share. -/

namespace Sys2Proof.Machine
open Sys2Proof

/- Lifecycle codes: SEC_LC.LC. -/
def lcFab : Nat := 0
def lcDevelop : Nat := 1
def lcField : Nat := 2
def lcReturn : Nat := 3

/-- The lifecycle that the OTP bits LC[2:0] give; other patterns are taken as FIELD (R386). -/
def lcOf (bits : Nat) : Nat :=
  match bits with
  | 0 => lcFab
  | 1 => lcDevelop
  | 7 => lcReturn
  | _ => lcField

/-- The lifecycle that the last boot read from OTP. -/
def State.lc (s : State) : Nat := s.get Reg.SEC_LC_LC 0

/- Sessions: SEC_DBG.SESSION. -/
def ssOpen : Nat := 1
def ssRead : Nat := 2
def ssReturn : Nat := 3
def ssTpert : Nat := 4

def State.session (s : State) : Nat := s.get Reg.SEC_DBG_SESSION 0

/-- The session may write at present (R396); a set grave flag leaves it the writes of R329. -/
def State.dbgWrites (s : State) : Bool := (s.session == ssOpen || s.session == ssTpert) && !s.hold

/-- The session may halt and step and is not read-only at present (R396, R402). -/
def State.dbgFull (s : State) : Bool := s.dbgWrites && !s.grave

/-- The session has TPERT access at present (R396). -/
def State.dbgTpert (s : State) : Bool := ((s.session == ssOpen && s.lc == lcDevelop) || s.session == ssTpert) && !s.hold

/-- The perturbation switches of TP_CTRL. -/
def tpSwitches : List Fld :=
  [Reg.TP_CTRL_SLOT_EN, Reg.TP_CTRL_SE_EN, Reg.TP_CTRL_DBK_EN, Reg.TP_CTRL_GCRC_P0, Reg.TP_CTRL_JIT_EN, Reg.TP_CTRL_LDG_EN, Reg.TP_CTRL_GCRC_P1]

/-- Every perturbation is removed, and one-shots that have not acted are cancelled (R401). -/
def State.tpertOff (s : State) : State :=
  let s := tpSwitches.foldl (fun s f => s.put f 0 0) s
  s.forEach [0, 1, 2, 3] (fun s i => (s.put Hid.MM_ARM i 0).put Hid.CV_TEST i 0)

/-- Every identity halted by debug resumes. -/
def State.unhalt (s : State) : State := s.forEach [0, 1, 2, 3] (fun s i => (s.put Hid.S_HALT i 0).put Hid.S_HALTRQ i 0)

/-- The session ends, and EXTEST with the access it rests on (R395, R396). -/
def State.endSession (s : State) : State := ((s.unhalt.tpertOff).put Reg.SEC_DBG_SESSION 0 0).put Hid.EXT 0 0

/-- HOLD entry at the debug port: halted identities resume, and perturbations and EXTEST end (R396, R398, R401). -/
def State.debugHold (s : State) : State := (s.unhalt.tpertOff).put Hid.EXT 0 0

/-- The nonce is spent (R394). -/
def State.spendNonce (s : State) : State := (s.forEach [0, 1, 2, 3] (fun s i => s.put Reg.SEC_NONCE_NONCE i 0)).put Hid.NONCE_OK 0 0

/- OTP programming (R387, R389): Hid.OTPJOB 1 to 3 a key hash, 4 a lifecycle step. -/

/-- The OTP bits of a lifecycle. -/
def lcBits (lc : Nat) : Nat := 2 ^ lc - 1

/-- The key hash being programmed shows as programmed (R389). -/
def State.hashDone (s : State) : State :=
  (s.setBit Reg.SEC_LC_HASH_SET 0 (s.get Hid.OTPJOB 0 - 1) true).put Hid.OTPJOB 0 0

/-- The lifecycle bit is set in OTP (R387). -/
def State.lcStepped (s : State) : State :=
  (s.put Hid.LCBITS 0 (s.get Hid.LCBITS 0 ||| lcBits (s.get Hid.LCT 0))).put Hid.OTPJOB 0 0

/-- A collapse of VAO cuts programming off: the lifecycle is old or new (R387), and a key hash is a free value, shown as programmed or not
(DESIGN CHOICE, log 3). -/
def State.otpCut (s : State) : State :=
  let job := s.get Hid.OTPJOB 0
  if job == 0 then s
  else
    let d := s.drawFree 1
    let s := d.2
    if job == 4 then s.ifDo (d.1 == 1) State.lcStepped
    else
      let a := s.drawFree 128
      let b := a.2.drawFree 128
      let s := b.2.put Hid.HASH (job - 1) (a.1 + 2 ^ 128 * b.1)
      s.ifDo (d.1 == 1) State.hashDone

/-- The image of the protection map and of the threshold locks is taken as the boot window closes (R62, R133). -/
def State.takeMap (s : State) : State :=
  (s.forEach (List.range 6) (fun s w =>
    (s.put Hid.MAPIMG w (s.get Reg.SEC_PMAP_REGIONS w)).put Hid.LOCKIMG w (s.get Reg.SEC_TLOCK_LOCK w))).put Hid.IMGOK 0 1

/-- The protection map and the threshold locks are loaded again from their image (R62, R133). -/
def State.reloadMap (s : State) : State :=
  s.ifDo (s.is Hid.IMGOK 0) (fun s => s.forEach (List.range 6) (fun s w =>
    (s.put Reg.SEC_PMAP_REGIONS w (s.get Hid.MAPIMG w)).put Reg.SEC_TLOCK_LOCK w (s.get Hid.LOCKIMG w)))

end Sys2Proof.Machine
end

