-- ==== Sys2Proof/Machine/Power.lean ====
section
/-! DEFINITION. Power states (R15 to R46), inputs, BATFET, charger and battery presence (R240 to R268), the loss of the main domain, and the
operation that ends every command. -/

namespace Sys2Proof.Machine
open Sys2Proof

/-- The battery feeds VSYS (PWR_STATE.ON_BATT). -/
def State.onBatt (s : State) : Bool :=
  !s.anyInput && (let b := s.get Reg.PP_STAT_BFET 0; b == bfArmed || b == bfOn || b == bfLinear)

/- Transitions in progress: Hid.TRANS. -/
def trNone : Nat := 0
def trRun : Nat := 1
def trStandby : Nat := 2
def trShip : Nat := 3
def trEmpty : Nat := 4

def State.trans (s : State) : Nat := s.get Hid.TRANS 0

/-- The ship flag holds the BATFET open and the VBAT leg blocked (R16, R266). -/
def State.ship (s : State) : Bool := s.is Reg.BK_STAT_SHIP 0

/-- An input stands in its range, or keeps VAO up through the max-select (R43, R47). -/
def State.anyFeed (s : State) : Bool := [0, 1, 2].any (fun i => s.is Hid.IN_OK i || s.is Hid.IN_PWR i)

/- BATFET (R253, R254). -/

/-- The BATFET must stay OFF. -/
def State.bfetHeld (s : State) : Bool :=
  s.is Hid.BF_LOCK 0 || s.is Hid.BF_SHORT 0 || s.is Reg.PP_STAT_BATT_ABSENT 0 || s.get Reg.PP_STAT_BAT 0 == 3 || s.is Hid.PT_RUN 0 || s.ship

def State.phase (s : State) : Nat := s.get Reg.CHG_STAT_PHASE 0

/-- The charger is in PRECHARGE, FAST or CV. -/
def State.charging (s : State) : Bool := 1 ≤ s.phase && s.phase ≤ 3

/-- The mode that R253 gives a closed BATFET. -/
def State.bfetMode (s : State) : Nat :=
  if s.hold || !s.anyInput then bfOn
  else if s.is Hid.CONV_REL 0 then (if s.get Reg.PP_STAT_BFET 0 == bfOn then bfOn else bfArmed)
  else if s.charging && s.convOn then (if s.is Hid.CHG_LIN 0 then bfLinear else bfOn)
  else bfArmed

/-- The BATFET takes the mode that its situation gives; it is closed only by R254. -/
def State.bfetRefresh (s : State) : State :=
  if s.bfetHeld then s.put Reg.PP_STAT_BFET 0 bfOff
  else if s.get Reg.PP_STAT_BFET 0 == bfOff || s.get Reg.PP_STAT_BFET 0 == bfSoft then s
  else s.put Reg.PP_STAT_BFET 0 s.bfetMode

/-- The closure of R254 begins. -/
def State.bfetClose (s : State) : State :=
  s.ifDo (s.get Reg.PP_STAT_BFET 0 == bfOff && !s.bfetHeld) (fun s => s.put Reg.PP_STAT_BFET 0 bfSoft)

/-- A BAT_GO (R254, R265). -/
def State.batGo (s : State) : State :=
  if s.is Hid.PT_RUN 0 || s.ship || (s.anyInput && !s.batPresent) then s.flag Reg.PP_EVT_BAT_CMD_BAD 0 1
  else ((s.put Hid.BF_LOCK 0 0).put Hid.BF_SHORT 0 0).bfetClose

/- The charger (R255 to R259). -/

/-- CHG_STAT.TEMP (R257): 0 normal, 1 cool, 2 warm, 3 charging inhibited. -/
def State.chgTemp (s : State) : Nat :=
  let c := s.get Reg.CHG_LIM_NTC_CH 0
  if 191 < c then (if s.is Reg.CHG_LIM_NTC_REQ 0 then 3 else 0)
  else if s.is Reg.CH_DATA_STALE c then 3
  else match s.get Reg.CH_DATA_ZONE c with
    | 0 => 0
    | 1 => 1
    | 3 => 2
    | _ => 3

/-- CHG_STAT.INH (R255, R266). -/
def State.inhibit (s : State) : Nat :=
  (if s.is Reg.PP_CTRL_CHG_EN 0 then 0 else 1) + (if s.active then 0 else 2) + (if s.batPresent then 0 else 4) +
    (if s.chgTemp == 3 then 8 else 0) + (if s.cur == 4 || s.ship then 16 else 0)

/-- The charge voltage per cell in force in mV: 100 mV lower while warm (R257). -/
def State.vregNow (s : State) : Nat := s.vreg - (if s.chgTemp == 2 then 100 else 0)

/-- The charge current is halved, cool or warm (R257). -/
def State.chgHalf (s : State) : Bool := s.chgTemp == 1 || s.chgTemp == 2

/-- The charge current in mA, at 1 mΩ, that the phase and the temperature give (R255, R257). -/
def State.chgMa (s : State) : Rat :=
  match s.phase with
  | 1 => (50 * s.ipre : Nat)
  | 2 => (50 * s.ichg : Nat) / (if s.chgHalf then 2 else 1)
  | 3 => (50 * s.ichg : Nat) / (if s.chgHalf then 2 else 1)
  | _ => 0

/-- What the converter regulates to: nothing, VSYS in mV, or a charge current in mA up to a battery voltage in mV. -/
inductive ConvTarget where
  | off
  | vsys (mv : Nat)
  | charge (ma : Rat) (mv : Nat)
  deriving DecidableEq, Repr

/-- The converter's target at a battery voltage in mV (R253); in HOLD the charge current is 0. -/
def State.convTarget (s : State) (vbat : Nat) : ConvTarget :=
  if !s.convOn then .off
  else match s.get Reg.PP_STAT_BFET 0 with
    | 2 => .vsys (max s.vsysMin (vbat + 150))
    | 3 => .charge (if s.hold then 0 else s.chgMa) (s.cells * s.vregNow)
    | _ => .vsys s.vsysMin

/-- The charge current in mA that the BATFET regulates in LINEAR: LIN_PMAX / (VSYS - VBAT) limits it further (R253); voltages in mV. -/
def State.linearMa (s : State) (vbat vsys : Nat) : Rat :=
  if vsys ≤ vbat then s.chgMa else min s.chgMa (500000 * (max 1 (s.get Reg.CHG_LIM_LIN_PMAX 0) : Nat) / (vsys - vbat : Nat))

/-- A change of the charge phase (R255); FLT_WHY tells why the charger is in FAULT. The timers of R258 restart on entry to PRECHARGE from a phase
other than INHIBIT, and as FAULT is left (DESIGN CHOICE, log 69: else a timer that has expired would end every later charge). -/
def State.setPhase (s : State) (p why : Nat) : State :=
  if s.phase == p then s
  else
    let s := s.ifDo (s.phase == 5 || (p == 1 && s.phase != 0)) (fun s => (s.put Hid.CHG_PRE_T 0 0).put Hid.CHG_SAFE_T 0 0)
    let s := ((s.put Reg.CHG_STAT_PHASE 0 p).put Reg.CHG_STAT_FLT_WHY 0 why).irq 59
    s.ifDo (p == 5) (fun s => s.raise 92)

/-- The charger in FAULT with a cause. -/
def State.chgFault (s : State) (why : Nat) : State := s.setPhase 5 why

/-- PRE_TMO in µs, and SAFE_TMO in half µs (R258). -/
def State.preTmo (s : State) : Nat := 60000000 * max 1 (s.get Reg.CHG_TMR_PRE_TMO 0)
def State.safeTmo (s : State) : Nat := 1800000000 * max 1 (s.get Reg.CHG_TMR_SAFE_TMO 0)

/-- Half µs that SAFE_TMO counts in each µs: half rate while R257 or R250 has cut the charge current, which the input limit does while it holds the
converter in regulation (R258; DEDUCED, log 69). -/
def State.safeRate (s : State) : Nat := if s.chgHalf || s.is Reg.PP_STAT_SUPPL 0 || s.is Hid.CHG_CUT 0 then 1 else 2

/-- The charge timers over d µs (R258): they count in PRECHARGE, and in FAST and CV; the expiry of one is a FAULT. -/
def State.chgTime (s : State) (d : Nat) : State :=
  match s.phase with
  | 1 => let t := s.get Hid.CHG_PRE_T 0 + d
    (s.put Hid.CHG_PRE_T 0 t).ifDo (s.preTmo ≤ t) (fun s => s.chgFault 1)
  | 2 => let t := s.get Hid.CHG_SAFE_T 0 + s.safeRate * d
    (s.put Hid.CHG_SAFE_T 0 t).ifDo (s.safeTmo ≤ t) (fun s => s.chgFault 2)
  | 3 => let t := s.get Hid.CHG_SAFE_T 0 + s.safeRate * d
    (s.put Hid.CHG_SAFE_T 0 t).ifDo (s.safeTmo ≤ t) (fun s => s.chgFault 2)
  | _ => s

/-- The phase after INHIBIT, from VBAT in mV (R255). -/
def State.phaseFrom (s : State) (vbat : Nat) : State :=
  let s := s.mark Hid.CHG_LIN 0 (vbat < s.vsysMin)
  if vbat < s.cells * s.vpre then s.setPhase 1 0
  else if vbat ≤ s.cells * (s.vregNow - s.vrechg) then s.setPhase 2 0
  else s.setPhase 4 0

/-- An inhibit cause moves the charger to INHIBIT; a battery found ABSENT ends FAULT (R255). In a reset the phase is kept (R267). -/
def State.chargeCheck (s : State) : State :=
  if !s.up then s
  else if s.phase == 5 then s.ifDo (s.get Reg.PP_STAT_BAT 0 == 2) (fun s => s.setPhase 0 0)
  else s.ifDo (s.phase != 0 && s.inhibit != 0) (fun s => s.setPhase 0 0)

/-- FAULT is left by CHG_CLR (R255); while a cell tap still reads too high it is entered again at once (R268). -/
def State.chgClr (s : State) : State :=
  if s.phase != 5 then s
  else
    let s := s.setPhase 0 0
    s.ifDo (s.get Hid.CELLHI2 0 == 2) (fun s => s.chgFault 3)

/- The presence test (R260 to R263). -/

/-- A presence test begins; it never runs on the battery or in SHIP_PEND (R260, R266). -/
def State.ptStart (s : State) : State :=
  s.ifDo (!s.onBatt && !s.is Hid.PT_RUN 0 && s.cur != 4)
    (fun s => ((((s.put Hid.PT_PREV 0 (s.get Reg.PP_STAT_BFET 0)).put Hid.PT_RUN 0 1).put Hid.PT_RE 0 0).put Reg.PP_STAT_BFET 0 bfOff).stepCut)

/-- What a test's measurements show: 1 PRESENT, 2 ABSENT, 3 SHORT (R260). -/
def State.ptResult (s : State) (r : PresenceResult) : Nat :=
  if s.cells * 1000 ≤ r.v2 then (if r.v1 ≤ r.v2 + 300 then 1 else 2)
  else if r.rose then 2
  else if s.cells * 100 ≤ r.vEnd then 1 else 3

/-- The gauge and the BATFET on an absent battery (R263, R317). -/
def State.batGone (s : State) : State :=
  (((s.put Reg.PP_STAT_BAT 0 2).put Reg.PP_STAT_BATT_ABSENT 0 1).put Reg.PP_STAT_BFET 0 bfOff).gaugeFreeze

/-- The end of a presence test (R260, R261, R263, R254): a battery found SHORT stays so unless a RETEST finds it otherwise. -/
def State.ptEnd (s : State) (res : Nat) : State :=
  let s := (s.put Hid.PT_RUN 0 0).stepCut
  match (if s.get Reg.PP_STAT_BAT 0 == 3 && !s.is Hid.PT_RE 0 then 3 else res) with
  | 1 =>
    let back := s.is Reg.PP_STAT_BATT_ABSENT 0
    let s := ((s.put Reg.PP_STAT_BAT 0 1).put Reg.PP_STAT_BATT_ABSENT 0 0).put Hid.BF_LOCK 0 0
    let s := s.ifDo back (fun s => (s.flag Reg.PP_EVT_BAT_INSERT 0 1).gaugeRestart)
    if s.get Hid.PT_PREV 0 == bfOff || s.get Hid.PT_PREV 0 == bfSoft then s.bfetClose
    else (s.put Reg.PP_STAT_BFET 0 bfArmed).bfetRefresh
  | 2 => s.batGone
  | _ => (((s.put Reg.PP_STAT_BAT 0 3).put Reg.PP_STAT_BFET 0 bfOff).flag Reg.PP_EVT_BAT_SHORT 0 1).raise 89

/- Power states. -/

/-- A crier that does not work shows no output. -/
def State.crierIdle (s : State) (c : Nat) : State :=
  let s := ((s.put Reg.CR_STAT_OUT_HI c 0).put Reg.CR_STAT_OUT_LO c 0).put Hid.CR_BLANK c 0
  (s.put Hid.CR_HHI c 0).put Hid.CR_HLO c 0

/-- Criers without STBY_EN are unpowered as the part comes to STANDBY (R129). -/
def State.criersRest (s : State) : State :=
  (s.forEach (List.range 16) (fun s c => s.put Hid.CR_OFF c 0)).forEach (below 16 (fun c => !s.is Reg.CR_CFG_STBY_EN c)) State.crierIdle

/-- The part enters STANDBY or SHIP_PEND: V and W fields return to their reset values (R60), the protection map is loaded again (R62), the quiet
periods of converters end with their fences (R123), criers without STBY_EN are unpowered (R129), and the bursts are timed afresh (R27). -/
def State.toStandby (s : State) (c : Nat) : State :=
  let s := (((s.drop .v).drop .w).reloadMap).criersRest
  let s := s.forEach [52, 53, 54, 55] (fun s u => s.put Reg.LS_STAT_QUIET u 0)
  let s := ((s.put Reg.PWR_STATE_CUR 0 c).put Reg.PWR_STATE_RIDE_READY 0 0).put Hid.CHG_ONCE 0 0
  (s.put Hid.BURST_ANY 0 0).mark Hid.BURST_NOW 0 (s.is Reg.STBY_CFG_SCAN_P 0)

/-- A transition ends in STANDBY or SHIP_PEND; a part that is in STANDBY already enters nothing (R15, R60). -/
def State.rest (s : State) (c : Nat) : State :=
  (if s.standby then s.put Reg.PWR_STATE_CUR 0 c else s.toStandby c).put Hid.TRANS 0 trNone

/-- HOLD comes into force (R39, R40, R293, R398); the input lost, 0 for a RUN request. -/
def State.enterHold (s : State) (lost : Nat) : State :=
  let s := (((s.put Reg.PWR_STATE_CUR 0 3).put Reg.PWR_STATE_RIDE_READY 0 0).put Hid.DWELL_DONE 0 0).put Hid.HOLD_T0 0 s.usec
  (((s.irq 43).record tyHoldEntry 255 255 (leBytes 1 lost)).portsHold).debugHold

/-- HOLD ends in ACTIVE (R40). -/
def State.backToActive (s : State) : State :=
  let ms := (s.usec - s.get Hid.HOLD_T0 0) / 1000
  let s := (s.put Reg.PWR_STATE_CUR 0 2).irq 44
  (s.record tyInputBack 255 255 (leBytes 1 (s.get Reg.PP_STAT_SEL 0) ++ leBytes 4 ms)).portsActive

/-- The steps of R33 (SHIP) or R42 (HOLD_EMPTY) begin: every rail is shut down in reverse order. -/
def State.startSteps (s : State) (k : Nat) : State :=
  (((s.put Hid.TRANS 0 k).put Hid.TSTEP 0 1).put Reg.KPR_STAT_PEND_ON 0 0).shutdown

/-- A battery too empty: the steps of R42. Where a RUN or STANDBY transition runs, they begin when it ends, in place of a request that it holds, and
a later request is not held (DESIGN CHOICE, log 57: R24 speaks of requests only). -/
def State.batteryEmpty (s : State) : State :=
  if s.trans == trNone then s.startSteps trEmpty
  else s.ifDo (s.trans == trRun || s.trans == trStandby) (fun s => s.put Hid.HELDREQ 0 14)

/-- A refused request (R23). -/
def State.pwrRefuse (s : State) : State := (s.put Reg.PWR_STATE_REQ_REFUSED 0 1).irq 45

/-- SHIP_PEND ends by CANCEL or the button (R34, R266). -/
def State.shipCancel (s : State) : State := ((s.put Reg.BK_STAT_SHIP 0 0).put Reg.PWR_STATE_CUR 0 1).ptStart

/-- The Keeper has a sequence in progress. -/
def State.sequencing (s : State) : Bool := s.kp == kpRising || s.kp == kpFalling || !s.branch.isEmpty

/-- A request acted on (R23). In the safe boot state the part stays in STANDBY with BOOTING = 1 (R32, R65): RUN is refused and STANDBY changes
nothing (DEDUCED, log 39). -/
def State.pwrAct (s : State) (req : Nat) : State :=
  match req with
  | 1 =>
    if s.standby then s.ifDo (!s.is Hid.SAFE 0) (fun s => s.put Reg.PWR_STATE_BOOTING 0 0)
    else if s.anyLoop || s.sequencing then s.pwrRefuse
    else (s.put Reg.PWR_STATE_BOOTING 0 0).put Hid.TRANS 0 trStandby
  | 2 =>
    if s.cur == 1 && (s.anyInput || s.batAvail) && !s.is Hid.SAFE 0 then (((s.put Reg.PWR_STATE_BOOTING 0 0).put Hid.TRANS 0 trRun).demand).reloadMap
    else s.pwrRefuse
  | 5 => if s.cur == 4 then s else (s.forEach [0, 1] State.stopSource).startSteps trShip
  | 6 => if s.cur == 4 then s.shipCancel else s.pwrRefuse
  | 14 => s.startSteps trEmpty
  | _ => s

/-- A request written to PWR_REQ.REQ: 0 has no effect, an undefined one sets REQ_BAD (R22), and one that arrives during a transition is held (R24). -/
def State.pwrReq (s : State) (req : Nat) : State :=
  if req == 0 then s
  else if !(req == 1 || req == 2 || req == 5 || req == 6) then s.put Reg.PWR_STATE_REQ_BAD 0 1
  else if s.trans != trNone then s.ifDo (s.get Hid.HELDREQ 0 != 14) (fun s => s.put Hid.HELDREQ 0 req)
  else s.pwrAct req

/-- The held request is acted on once no transition runs (R24). -/
def State.pwrHeld (s : State) : State :=
  if s.trans != trNone || s.get Hid.HELDREQ 0 == 0 then s else (s.put Hid.HELDREQ 0 0).pwrAct (s.get Hid.HELDREQ 0)

/- Inputs (R240 to R252). -/

/-- PP_SRCH's settings as they act, in 50 mA. -/
def State.iinMax (s : State) : Nat := max 1 (min 500 (s.get Reg.PP_SRCH_IIN_MAX 0))
def State.iinStart (s : State) : Nat := min (max 1 (s.get Reg.PP_SRCH_IIN_START 0)) s.iinMax
def State.iinStep (s : State) : Nat := max 1 (s.get Reg.PP_SRCH_IIN_STEP 0)

/-- PP_DCIN's thresholds in 100 mV as they act (R240). -/
def State.dcQmin (s : State) : Nat := max 60 (min 300 (s.get Reg.PP_DCIN_QMIN 0))
def State.dcLoss (s : State) : Nat := max 55 (min (s.dcQmin - 5) (s.get Reg.PP_DCIN_LOSS 0))
def State.dcOv (s : State) : Nat := max 120 (min 400 (s.get Reg.PP_DCIN_OV 0))

/-- The search of R249 starts at its starting limit. -/
def State.searchStart (s : State) : State :=
  ((s.put Reg.PP_ILIM_IIN_LIM 0 s.iinStart).put Hid.SR_QUIET 0 0).put Reg.PP_STAT_SRCH_END 0 0

/-- An input is selected: its switch closes, the converter runs, and it is in SEARCH (R242, R252). -/
def State.selectInput (s : State) (i : Nat) : State :=
  let s := ((s.put Reg.PP_STAT_SEL 0 (i + 1)).setInSt i inSearch).put Hid.IN_SW i 1
  ((s.put Hid.CONV_ON 0 1).put Hid.CONV_REL 0 0).searchStart

/-- An input becomes qualified: the flag that awaits it is cleared (R35, R43, R68), STANDBY reports it (R30), HOLD may end (R40), and the first one
since the cold reset starts a presence test (R260). -/
def State.qualify (s : State) (i : Nat) : State :=
  let was := s.anyInput
  let s := s.put Hid.IN_QUAL i 1
  let s := s.ifDo (s.get Hid.RAISER 0 == i + 1)
    (fun s => ((s.put Reg.BK_STAT_SHIP 0 0).put Reg.BK_STAT_EMPTY 0 0).put Hid.RAISER 0 0)
  let s := s.ifDo (s.standby && !was) (fun s => s.irq 47)
  let s := s.ifDo (s.hold && s.is Hid.DWELL_DONE 0 && s.trans == trNone) State.backToActive
  (s.ifDo (!s.is Hid.FIRSTQ 0) (fun s => (s.put Hid.FIRSTQ 0 1).ptStart)).bfetRefresh

/-- The selected input's switch opens and the converter is off; the input takes a state. -/
def State.openInput (s : State) (i st : Nat) : State :=
  let s := (((s.put Hid.IN_SW i 0).put Hid.IN_QUAL i 0).put Reg.PP_STAT_SEL 0 0).setInSt i st
  let s := (((s.put Hid.CONV_ON 0 0).put Hid.CONV_REL 0 0).put Reg.PP_STAT_SUPPL 0 0).put Reg.PP_STAT_SRCH_END 0 0
  (((s.put Reg.PP_ILIM_IIN_LIM 0 0).put Hid.SR_QUIET 0 0).put Hid.UPG_HELD 0 0).put Hid.CHG_CUT 0 0

/-- VSYS is no longer fed (R432): the outputs are released and the part is in STANDBY; the steps of R33 or R42 go on to their end (R24). -/
def State.noBatteryLoss (s : State) : State :=
  ((s.release false).toStandby 1).ifDo (s.trans == trStandby) (fun s => s.put Hid.TRANS 0 trNone)

/-- What follows once the selected input's switch has opened (R244): the battery takes VSYS, or another READY input is selected at once, or R39 and
R432 act. A presence test in progress is abandoned, and the battery then takes VSYS only where it was PRESENT (R268). -/
def State.afterLoss (s : State) (i : Nat) (was : Bool) : State :=
  let cut := s.is Hid.PT_RUN 0
  let s := s.ifDo (s.is Hid.PT_RUN 0) (fun s => (s.put Hid.PT_RUN 0 0).put Reg.PP_STAT_BFET 0 (s.get Hid.PT_PREV 0))
  let old := s.get Hid.UPG_OLD 0
  let next := if old != 0 && s.inSt (old - 1) == inReady then some (old - 1) else s.bestReady
  let s := s.put Hid.UPG_OLD 0 0
  if s.batAvail && (!cut || s.batPresent) then
    let s := s.put Reg.PP_STAT_BFET 0 bfOn
    let s := s.ifDo (was && s.active) (fun s => s.enterHold (i + 1))
    let s := s.ifDo (was && s.standby) (fun s => s.irq 46)
    match next with
    | none => s
    | some j => s.selectInput j
  else match next with
    | some j => (s.selectInput j).qualify j
    | none => s.ifDo (was && s.active) State.noBatteryLoss

/-- A loss of the selected input registered (R243). -/
def State.lostInput (s : State) (i st : Nat) : State :=
  let was := s.qualified i
  ((((s.flag Reg.PP_EVT_LOSS 0 1).raise 88).stepCut).openInput i st).afterLoss i was

/-- The input is no longer READY: its held upgrade is off (R242). -/
def State.notReady (s : State) (i : Nat) : State := s.ifDo (s.get Hid.UPG_HELD 0 == i + 1) (fun s => s.put Hid.UPG_HELD 0 0)

/-- The end of a port's sink contract or Type-C level (R243): a loss where the port is selected; the input is without its level. -/
def State.portEnds (s : State) (x : Nat) : State :=
  let i := x + 1
  let s := (s.put Hid.IN_OK i 0).put Hid.IN_PWR i 0
  if s.sel == some i then s.lostInput i inAbsent else (s.setInSt i inAbsent).notReady i

/-- No input is selected and one is READY: it is selected (R242). -/
def State.selectNext (s : State) : State :=
  match s.sel, s.bestReady with
  | none, some j => s.selectInput j
  | _, _ => s

/-- An input has a higher priority than another (R242). -/
def State.higher (s : State) (i j : Nat) : Bool := s.prio.idxOf i < s.prio.idxOf j

/-- An upgrade to an input (R247). -/
def State.upgrade (s : State) (i : Nat) : State :=
  match s.sel with
  | none => s
  | some j =>
    let s := ((s.put Hid.IN_SW j 0).put Hid.IN_QUAL j 0).setInSt j inReady
    (((s.selectInput i).put Hid.UPG_OLD 0 (j + 1)).put Reg.PP_STAT_SUPPL 0 1).qualify i

/-- The input may take the selection over (R242). -/
def State.mayUpgrade (s : State) (i : Nat) : Bool :=
  match s.sel with
  | none => false
  | some j => s.is Reg.PP_CFG_UPGRADE 0 && s.batAvail && s.active && s.inSt i == inReady && s.higher i j

/-- An upgrade due while a search runs is held (R268): that of the highest priority. -/
def State.holdUpgrade (s : State) (i : Nat) : State :=
  let h := s.get Hid.UPG_HELD 0
  s.ifDo (h == 0 || s.higher i (h - 1)) (fun s => s.put Hid.UPG_HELD 0 (i + 1))

/-- The input enters FEED and is qualified; an upgrade held for the search runs (R241, R249, R252, R268). -/
def State.feed (s : State) (i : Nat) : State :=
  let s := (s.setInSt i inFeed).put Hid.UPG_OLD 0 0
  let s := s.ifDo (!s.qualified i) (fun s => s.qualify i)
  let h := s.get Hid.UPG_HELD 0
  let s := s.put Hid.UPG_HELD 0 0
  s.ifDo (h != 0 && s.mayUpgrade (h - 1)) (fun s => s.upgrade (h - 1))

/-- The search ends with a result: 1 MAX, 2 SAT, 3 DIP (R249). -/
def State.searchEnd (s : State) (res : Nat) : State :=
  (((s.put Reg.PP_STAT_SRCH_END 0 res).flag Reg.PP_EVT_SRCH_DONE 0 1).irq 57).feed 0

/-- A dip lowers the limit by two steps, to IIN_START at least (R249, R251). -/
def State.dipLimit (s : State) : State :=
  s.put Reg.PP_ILIM_IIN_LIM 0 (max s.iinStart (s.get Reg.PP_ILIM_IIN_LIM 0 - 2 * s.iinStep))

/-- One step of the search (R249): whether a dip occurred, and whether the converter was in regulation. -/
def State.searchStep (s : State) (dip inReg : Bool) : State :=
  let lim := s.get Reg.PP_ILIM_IIN_LIM 0
  if dip then s.dipLimit.searchEnd 3
  else if lim == s.iinMax then s.searchEnd 1
  else if inReg then (s.put Reg.PP_ILIM_IIN_LIM 0 (min (lim + s.iinStep) s.iinMax)).put Hid.SR_QUIET 0 0
  else
    let q := s.get Hid.SR_QUIET 0 + 1
    let s := s.put Hid.SR_QUIET 0 q
    s.ifDo (q == 4) (fun s => s.searchEnd 2)

/-- One step in the background, after a SAT or MAX result (R251). -/
def State.searchBack (s : State) (dip whole : Bool) : State :=
  if dip then s.dipLimit.put Reg.PP_STAT_SRCH_END 0 3
  else s.ifDo (whole && (s.get Reg.PP_STAT_SRCH_END 0 == 1 || s.get Reg.PP_STAT_SRCH_END 0 == 2))
    (fun s => s.put Reg.PP_ILIM_IIN_LIM 0 (min (s.get Reg.PP_ILIM_IIN_LIM 0 + s.iinStep) s.iinMax))

/-- SRCH_GO (R251): the search restarts on the selected DCIN, which stays qualified. -/
def State.searchAgain (s : State) : State :=
  s.ifDo (s.sel == some 0 && (s.inSt 0 == inFeed || s.inSt 0 == inSearch)) (fun s => (s.setInSt 0 inSearch).searchStart)

/-- RETEST (R241, R260): an input in FAULT is free again, and a presence test runs. -/
def State.retest (s : State) : State :=
  let s := (s.forEach [0, 1, 2] (fun s i => s.ifDo (s.inSt i == inFault)
    (fun s => s.setInSt i (if s.is Hid.IN_OK i then inDebounce else inAbsent)))).ptStart
  s.ifDo (s.is Hid.PT_RUN 0) (fun s => s.put Hid.PT_RE 0 1)

/-- PP_CFG was written: inputs now disabled that are not selected are ABSENT, and inputs now enabled and in range debounce (R241). -/
def State.inputsCfg (s : State) : State :=
  s.forEach [0, 1, 2] (fun s i =>
    if s.sel == some i then s
    else if !s.inEn i then (s.setInSt i inAbsent).notReady i
    else s.ifDo (s.inSt i == inAbsent && s.is Hid.IN_OK i) (fun s => s.setInSt i inDebounce))

/- The steps of R33 and R42. -/

/-- The record of step 3: SHIP_ENTRY or HOLD_EMPTY (R160). -/
def State.stepsRecord (s : State) : State :=
  if s.trans == trShip then s.record tyShipEntry 255 255 (leBytes 1 s.grave.toNat)
  else s.record tyHoldEmpty 255 255 (leBytes 4 (s.get Reg.GG_Q_Q_U 0) ++ leBytes 2 s.vbatMv)

/-- The record type of step 3. -/
def State.stepsTy (s : State) : Nat := if s.trans == trShip then tyShipEntry else tyHoldEmpty

/-- Step 4: the flag is set, which blocks the VBAT leg, and the BATFET opens. An input back before step 4 of R42 keeps the part in STANDBY (R43); an
input present at the end of R33 makes SHIP_PEND (R33 step 5). -/
def State.stepsFour (s : State) : State :=
  if s.trans == trEmpty && s.anyFeed then s.rest 1
  else
    let s := s.put (if s.trans == trShip then Reg.BK_STAT_SHIP else Reg.BK_STAT_EMPTY) 0 1
    let s := ((s.put Hid.BF_LOCK 0 1).put Reg.PP_STAT_BFET 0 bfOff).put Hid.TSTEP 0 5
    s.ifDo (s.trans == trShip && s.anyFeed) (fun s => s.rest 4)

/-- The steps go on as far as they can: 1 shutdown, 2 state record due, 3 it is being written, 4 the Daybook record is being written, 5 done. -/
def State.stepsGo (s : State) : State :=
  if s.trans != trShip && s.trans != trEmpty then s
  else
    let s := s.ifDo (s.get Hid.TSTEP 0 == 1 && s.kp == kpOff) (fun s => s.put Hid.TSTEP 0 2)
    let s := s.ifDo (s.get Hid.TSTEP 0 == 2 && s.gauge.writing == 0) (fun s =>
      if s.jrnlOk then (s.put Hid.TSTEP 0 3).jrnlStart 2
      else ((s.flag Reg.GG_STAT_WR_SKIP 0 1).put Hid.TSTEP 0 4).stepsRecord)
    let s := s.ifDo (s.get Hid.TSTEP 0 == 3 && s.gauge.writing == 0) (fun s => (s.put Hid.TSTEP 0 4).stepsRecord)
    s.ifDo (s.get Hid.TSTEP 0 == 4 && !s.staging.any (fun r => r.ty == s.stepsTy)) State.stepsFour

/-- RIDE_READY (R44) and its fall in ACTIVE. Outside ACTIVE it reads 0, and leaving ACTIVE raises nothing by it (DESIGN CHOICE, log 58). -/
def State.rideCheck (s : State) : State :=
  let now := s.active && s.rideOk
  let was := s.is Reg.PWR_STATE_RIDE_READY 0
  (s.mark Reg.PWR_STATE_RIDE_READY 0 now).ifDo (was && !now && s.active) (fun s => s.raise 94)

/-- The shutdown of a warm reset ends: the ROM boot stage is due (R57, R63), unless an ordering breach holds the part in reset (R51). -/
def State.warmDone (s : State) : State :=
  s.ifDo (s.get Hid.MAIN 0 == 1 && s.is Hid.WARM 0 && s.kp == kpOff && !s.is Hid.ORD_HOLD 0) (fun s => (s.put Hid.WARM 0 0).put Hid.MAIN 0 2)

/-- What follows at once from the state a command leaves. -/
def State.progress (s : State) : State :=
  if !s.vao then s
  else
    let s := (s.forEach [0, 1] State.portFree).chargeCheck.warmDone
    let s := s.ifDo (s.hold && s.is Reg.GG_STAT_EMPTY 0 && s.trans == trNone) State.batteryEmpty
    (s.stepsGo.pwrHeld.rideCheck).ifDo s.up State.bfetRefresh

/-- The end of every command that may raise an event or move a block: events are registered, and what follows from them comes about. -/
def State.finish (s : State) : State := (((s.settle.progress).settle).progress).settle

/-- The outcome of a command. -/
def ended (s : State) : Out := .next s.finish

/- The loss of the main domain (R25, R154, R333). -/

/-- The words of the unit write in progress, which fall in the unit of the oldest one, and the others (R409). -/
def State.queueSplit (s : State) : List (Nat × Word) × List (Nat × Word) :=
  match s.nvmq with
  | [] => ([], [])
  | h :: _ =>
    let p := (s.nvmq.take (s.get Hid.Q_CNT 0)).partition (fun e => e.1 / 64 == h.1 / 64)
    (p.1, p.2 ++ s.nvmq.drop (s.get Hid.Q_CNT 0))

/-- A unit write of the window queue: its words are stored and leave the queue; a failed read-back leaves free values (R409). -/
def State.queueUnit (s : State) (ok : Bool) : State :=
  let p := s.queueSplit
  let s := ({ s with nvmq := p.2 }.put Hid.NVM_JOB 0 0).put Hid.NVM_TURN 0 0
  match p.1 with
  | [] => s
  | h :: _ =>
    let m := p.1.foldl (fun m e => storeWord m e.1 e.2) s.nvm
    let a := h.1 / 64 * 64
    { s with nvm := m }.writeUnit a (bytesAt m a 64) ok

/-- The write of a journal record ends (R312). -/
def State.journalDone (s : State) (ok : Bool) : State :=
  let s := s.writeUnit (jrnlAddr s.jrnlSlot) s.gauge.image ok
  ({ s with gauge := { s.gauge with writing := 0, image := [] } }.put Hid.NVM_JOB 0 0).nvmNext

/-- A journal write cut off by collapse: its slot holds free bytes whose CRC is wrong (R313; DESIGN CHOICE, log 3). -/
def State.journalCut (s : State) : State :=
  let r := s.freeBytes 60
  { r.2 with nvm := storeBytes r.2.nvm (jrnlAddr r.2.jrnlSlot) (r.1 ++ leBytes 4 (Nat.xor (crc32 r.1) 1)) }

/-- The NVM unit in progress completes on the hold capacitor (R154, R410). -/
def State.unitEnds (s : State) : State :=
  match s.get Hid.NVM_JOB 0 with
  | 1 => s.journalCut
  | 2 => (s.daybookUnit true).2
  | 3 => s.queueUnit true
  | _ => s

/-- The backup domain resets (R333). -/
def State.domainReset (s : State) : State :=
  { (((s.drop .k).put Hid.DOM_ON 0 0).put Hid.ON_VBKUP 0 0) with bkq := [] }

/-- The ports as they stand without their logic (R67): the dead-battery clamp is on, and no own termination. -/
def State.portsClamp (s : State) : State := s.forEach [0, 1] (fun s x => (s.put Hid.PO_CLAMP x 1).put Hid.PO_RD x 0)

/-- The main domain is without power: what it held is lost, a write under way to the backup domain included (R343), and the part is in SHIP, BACKUP or OFF; by a completed exit or a collapse (R36, R38). -/
def State.mainDown (s : State) (completed : Bool) : State :=
  let s := ((s.otpCut.release true).unitEnds).loseStaging
  let s := (((((s.drop .v).drop .w).drop .s).drop .l).drop .m).drop .a
  let s := { s with nvmq := [], mail := [], evq := [], bkq := [], imem := [], sdata := [], gauge := Gauge.reset, comp := State.reset.comp, bal := State.reset.bal, out := [] }
  let s := (((s.put Hid.MAIN 0 0).put Hid.WARM 0 0).put Hid.FCLK 0 0).portsClamp
  let s := ((s.put Reg.RTC_TRIM_SRC 0 0).put Reg.WAKE_CAUSE_PREV 0 (if s.ship then 5 else 6)).mark Reg.WAKE_CAUSE_COLLAPSE 0 (!completed)
  if s.is Hid.VBKUP_OK 0 then s.put Hid.ON_VBKUP 0 1 else s.domainReset

/-- The SHIP or HOLD_EMPTY steps are done and the part awaits the fall of VAO: its loss then is a completed exit (R33, R34, R42). -/
def State.exitDone (s : State) : Bool := s.cur == 4 || (s.trans != trNone && s.get Hid.TSTEP 0 == 5)

end Sys2Proof.Machine
end

