-- ==== Sys2Proof/Machine/Reset.lean ====
section
/-! DEFINITION. Resets and start-up (R47 to R69): causes, cold and warm resets, the RESET record, slot verification, the ROM boot stage and the end
of the boot window. -/

namespace Sys2Proof.Machine
open Sys2Proof

/-- Every unit of a field at its reset value. -/
def State.rstFld (s : State) (f : Fld) : State := s.forEach (List.range f.count) (fun s n => s.put f n (f.dflt n))

/-- The cause bits of RST_CAUSE. -/
def causeFlds : List Fld :=
  [Reg.RST_CAUSE_POR, Reg.RST_CAUSE_BOR, Reg.RST_CAUSE_PIN, Reg.RST_CAUSE_HOST, Reg.RST_CAUSE_WDT, Reg.RST_CAUSE_STALL]

/-- The fields of WAKE_CAUSE. -/
def wakeFlds : List Fld :=
  [Reg.WAKE_CAUSE_PWRBTN, Reg.WAKE_CAUSE_DCIN, Reg.WAKE_CAUSE_VBUS0, Reg.WAKE_CAUSE_VBUS1, Reg.WAKE_CAUSE_VBAT, Reg.WAKE_CAUSE_ALARM,
   Reg.WAKE_CAUSE_ALARM_NOSRC, Reg.WAKE_CAUSE_COLLAPSE, Reg.WAKE_CAUSE_PREV]

/-- RST_CAUSE is rewritten at the start of a reset (R58). -/
def State.clearCauses (s : State) : State := (causeFlds.foldl (fun s f => s.put f 0 0) s).put Reg.RST_CAUSE_BOR_SRC 0 0

/- Identities and pairs (R213, R229). -/

/-- The pair that carries an identity. -/
def State.phys (s : State) (st : Nat) : Nat := s.get Reg.STL_STAT_PHYS st

/-- A pair is fenced. -/
def State.pairFenced (s : State) (p : Nat) : Bool := s.bit Reg.STL_SPARE_FENCED 0 p

/- Identity states: STL_STATs.STATE. -/
def slStopped : Nat := 0
def slRun : Nat := 1
def slWait : Nat := 2
def slHalt : Nat := 3
def slFault : Nat := 4
def slTakeover : Nat := 5
def slAbsent : Nat := 6

def State.sl (s : State) (st : Nat) : Nat := s.get Reg.STL_STAT_STATE st

def State.setSl (s : State) (st v : Nat) : State := s.put Reg.STL_STAT_STATE st v

/-- The architectural state of an identity at its reset values, but for ISN (R161, R230); PC is its entry point. -/
def State.archReset (s : State) (st : Nat) : State :=
  let s := s.forEach (List.range 16) (fun s r => s.put Hid.S_R (16 * st + r) 0)
  let s := s.forEach (List.range 8) (fun s d => s.put Hid.S_CS (8 * st + d) 0)
  let s := (((s.put Hid.S_Z st 0).put Hid.S_N st 0).put Hid.S_C st 0).put Hid.S_V st 0
  let s := (((s.put Hid.S_REF st 0).put Hid.S_CSD st 0).put Hid.S_WDL st 0).put Hid.S_WDLV st 0
  (s.put Hid.S_WKIND st 0).put Hid.S_PC st (s.get Hid.S_ENT st)

/-- A reset's effect on the stalls: every identity is stopped or absent, with the reset state of R161, its records at the completers gone. -/
def State.stallsReset (s : State) : State :=
  let s := s.forEach [0, 1, 2, 3] (fun s st =>
    let s := (((s.archReset st).put Hid.S_ISN st 0).put Hid.S_WDC st 0).put Hid.S_HELD st 0
    let s := (s.put Hid.S_SHBAD st 0).put Hid.S_PREV st 0
    s.setSl st (if s.pairFenced (s.phys st) then slAbsent else slStopped))
  (s.rstFld Hid.CP_V).put Hid.S_REISS 0 0

/- The RESET record (R59, R160). -/

/-- The RESET record of the reset in progress; its origin is 0 the Keeper, 7 the ROM boot stage. -/
def State.resetRec (s : State) (origin : Nat) : Record :=
  let r := s.build tyReset origin s.dbkMask 255 255
    (leBytes 1 (s.pack causeFlds 0) ++ leBytes 1 (s.get Reg.RST_CAUSE_BOR_SRC 0) ++ leBytes 2 (s.pack wakeFlds 0)) []
  { r with
    flags := r.flags ||| (if s.is Hid.STGLOST 0 then 1 else 0) ||| (if s.is Hid.STKUNK 0 then 2 else 0)
    sticky := if s.is Hid.STKUNK 0 then 0 else s.get Hid.STKSAVE 0 }

/-- Staged records are flushed and the RESET record is written (R59). -/
def State.writeResetRec (s : State) (origin : Nat) : State :=
  let s := s.flushStaging 32
  (((s.stageCritical (s.resetRec origin)).flushStaging 32).put Hid.RECDUE 0 0).put Hid.STGLOST 0 0

/-- The NVM unit in progress completes, and queued words are discarded (R410). -/
def State.resetUnits (s : State) : State :=
  let s := { s with nvmq := if s.get Hid.NVM_JOB 0 == 3 then s.queueSplit.1 else [] }
  match s.get Hid.NVM_JOB 0 with
  | 1 => s.journalDone true
  | 2 => (s.daybookUnit true).2
  | 3 => s.queueUnit true
  | _ => s

/-- A reset begins that none preceded: its causes, its sticky bits and its due record (R58, R59). -/
def State.resetBegins (s : State) : State :=
  let s := (s.clearCauses.put Hid.STKSAVE 0 s.stickies).put Hid.STKUNK 0 0
  (s.put Hid.RECDUE 0 1).put Hid.STGLOST 0 0

/-- A reset that comes while the ROM boot stage is under way cuts it (R58): the record that the stage was still to write is staged (DESIGN CHOICE,
log 68: the spec does not say when it is written). -/
def State.bootCut (s : State) : State :=
  s.ifDo (s.get Hid.MAIN 0 == 2 && s.is Hid.RECDUE 0) (fun s => (s.stageCritical (s.resetRec 7)).put Hid.RECDUE 0 0)

/-- A cold reset by a BOR (supply code 1 to 5) or, code 0, by the pin (R52, R55, R57 to R60, R267, R294). Of two supplies that fall in one reset
BOR_SRC names the later (DESIGN CHOICE, log 59). -/
def State.coldReset (s : State) (bor : Nat) : State :=
  let during := s.get Hid.MAIN 0 < 2
  let sram := !during || !s.is Hid.COLD 0
  let lose := 1 ≤ bor && bor ≤ 3
  let s := s.bootCut.ifDo (!during) State.resetBegins
  let s := if bor == 0 then s.put Reg.RST_CAUSE_PIN 0 1 else (s.put Reg.RST_CAUSE_BOR 0 1).put Reg.RST_CAUSE_BOR_SRC 0 bor
  let s := (s.release true).resetUnits
  let s := if lose then ((s.put Hid.STKUNK 0 1).put Hid.STGLOST 0 1) else s.ifDo (sram && s.is Hid.RECDUE 0) (fun s => s.writeResetRec 0)
  let bf := s.get Reg.PP_STAT_BFET 0
  let dc := s.is Hid.IN_OK 0
  let fed := below 3 (fun i => s.is Hid.IN_OK i || s.is Hid.IN_PWR i)
  let s := ((((s.loseStaging.drop .v).drop .w).drop .s).drop .l).put Reg.RTC_TRIM_SRC 0 0
  let s := { s with nvmq := [], mail := [], evq := [], gauge := Gauge.reset, comp := State.reset.comp, bal := State.reset.bal, out := [] }
  let s := ((s.put Hid.MAIN 0 1).put Hid.WARM 0 0).put Hid.COLD 0 1
  let s := ((s.put Reg.PP_STAT_BFET 0 bf).mark Hid.BF_LOCK 0 (bf == bfOff)).portsClamp.forEach fed (fun s i => s.put Hid.IN_PWR i 1)
  s.ifDo dc (fun s => (s.put Hid.IN_OK 0 1).setInSt 0 inDebounce)

/-- A warm reset by a cause of RST_CAUSE (R56 to R60, R395): the rails are shut down in reverse order; one that arises during a reset joins its
causes, and one that arises in the ROM boot stage starts the boot again (R58), whose SRAM is still to be zeroed after a cold reset. A port's held
command is discarded (R294). From SHIP_PEND the part comes to STANDBY too (R32): the ship flag stays set there, so that CANCEL is refused and the
button leaves it (DESIGN CHOICE, log 60). -/
def State.warmReset (s : State) (cause : Fld) : State :=
  if s.get Hid.MAIN 0 < 2 then s.put cause 0 1
  else
    let cold := s.get Hid.MAIN 0 == 2 && s.is Hid.COLD 0
    let s := (s.settle.bootCut.resetBegins.put cause 0 1).endSession
    let s := (s.spendNonce.resetUnits).drop .v
    let s := { s with evq := [], out := [] }
    let s := (((s.put Hid.MAIN 0 1).put Hid.WARM 0 1).mark Hid.COLD 0 cold).put Hid.IMGOK 0 0
    let s := (((s.put Hid.BOOTWIN 0 0).put Hid.SAFE 0 0).put Hid.TRANS 0 trNone).put Hid.HELDREQ 0 0
    let s := (((s.put Reg.PWR_STATE_CUR 0 1).put Reg.PWR_STATE_BOOTING 0 1).put Reg.PWR_STATE_RIDE_READY 0 0).put Hid.CHG_ONCE 0 0
    let s := (s.criersRest.put Reg.KPR_STAT_PEND_ON 0 0).put Hid.RSPBUSY 0 0
    let s := ((s.put Hid.PO_CMD 0 0).put Hid.PO_CMD 1 0).put Hid.BURST 0 0
    let s := (s.put Hid.BURST_ANY 0 0).mark Hid.BURST_NOW 0 (s.is Reg.STBY_CFG_SCAN_P 0)
    (s.stallsReset.ifDo (s.get Hid.FCLK 0 == 0) (fun s => s.put Hid.FCLK 0 1)).shutdown

/- Slots (R64, R226, R227, R390). -/

/-- The NVM byte address of a boot slot: 0 A, 1 B (R407). -/
def bootAddr (slot : Nat) : Nat := 0x40000 * slot

/-- A little-endian field of the slot. -/
def State.slotAt (s : State) (slot o n : Nat) : Nat := leAt s.nvm (bootAddr slot + o) n

/-- The header of a slot is valid (R227). -/
def State.headerOk (s : State) (slot : Nat) : Bool :=
  s.slotAt slot 0 4 == 0x314E4353 && s.slotAt slot 4 2 == 1 && s.slotAt slot 6 2 == 0 && s.slotAt slot 0x20 216 == 0 &&
  [0, 1, 2, 3].all (fun i =>
    let len := s.slotAt slot (0x10 + 2 * i) 2
    let ent := s.slotAt slot (0x18 + 2 * i) 2
    len ≤ 8192 && (ent < len || (len == 0 && ent == 0))) &&
  s.slotAt slot 0x10 2 != 0 && s.slotAt slot 0xC 4 % 4 == 0 && s.slotAt slot 0xC 4 ≤ 65536 &&
  s.slotAt slot 0xFC 4 == crc32 (bytesAt s.nvm (bootAddr slot) 0xFC) &&
  s.slotAt slot 0xF8 4 == crc32 (bytesAt s.nvm (bootAddr slot + 0x200) 0x30000)

/-- The number that bytes make, highest first. -/
def beNat (l : List (BitVec 8)) : Nat := leNat l.reverse

/-- The signature of a slot verifies (R390). -/
def State.signatureOk (s : State) (slot : Nat) : Bool :=
  let a := bootAddr slot + 0x100
  let key := bytesAt s.nvm (a + 0x20) 64
  let msg := bytesAt s.nvm (bootAddr slot) 0x100 ++ bytesAt s.nvm (bootAddr slot + 0x200) 0x30000
  leAt s.nvm a 4 == 0x47534353 && leAt s.nvm (a + 4) 2 == 1 && leAt s.nvm (a + 6) 26 == 0 && leAt s.nvm (a + 0xA0) 96 == 0 &&
  (Config.sha256 key).toNat == s.get Hid.HASH 0 &&
  Config.ecdsa (BitVec.ofNat 512 (beNat key)) (Config.sha256 msg) (BitVec.ofNat 512 (beNat (bytesAt s.nvm (a + 0x60) 64)))

/-- A slot passes (R64). -/
def State.slotPasses (s : State) (slot : Nat) : Bool := s.headerOk slot && (s.lc != lcField || s.signatureOk slot)

/-- A memory of words filled from NVM from a key on. -/
def loadWords (m : Cells Word) (nvm : List Host.Cell) (key addr n : Nat) : Cells Word :=
  (List.range n).foldl (fun m i => Cells.set m (key + i) (wordAt nvm (addr + 4 * i))) m

/-- The instruction memories and the initial shared data are loaded from a slot (R228). -/
def State.loadSlot (s : State) (slot : Nat) : State :=
  let s := { s with imem := [] }
  let s := s.forEach [0, 1, 2, 3] (fun s st =>
    let len := s.slotAt slot (0x10 + 2 * st) 2
    let s := (s.put Hid.S_LEN st len).put Hid.S_ENT st (s.slotAt slot (0x18 + 2 * st) 2)
    s.ifDo (s.sl st != slAbsent)
      (fun s => { s with imem := loadWords s.imem s.nvm (8192 * s.phys st) (bootAddr slot + 0x200 + 0x8000 * st) len }))
  { s with sdata := storeBytes s.sdata 0 (bytesAt s.nvm (bootAddr slot + 0x20200) (s.slotAt slot 0xC 4)) }

/-- The boot program starts on STL0 and the boot window opens (R63 step 7). -/
def State.bootStart (s : State) : State :=
  let s := (s.put Hid.BOOTWIN 0 1).put Hid.SAFE 0 0
  s.ifDo (s.sl 0 != slAbsent) (fun s => (s.archReset 0).setSl 0 slRun)

/-- The NVM byte address of the word of BOOT_CFG in the reserved partition (R406; DESIGN CHOICE, log 9). -/
def bootCfgAddr : Nat := 0x1FFFC0

/-- BOOT_CFG.SLOT as NVM holds it. -/
def State.bootCfg (s : State) : Nat := leAt s.nvm bootCfgAddr 1 % 2

/-- Steps 5 to 7 of R63: a slot is selected and run, or the part is in the safe boot state (R64, R65), where no boot window opens and SLOT_RUN keeps
naming the slot used before (DESIGN CHOICE, log 61). -/
def State.bootSlot (s : State) : State :=
  let a := s.bootCfg
  let s := (((s.put Reg.BOOT_STAT_SEAL_TMO 0 0).put Reg.BOOT_STAT_IMAGE_BAD 0 0).put Reg.BOOT_STAT_FELLBACK 0 0).put Reg.BOOT_STAT_UNSIGNED 0 0
  let first := s.slotPasses a
  if first || s.slotPasses (1 - a) then
    let slot := if first then a else 1 - a
    let s := s.ifDo (!first) (fun s => (s.put Reg.BOOT_STAT_FELLBACK 0 1).raise 100)
    let s := (s.put Reg.BOOT_STAT_SLOT_RUN 0 slot).mark Reg.BOOT_STAT_UNSIGNED 0 (s.lc != lcField)
    ((s.put Reg.BOOT_STAT_IMG_SEQ 0 (s.slotAt slot 8 4)).loadSlot slot).bootStart
  else
    let s := s.forEach [0, 1, 2, 3] (fun s st => s.put Hid.S_LEN st 0)
    ((((s.put Reg.BOOT_STAT_IMAGE_BAD 0 1).put Reg.BOOT_STAT_IMG_SEQ 0 0).put Hid.BOOTWIN 0 0).put Hid.SAFE 0 1).raise 101

/-- The erase of the customer partitions on the first boot in RETURN (R388). -/
def State.returnErase (s : State) : State :=
  s.ifDo (s.lc == lcReturn && !s.is Reg.SEC_LC_ERASE_DONE 0)
    (fun s => ({ s with nvm := s.nvm.filter (fun c => 0x1B0000 ≤ c.1) }.put Reg.SEC_LC_ERASE_DONE 0 1).findHead)

/-- The level of RESET_N is low: the part drives it from the start of every reset until the reset is released (R53, R55; DEDUCED, log 52), and without
its supplies no level is given. -/
def State.resetNLow (s : State) : Bool := s.get Hid.MAIN 0 == 1

/-- The factory calibration fields, each with the field into which the ROM boot stage loads it. -/
def calFlds : List (Fld × Fld) :=
  [(Hid.CAL_G, Hid.CN_G), (Hid.CAL_O, Hid.CN_O), (Hid.CAL_R, Hid.CN_R), (Hid.CAL_A, Hid.CN_A), (Hid.CAL_S, Hid.CN_S)]

/-- The ROM boot stage loads the factory calibration of the Scales (R63 step 2, R124). -/
def State.loadCal (s : State) : State :=
  calFlds.foldl (fun s c => s.forEach (List.range c.1.count) (fun s n => s.put c.2 n (s.get c.1 n))) s

/-- The ROM boot stage, whole (R63, R51, R67, R158, R334, R336). -/
def State.romBoot (s : State) : State :=
  let s := ((s.fclkOn.put Hid.MAIN 0 3).put Hid.SEALED 0 0).forEach [0, 1] (fun s x => s.put Hid.PO_CLAMP x 0)
  let lc := s.get Hid.LCBITS 0
  let s := s.loadCal.put Reg.SEC_LC_LC 0 (lcOf lc)
  let s := s.ifDo (!(lc == 0 || lc == 1 || lc == 3 || lc == 7)) (fun s => s.raise 105)
  let s := s.ifDo (s.is Hid.COLD 0) (fun s => { s with sdata := [], imem := [] })
  let s := s.findHead.flushStaging 32
  let s := s.ifDo (s.is Hid.RECDUE 0) (fun s => s.writeResetRec 7)
  let s := s.ifDo (s.is Reg.ORDER_STAT_ORDER_VIOL 0 && !s.is Reg.ORDER_STAT_LOGGED 0) (fun s =>
    (((s.stageCritical (s.build tyOrderViol 7 s.dbkMask 255 255 (leBytes 1 (s.get Reg.ORDER_STAT_RULE 0)) [])).flushStaging 32).put Reg.ORDER_STAT_LOGGED 0 1).raise 98)
  let s := s.returnErase.bootSlot
  let s := s.ifDo (s.is Reg.BK_STAT_VBKUP_LOW 0) (fun s => s.raise 107)
  s.ifDo (s.is Reg.BK_STAT_RC_SEEN 0) (fun s => s.raise 106)

/-- The boot window closes (R9, R62, R135). -/
def State.closeWindow (s : State) : State := (((s.put Hid.BOOTWIN 0 0).put Hid.SEALED 0 1).takeMap).tableCheck

end Sys2Proof.Machine
end

