-- ==== Sys2Proof/Machine/Irq.lean ====
section
/-! DEFINITION. The interrupt controller's claims and completes (R354 to R358) and the timers (R359 to R365). -/

namespace Sys2Proof.Machine
open Sys2Proof

/- Interrupt sources and targets. -/

/-- The presentable source that a claim of target t takes: the highest priority, then the lowest number (R356). -/
def State.claimPick (s : State) (t : Nat) : Option Nat :=
  ((List.range 256).filter (s.presentable t)).foldl (fun a n => match a with
    | none => some n
    | some m => if s.isPri m < s.isPri n then some n else some m) none

/-- What a claim of target t finds is taken: the source is active under t (R356). -/
def State.claimTake (s : State) (t n : Nat) : State :=
  (((s.setArr Reg.IS_ACT_ACT n true).put Hid.IS_CLM n t).setArr Hid.IS_SOFT n false).put Reg.IC_LAST_SRC t n

/-- A write of v to the COMPLETE register of target t (R357). -/
def State.complete (s : State) (t v : Nat) : State :=
  let n := v % 512
  if n == 0x1FF then s
  else if n < 256 && s.arr Reg.IS_ACT_ACT n && s.get Hid.IS_CLM n == t then (s.setArr Reg.IS_ACT_ACT n false).wake n
  else s.setBit Reg.IC_STAT_COMP_BAD 0 t true

/-- A write of v to IS_PSETj (R354). -/
def State.softPend (s : State) (j v : Nat) : State :=
  (s.put Hid.IS_SOFT j (s.get Hid.IS_SOFT j ||| v)).forEach (below 32 (fun i => v.testBit i)) (fun s i => s.wake (32 * j + i))

/-- A write of v to IS_PCLRj (R354). -/
def State.softClear (s : State) (j v : Nat) : State :=
  s.put Hid.IS_SOFT j (s.get Hid.IS_SOFT j - (s.get Hid.IS_SOFT j &&& v))

/-- HIRQt_N is driven low, t = 0 or 1 (R355); released in reset and while VIO_H is low (R419, R421). -/
def State.hirqLow (s : State) (t : Nat) : Bool :=
  s.up && !s.is Reg.SUP_STAT_HOSTIO_LOW 0 && (List.range 256).any (s.presentable t)

/- Timers. -/

/-- A 48-bit number that two fields hold. -/
def State.wide (s : State) (lo hi : Fld) (n : Nat) : Nat := s.get lo n + 2 ^ 32 * s.get hi n

def State.putWide (s : State) (lo hi : Fld) (n v : Nat) : State := (s.put lo n v).put hi n (v / 2 ^ 32)

def State.tmCount (s : State) (n : Nat) : Nat := s.wide Reg.TM_CNT_LO_CNT Reg.TM_CNT_HI_CNT n
def State.tmPeriod (s : State) (n : Nat) : Nat := s.wide Reg.TM_PER_LO_PER Reg.TM_PER_HI_PER n
def State.tmRun (s : State) (n : Nat) : Bool := s.is Reg.TM_CTRL_RUN n

/-- The match shadow moves into M (R364). -/
def State.tmCommit (s : State) (n : Nat) : State :=
  (s.put Hid.TM_M n (s.wide Reg.TM_MAT_LO_MAT Reg.TM_MAT_HI_MAT n)).put Reg.TM_STAT_MAT_PEND n 0

/-- The timer stops: its count holds, and a shadow that waits is committed (R362, R364). -/
def State.tmStop (s : State) (n : Nat) : State :=
  (s.put Reg.TM_CTRL_RUN n 0).ifDo (s.is Reg.TM_STAT_MAT_PEND n) (fun s => s.tmCommit n)

/-- A pin action: 0 none, 1 high, 2 low, 3 toggle (R360). -/
def State.tmPin (s : State) (n act : Nat) : State :=
  match act with
  | 1 => s.put Reg.TM_STAT_OUT n 1
  | 2 => s.put Reg.TM_STAT_OUT n 0
  | 3 => s.put Reg.TM_STAT_OUT n (1 - s.get Reg.TM_STAT_OUT n)
  | _ => s

/-- An event of timer n: its flag, pin action and stop bit (R360); its source may wake the part (R29). -/
def State.tmEvent (s : State) (n : Nat) (bit act stop : Fld) : State :=
  let s := (s.flag bit n 1).tmPin n (s.get act n)
  (s.ifDo (s.is stop n) (fun s => s.tmStop n)).wake (68 + n)

def State.tmOverflow (s : State) (n : Nat) : State := s.tmEvent n Reg.TM_STAT_OVF_F Reg.TM_CTRL_OVF_PIN Reg.TM_CTRL_OVF_STOP

def State.tmMatch (s : State) (n : Nat) : State := s.tmEvent n Reg.TM_STAT_MATCH_F Reg.TM_CTRL_MATCH_PIN Reg.TM_CTRL_MATCH_STOP

/-- A tick brings the count to c, wrapping or not: an overflow before a match (R359, R360). -/
def State.tmArrive (s : State) (n c : Nat) (wrap : Bool) : State :=
  let m := s.get Hid.TM_M n
  let s := s.putWide Reg.TM_CNT_LO_CNT Reg.TM_CNT_HI_CNT n c
  (s.ifDo wrap (fun s => s.tmOverflow n)).ifDo (c == m) (fun s => s.tmMatch n)

/-- One tick of a running timer (R359, R364). -/
def State.tmTick (s : State) (n : Nat) : State :=
  if !s.tmRun n then s
  else
    let s := s.ifDo (s.is Reg.TM_STAT_MAT_PEND n) (fun s => s.tmCommit n)
    let p := s.tmPeriod n
    let c := s.tmCount n
    let wrap := if p == 0 then c == 2 ^ 48 - 1 else p - 1 ≤ c
    s.tmArrive n (if wrap then 0 else c + 1) wrap

/-- Ticks of a timer up to the one that wraps its count, its overflow (R359). -/
def State.tmToWrap (s : State) (n : Nat) : Nat :=
  let p := s.tmPeriod n
  let c := s.tmCount n
  if p == 0 then 2 ^ 48 - c else if p - 1 ≤ c then 1 else p - c

/-- The tick that makes the count equal M comes before the overflow. -/
def State.tmMatchFirst (s : State) (n : Nat) : Bool :=
  s.tmCount n < s.get Hid.TM_M n && s.get Hid.TM_M n - s.tmCount n < s.tmToWrap n

/-- The ticks d of a running timer, from event to event (R359). -/
def State.tmJump (s : State) (n d fuel : Nat) : State :=
  match fuel with
  | 0 => s
  | k + 1 =>
    if !s.tmRun n || d == 0 then s
    else
      let m := s.get Hid.TM_M n
      let e := if s.tmMatchFirst n then m - s.tmCount n else s.tmToWrap n
      if d < e then s.putWide Reg.TM_CNT_LO_CNT Reg.TM_CNT_HI_CNT n (s.tmCount n + d)
      else State.tmJump (if s.tmMatchFirst n then s.tmArrive n m false else s.tmArrive n 0 true) n (d - e) k

/-- d ticks of a running timer: what four periods or more leave is what they leave less any multiple of two periods, since a pin that toggles is then
as it was (R359, R360, R364). -/
def State.tmPass (s : State) (n d : Nat) : State :=
  let s := s.ifDo (s.tmRun n && s.is Reg.TM_STAT_MAT_PEND n && d != 0) (fun s => s.tmCommit n)
  let span := if s.tmPeriod n == 0 then 2 ^ 48 else s.tmPeriod n
  s.tmJump n (if d ≤ 4 * span then d else 2 * span + d % (2 * span)) 12

/-- The timers that run from the slow clock (true) or from the 1 MHz clock tick (R359). -/
def State.tmOn (s : State) (slow : Bool) : List Nat := below 16 (fun n => s.tmRun n && s.is Reg.TM_CTRL_CLK n == slow)

/-- Ticks of a timer up to its match, through an overflow where M is not above the count; 0 where M is never reached. -/
def State.tmToMatch (s : State) (n : Nat) : Nat :=
  let s := s.ifDo (s.is Reg.TM_STAT_MAT_PEND n) (fun s => s.tmCommit n)
  let m := s.get Hid.TM_M n
  if s.tmPeriod n != 0 && s.tmPeriod n ≤ m then 0
  else if s.tmMatchFirst n then m - s.tmCount n else s.tmToWrap n + m

/-- The level that TMOn drives, none while it is at high impedance (R365). -/
def State.tmo (s : State) (n : Nat) : Option Bool :=
  if s.vao && n < 8 && s.is Reg.TM_CTRL_OUT_EN n then some (s.is Reg.TM_STAT_OUT n) else none

/-- A write of TMn_CTRL (R362, R364, R365). -/
def State.tmCtrl (s : State) (n w : Nat) : State :=
  let pin := n < 8
  let f (lsb width : Nat) : Nat := w / 2 ^ lsb % 2 ^ width
  let held := [Reg.TM_CTRL_OVF_STOP, Reg.TM_CTRL_MATCH_STOP, Reg.TM_CTRL_CLK] ++
    (if pin then [Reg.TM_CTRL_OUT_LVL, Reg.TM_CTRL_OVF_PIN, Reg.TM_CTRL_MATCH_PIN] else [])
  let s := if s.tmRun n then s.ifDo (held.any (fun g => s.get g n != f g.lsb g.width)) (fun s => s.put Reg.TM_STAT_CFG_BUSY n 1)
    else (held.foldl (fun s g => s.put g n (f g.lsb g.width)) s).ifDo pin (fun s => s.put Reg.TM_STAT_OUT n (f 22 1))
  let s := [Reg.TM_CTRL_OIE, Reg.TM_CTRL_MIE, Reg.TM_CTRL_ARM].foldl (fun s g => s.put g n (f g.lsb g.width)) s
  let s := s.ifDo pin (fun s => s.put Reg.TM_CTRL_OUT_EN n (f 23 1))
  (if f 0 1 == 1 then s.put Reg.TM_CTRL_RUN n 1 else s.tmStop n).wake (68 + n)

/-- A write of a period or count register: ignored while the timer runs (R364). -/
def State.tmSet (s : State) (f : Fld) (n w : Nat) : State :=
  if s.tmRun n then s.put Reg.TM_STAT_CFG_BUSY n 1 else s.put f n w

/-- A write of TMn_MAT_HI (R364). -/
def State.tmMatHi (s : State) (n w : Nat) : State :=
  let s := s.put Reg.TM_MAT_HI_MAT n w
  if s.tmRun n then s.put Reg.TM_STAT_MAT_PEND n 1 else s.tmCommit n

/-- The armed timers. -/
def State.armed (s : State) : List Nat := below 16 (fun n => s.is Reg.TM_CTRL_ARM n)

/-- A write of TM_GLOBAL: GSTART, then GSTOP (R362). -/
def State.tmGlobal (s : State) (w : Nat) : State :=
  let s := s.ifDo (w.testBit 0) (fun s => s.forEach s.armed (fun s n => s.put Reg.TM_CTRL_RUN n 1))
  s.ifDo (w.testBit 1) (fun s => s.forEach s.armed State.tmStop)

/-- A 1 MHz timer runs, which keeps FCLK running (R18). -/
def State.fastTimer (s : State) : Bool := !(s.tmOn false).isEmpty

end Sys2Proof.Machine
end

