-- ==== Sys2Proof/Machine/Backup.lean ====
section
/-! DEFINITION. The backup domain (R332 to R349): writes on their way to it, ticks and the seconds count, the trim, the time load, the alarm,
and PWRON. -/

namespace Sys2Proof.Machine
open Sys2Proof

/-- A signed field of a width as an integer. -/
def signed (w v : Nat) : Int := if v < 2 ^ (w - 1) then (v : Int) else (v : Int) - (2 ^ w : Nat)

/-- The wall value that RTC_SETL and RTC_SETH ask for; bit 0 of the fraction is 0 (R344). -/
def State.setValue (s : State) : Nat :=
  (s.get Reg.RTC_SETH_SEC_HI 0 * 2 ^ 16 + s.get Reg.RTC_SETL_SEC_LO 0) * 2 ^ 16 + s.get Reg.RTC_SETL_FRAC 0 / 2 * 2

/-- A write is on its way to a register of the domain. -/
def State.bkUnder (s : State) (a : Nat) : Bool := s.bkq.any (fun e => e.1 == a)

/-- The correction of tick i of a trim window (R339). -/
def trimTick (n : Int) (i : Nat) : Bool := i * n.natAbs / 2 ^ 20 < (i + 1) * n.natAbs / 2 ^ 20

/-- The time load is due at the next tick: both writes have reached the domain (R344). -/
def State.loadDue (s : State) : Bool := s.is Hid.RTC_DUE 0 && !s.bkUnder 0x5018 && !s.bkUnder 0x501C

/-- One period of the slow clock (R337 to R339); at a time load the new value takes the place of the ordinary advance, and the tick's correction
applies to it (R344, R349). -/
def State.slowTick (s : State) : State :=
  let n := signed 11 (s.get Reg.BK_STAT_N_NOW 0)
  let t := s.tick
  let adv : Nat := if trimTick n (t % 2 ^ 20) then (if 0 < n then 4 else 0) else 2
  let s := s.put Hid.BK_TICK 0 (t + 1)
  if s.loadDue then ((s.put Hid.BK_WALL 0 (s.setValue + 2 ^ 56 + adv - 2)).put Reg.BK_STAT_UNSET 0 0).put Hid.RTC_DUE 0 0
  else s.put Hid.BK_WALL 0 (s.wall + adv)

/-- k periods of the slow clock on the two counts: over t ticks from a window's start on, the corrections number t × |n| / 2^20 (R339). -/
def State.ticksPass (s : State) (k : Nat) : State :=
  if k == 0 then s
  else
    let s := s.slowTick
    let n := signed 11 (s.get Reg.BK_STAT_N_NOW 0)
    let t := s.tick
    let c := (t + (k - 1)) * n.natAbs / 2 ^ 20 - t * n.natAbs / 2 ^ 20
    (s.put Hid.BK_TICK 0 (t + (k - 1))).put Hid.BK_WALL 0 (s.wall + 2 * (k - 1) + (if 0 < n then 2 * c else 0) - (if 0 < n then 0 else 2 * c))

/-- A rational rounded to the nearest integer, halves upward. -/
def roundQ (q : Rat) : Int := (q + 1 / 2).floor

/-- n kept within -512 to +512 (R339). -/
def clampTrim (n : Int) : Int := max (-512) (min 512 n)

/-- The n of the curve at a temperature in °C (R341). -/
def State.curveN (s : State) (t : Int) : Int :=
  let d := t - signed 8 (s.get Reg.RTC_CURVE_T0 0)
  signed 11 (s.get Reg.RTC_CURVE_OFS 0) + roundQ (((s.get Reg.RTC_CURVE_K_C 0 * (d * d).natAbs * 1000 : Nat) : Rat) / 953674)

/-- A trim window begins (R339 to R341): the trim of the program, or that of the curve, 0 on the RC. -/
def State.trimStart (s : State) (temp : Int) : State :=
  let prog := s.vao && s.is Reg.RTC_TRIM_SRC 0
  let n := if prog then signed 11 (s.get Reg.RTC_TRIM_TRIM 0) else if s.is Reg.BK_STAT_ON_RC 0 then 0 else s.curveN temp
  let s := s.put Reg.BK_STAT_N_NOW 0 ((clampTrim n + 2048).toNat % 2048)
  s.ifDo (!prog) (fun s => s.put Reg.BK_STAT_T_LAST 0 ((temp + 256).toNat % 256))

/-- The level of PWRON (R346). -/
def State.pwron (s : State) : Bool :=
  s.domain && (if s.get Reg.BK_CFG_PWRON_MODE 0 == 2 then s.vao && !s.is Hid.ON_VBKUP 0 else s.is Reg.BK_CFG_PWRON_LVL 0)

/-- The alarm value in seconds. -/
def State.almSec (s : State) : Nat := s.get Reg.RTC_ALM_HI_ALM_HI 0 * 2 ^ 32 + s.get Reg.RTC_ALM_LO_ALM_LO 0

/-- The alarm is armed and reached (R345). -/
def State.almDue (s : State) : Bool := s.domain && s.is Reg.RTC_ALM_HI_EN 0 && s.almSec ≤ s.wall / 2 ^ 16

/-- The alarm fires (R345, R346, R37): in BACKUP with the VBAT leg blocked by the empty flag, the leg is unblocked. -/
def State.almFire (s : State) : State :=
  let s := (s.put Reg.BK_STAT_ALM_FLAG 0 1).put Reg.RTC_ALM_HI_EN 0 0
  let s := s.ifDo (s.get Reg.BK_CFG_PWRON_MODE 0 == 1) (fun s => s.put Reg.BK_CFG_PWRON_LVL 0 1)
  let s := s.ifDo (!s.vao && s.is Reg.BK_STAT_EMPTY 0 && !s.ship) (fun s => s.put Hid.LEGWIN 0 2)
  s.wake 66

/-- Fields written from a word by type (R9): RW and, where it is open, RWL fields take their bits, W1C and CLR clear, SET sets, RO and WO take
nothing; a set that has not counted yet survives a clear (R7). -/
def State.fieldWrite (s : State) (f : Fld) (n w : Nat) : State :=
  let v := w / 2 ^ f.lsb % 2 ^ f.width
  match f.ty with
  | .rw => s.put f n v
  | .rwl => s.ifDo (!s.is Hid.SEALED 0) (fun s => s.put f n v)
  | .w1c => s.put f n (s.get f n - ((s.get f n - (s.get f n &&& s.get f.held n)) &&& v))
  | .clr => s.put f n (s.get f n - (s.get f n &&& v))
  | .set => s.put f n (s.get f n ||| v)
  | .ro => s
  | .wo => s

/-- The unit of a field that an address holds, if one does. -/
def Fld.unitAt (f : Fld) (a : Nat) : Option Nat :=
  if a < f.base then none
  else if f.stride == 0 then (if a == f.base then some 0 else none)
  else if (a - f.base) % f.stride == 0 && (a - f.base) / f.stride < f.count then some ((a - f.base) / f.stride) else none

/-- The fields that an address holds, with their unit. A port's objects fill 11 words, a target's enables 8 (R278, R353). -/
def fieldsAt (a : Nat) : List (Fld × Nat) :=
  Reg.all.filterMap (fun f => match f.unitAt a with
    | none => none
    | some n =>
      if f == Reg.PORT_RXPDO_PDO && 11 ≤ n % 32 then none
      else if (f == Reg.IC_ESET_EN || f == Reg.IC_ECLR_EN) && 8 ≤ n % 16 then none
      else some (f, n))

/-- Every field of a register written from a word by its type. -/
def State.regStore (s : State) (a w : Nat) : State := (fieldsAt a).foldl (fun s f => s.fieldWrite f.1 f.2 w) s

/-- CLR of KPR_LATCH (R150): SEQ_LATCH clears where the record was read or acknowledged, with what stands beside it. -/
def State.latchClear (s : State) : State :=
  if s.is Reg.KPR_LATCH_DAYBOOK_ACK 0 || (s.is Reg.KPR_LATCH_LATCH_READ 0 && !s.is Reg.KPR_LATCH_REC_LOST 0) then
    (((s.put Reg.KPR_LATCH_SEQ_LATCH 0 0).put Reg.KPR_LATCH_DAYBOOK_ACK 0 0).put Reg.KPR_LATCH_LATCH_READ 0 0).put Reg.KPR_LATCH_REC_LOST 0 0
  else s.put Reg.KPR_LATCH_CLR_REFUSED 0 1

/-- A write reaches its register in the domain (R343, R344, R404): RTC_SETH with GO asks for the load, KPR_LATCH.CLR acts, and LOGGED clears with
ORDER_VIOL (R51). -/
def State.bkApply (s : State) (a w : Nat) : State :=
  let s := s.regStore a w
  let s := s.ifDo (a == 0x501C && w.testBit 31) (fun s => s.put Hid.RTC_DUE 0 1)
  let s := s.ifDo (a == 0x10 && w.testBit 0) (fun s => s.put Reg.ORDER_STAT_LOGGED 0 0)
  s.ifDo (a == 0x80C && w.testBit 1) State.latchClear

/-- A register lives in the backup domain: those of its block and those of R404 outside it. -/
def inDomain (a : Nat) : Bool := (0x5000 ≤ a && a < 0x5400) || a == 0x8 || a == 0x10 || a == 0x40C || a == 0x80C

/-- The domain's registers as the main domain reads them: a write under way reads as written (R343). -/
def State.bkSeen (s : State) : State :=
  s.bkq.foldl (fun t e => t.bkApply e.1 e.2.toNat) s

/-- VBKUP is charged from VANA (R335). -/
def State.vbkupCharge (s : State) : Bool := s.vao && s.is Reg.BK_CFG_CHG_EN 0

/-- The oldest write under way has reached the domain. -/
def State.bkReach (s : State) : State :=
  match s.bkq with
  | [] => s
  | e :: t => { s with bkq := t }.bkApply e.1 e.2.toNat

/-- Every write under way has reached the domain. -/
def State.bkDrain (s : State) : State := s.bkq.foldl (fun t _ => t.bkReach) s

end Sys2Proof.Machine
end

