-- ==== Sys2Proof/Machine/Stalls.lean ====
section
/-! DEFINITION. The stalls (R213 to R236): starting and restarting identities, takeover and second failure, watchdogs, and mailboxes. -/

namespace Sys2Proof.Machine
open Sys2Proof

/-- An identity runs on: in STANDBY that is a demand for FCLK (R184). -/
def State.stallGo (s : State) (st : Nat) : State := (s.setSl st slRun).ifDo s.standby State.demand

/-- An identity runs at its entry with the reset state of R161 but for its ISN; its watchdog count starts again (R230, R232). -/
def State.stallEnter (s : State) (st : Nat) : State := ((s.archReset st).put Hid.S_WDC st 0).stallGo st

/-- A START or RESTART that is ignored (R223, R230). -/
def State.startBadly (s : State) (st : Nat) : State := s.put Reg.STL_STAT_START_BAD st 1

/-- The identity cannot be started: it is absent, or its slot holds no program for it. -/
def State.noProgram (s : State) (st : Nat) : Bool := s.sl st == slAbsent || s.get Hid.S_LEN st == 0

/-- A START (R230); during a takeover of the identity it is held (R222). -/
def State.stallStart (s : State) (st : Nat) : State :=
  if s.sl st == slTakeover then s.setBit Hid.S_HELD st 0 true
  else if s.noProgram st || s.sl st == slFault then s.startBadly st
  else if s.sl st == slStopped then s.stallEnter st
  else if s.sl st == slHalt then (s.put Hid.S_WDC st 0).stallGo st
  else s

/-- A RESTART (R230); during a takeover of the identity it is held (R222). -/
def State.stallRestart (s : State) (st : Nat) : State :=
  if s.sl st == slTakeover then s.setBit Hid.S_HELD st 1 true
  else if s.noProgram st then s.startBadly st
  else s.stallEnter st

/-- A write of STL_CTRL: RESTART wins over START (R230). -/
def State.stlCtrl (s : State) (w : Nat) : State :=
  s.forEach [0, 1, 2, 3] (fun s st => if w.testBit (8 + st) then s.stallRestart st else s.ifDo (w.testBit st) (fun s => s.stallStart st))

/-- A write of STL_WDKICKs, by identity s (own) or another writer (R232). -/
def State.kick (s : State) (st : Nat) (own : Bool) (w : Nat) : State :=
  if own && w % 256 == 0x5A then s.put Hid.S_WDC st 0 else s.put Reg.STL_STAT_KICK_BAD st 1

/- Mailboxes (R208, R209, R234 to R236): boxes 0 to 3 are the receive mailboxes, 4 the host mailbox. -/

def State.mbox (s : State) (b : Nat) : List Word := (s.mail.filter (fun m => m.1 == b)).map Prod.snd

/-- The words a mailbox holds at most. -/
def mboxSize (b : Nat) : Nat := if b == 4 then 16 else 8

def State.mboxFull (s : State) (b : Nat) : Bool := mboxSize b ≤ (s.mbox b).length

/-- A word joins a mailbox; the host mailbox is an interrupt source. -/
def State.mboxPut (s : State) (b : Nat) (v : Word) : State :=
  { s with mail := s.mail ++ [(b, v)] }.ifDo (b == 4) (fun s => s.wake 56)

/-- The oldest word of a mailbox leaves it. -/
def State.mboxDrop (s : State) (b : Nat) : State :=
  { s with mail := s.mail.eraseP (fun m => m.1 == b) }

/-- A mailbox is emptied (R235). -/
def State.mboxFlush (s : State) (b : Nat) : State := { s with mail := s.mail.filter (fun m => m.1 != b) }

/-- A write of MBX_INs (R234). -/
def State.hostPost (s : State) (st : Nat) (v : Word) : State :=
  if s.mboxFull st then s.put Reg.MBX_LEVEL_HOST_FULL 0 1 else s.mboxPut st v

/-- A write of MBX_CTRL: POP, then the flushes (R234 to R236). -/
def State.mbxCtrl (s : State) (w : Nat) : State :=
  let s := s.ifDo (w.testBit 0) (fun s => s.mboxDrop 4)
  let s := s.ifDo (w.testBit 1) (fun s => s.mboxFlush 4)
  s.forEach (below 4 (fun st => w.testBit (4 + st))) State.mboxFlush

/- Watchdogs (R232, R233). -/

/-- The watchdog of an identity counts. -/
def State.wdRuns (s : State) (st : Nat) : Bool :=
  s.runs && s.is Reg.STL_WDCFG_TMO st && (s.sl st == slRun || s.sl st == slWait || s.sl st == slTakeover) && !s.is Hid.S_HALT st &&
    !s.is Hid.EXT 0 && (!s.standby || s.is Reg.STL_WDCFG_STBY_RUN st)

/-- The expiry of an identity's watchdog after a full count, in microseconds. -/
def State.wdTop (s : State) (st : Nat) : Nat := 1000 * s.get Reg.STL_WDCFG_TMO st

/-- A running watchdog counts d microseconds (R232): the early warning at half the count; the count starts again at its top. -/
def State.wdCount (s : State) (st d : Nat) : State :=
  let c := s.get Hid.S_WDC st
  let t := s.wdTop st
  (s.put Hid.S_WDC st ((c + d) % t)).ifDo ((c + t / 2) / t < (c + d + t / 2) / t) (fun s => (s.flag Reg.STL_STAT_WD_EARLY st 1).wake (52 + st))

/-- Watchdogs that expire together (R232, R233): each identity's WD_EXP is set and STALL_WDT raised before the one WDT reset that they cause. -/
def State.wdExpire (s : State) (l : List Nat) : State :=
  (s.forEach l (fun s st => (s.put Reg.STL_STAT_WD_EXP st 1).raise 82)).ifDo (l.any (fun st => s.is Reg.STL_WDCFG_RST st))
    (fun s => s.warmReset Reg.RST_CAUSE_WDT)

/-- TNOW moves on by d microseconds, and the 1 MHz timers, the watchdogs that run and the charge timers count with it (R21, R232, R258, R359). -/
def State.passTnow (s : State) (d : Nat) : State :=
  let due := below 4 s.wdRuns
  let out := due.filter (fun st => s.wdTop st ≤ s.get Hid.S_WDC st + d)
  let s := (s.put Hid.TNOW 0 (s.usec + d)).forEach (s.tmOn false) (fun s n => s.tmPass n d)
  ((s.chgTime d).forEach due (fun s st => s.wdCount st d)).wdExpire out

/-- k periods of the slow clock pass: its counts, the tokens of the rate bucket, one each second, and the slow timers (R156, R337, R359). -/
def State.slowPass (s : State) (k : Nat) : State :=
  let more := (s.tick + k) / 2 ^ 15 - s.tick / 2 ^ 15
  let s := (s.ticksPass k).put Reg.DBK_STAT_TOKENS 0 (min 64 (s.get Reg.DBK_STAT_TOKENS 0 + more))
  s.forEach (s.tmOn true) (fun s n => s.tmPass n k)

/-- d microseconds pass before an event that comes as a command, with 32768 periods of the slow clock in 10^6 (R17). -/
def State.passTime (s : State) (d : Nat) : State :=
  let f := s.get Hid.USFRAC 0 + 32768 * d
  ((s.passTnow d).put Hid.USFRAC 0 (f % 1000000)).slowPass (f / 1000000)

/-- Time passes up to the k-th slow tick from now. -/
def State.passTicks (s : State) (k : Nat) : State := s.passTime ((k * 1000000 + 32767 - s.get Hid.USFRAC 0) / 32768)

/-- The moment TNOW = t: TNOW moves on to it where it has not reached it. -/
def State.advanceTo (s : State) (t : Nat) : State := if reached s.tnow t then s else s.passTime (diff32 t s.tnow)

/- Lockstep (R214 to R225). -/

/-- A pair is taken out of service. -/
def State.fencePair (s : State) (p : Nat) : State := s.setBit Reg.STL_SPARE_FENCED 0 p true

/-- The identity that a pair carries. -/
def State.carried (s : State) (p : Nat) : Option Nat := [0, 1, 2, 3].find? (fun st => s.phys st == p && s.sl st != slAbsent)

/-- The spare takes an identity. -/
def State.spareFor (s : State) (st : Nat) : State :=
  ((s.put Reg.STL_SPARE_SPARE 0 1).put Reg.STL_SPARE_FOR 0 st).put Reg.STL_STAT_PHYS st 4

/-- Second failure (R223): the pair is fenced, its identity is absent and the rails of that identity freeze (R144). -/
def State.secondFailure (s : State) (st : Nat) : State :=
  let p := s.phys st
  let s := ((s.fencePair p).setSl st slAbsent).setBit Reg.KPR_STAT_FROZEN 0 st true
  let s := (s.put Hid.S_HELD st 0).put Hid.S_WKIND st 0
  (s.ifDo (p == 4) (fun s => (s.put Reg.STL_SPARE_SPARE 0 2).put Reg.STL_SPARE_FOR 0 7)).raise 85

/-- The spare fails its self-test or its compare (R216). -/
def State.spareLost (s : State) : State := ((s.fencePair 4).put Reg.STL_SPARE_SPARE 0 2).raise 84

/-- A takeover begins (R219 steps 1 and 2); whether the instruction in progress had issued a side effect is kept for STL_TKLOG. -/
def State.takeover (s : State) (st : Nat) (issued : Bool) : State :=
  let prev := s.sl st
  let s := ((s.fencePair (s.phys st)).put Hid.S_PREV st prev).setSl st slTakeover
  let s := (s.spareFor st).sat Reg.STL_SPARE_TAKEOVERS 0 255
  let s := ((s.put Hid.S_REISS 0 issued.toNat).put Reg.STL_TKLOG_ID 0 st).put Reg.STL_TKLOG_ADDR 0 (s.get Hid.S_PC st)
  s.raise 83

/-- The instruction memory of a pair copied to pair 4 (R219 step 3). -/
def State.copyImem (s : State) (p : Nat) : State :=
  { s with imem := s.imem.filter (fun c => c.1 < 32768) ++
      (s.imem.filter (fun c => 8192 * p ≤ c.1 && c.1 < 8192 * p + 8192)).map (fun c => (c.1 - 8192 * p + 32768, c.2)) }

/-- A mismatch while the boot window is open or during a reset (R225). -/
def State.bootMismatch (s : State) (st : Nat) : State :=
  if s.get Reg.STL_SPARE_SPARE 0 == 0 then ((s.fencePair (s.phys st)).spareFor st).warmReset Reg.RST_CAUSE_STALL
  else s.secondFailure st

/-- A mismatch of a pair registered (R216, R219, R222, R223, R225). -/
def State.mismatch (s : State) (p : Nat) (issued : Bool) : State :=
  match s.carried p with
  | none => s.ifDo (p == 4 && s.get Reg.STL_SPARE_SPARE 0 == 0) State.spareLost
  | some st =>
    if s.is Hid.BOOTWIN 0 || !s.runs then s.bootMismatch st
    else if !(s.sl st == slRun || s.sl st == slWait || s.sl st == slTakeover) then s
    else if s.get Reg.STL_SPARE_SPARE 0 == 0 && !s.is Hid.S_SHBAD st then s.takeover st issued
    else s.secondFailure st

/-- Step 5 of R219: the identity goes on in the state it was in, a wait being evaluated for the first time again (R220), and what waited for it acts
(R222). -/
def State.takeoverEnd (s : State) (st dur : Nat) : State :=
  let s := (s.copyImem st).setSl st (s.get Hid.S_PREV st)
  let s := s.put Hid.S_WSCN st (s.get Reg.SCN_COUNT_COUNT 0)
  let s := (s.put Reg.STL_TKLOG_DUR 0 dur).put Reg.STL_TKLOG_REISSUE 0 (s.get Hid.S_REISS 0)
  let s := s.record tyTakeover 255 255 (leBytes 1 st ++ leBytes 4 (s.get Reg.STL_TKLOG_ADDR 0))
  let held := s.get Hid.S_HELD st
  let s := s.put Hid.S_HELD st 0
  let s := if held.testBit 1 then s.stallRestart st else s.ifDo (held.testBit 0) (fun s => s.stallStart st)
  let s := s.ifDo (s.is Hid.S_HALTRQ st) (fun s => (s.put Hid.S_HALTRQ st 0).put Hid.S_HALT st 1)
  s.put Hid.S_REISS 0 0

end Sys2Proof.Machine
end

