-- ==== Sys2Proof/Machine/Session.lean ====
section
/-! DEFINITION. Lifecycle requests, key hashes, debug sessions, EXTEST and test perturbation (R386 to R402). -/

namespace Sys2Proof.Machine
open Sys2Proof

/-- A key hash is programmed: 0 IMG_KEY, 1 DBG_KEY, 2 RET_KEY. -/
def State.hashSet (s : State) (k : Nat) : Bool := s.bit Reg.SEC_LC_HASH_SET 0 k

/-- The Keeper is OFF and no loop is enabled. -/
def State.quietRails (s : State) : Bool := s.kp == kpOff && !s.anyLoop

/-- The conditions of R387 for a step to a target: by the debug port or not, by a writer that may ask for FIELD or not; while OTP is programmed none is
met (DEDUCED, log 72). -/
def State.lcAllowed (s : State) (debug field : Bool) (target : Nat) : Bool :=
  !s.is Hid.OTPJOB 0 && target == s.lc + 1 &&
  (match s.lc with
   | 0 => debug && s.hashSet 2
   | 1 => (debug || field) && s.hashSet 0 && s.hashSet 1 && s.quietRails
   | 2 => debug && s.session == ssReturn && s.quietRails
   | _ => false)

/-- A write of SEC_LC_REQ (R387). -/
def State.lcRequest (s : State) (debug field : Bool) (w : Nat) : State :=
  if w % 256 != 0x4C then s
  else if s.lcAllowed debug field (bits w 9 8) then (s.put Hid.OTPJOB 0 4).put Hid.LCT 0 (bits w 9 8)
  else s.put Reg.SEC_LC_REQ_BAD 0 1

/-- The digest in SEC_HASHBUF, its first byte most significant (R389). -/
def State.hashBuf (s : State) : Nat := (List.range 8).foldl (fun a k => a * 2 ^ 32 + s.get Reg.SEC_HASHBUF_DATA k) 0

/-- A command of SEC_OTP_CMD is allowed: OP 1 IMG_KEY, 2 DBG_KEY, 3 RET_KEY (R389). -/
def State.otpAllowed (s : State) (op : Nat) : Bool :=
  !s.is Hid.OTPJOB 0 && op != 0 && !s.hashSet (op - 1) && (s.lc == lcFab || (s.lc == lcDevelop && op != 3))

/-- A write of SEC_OTP_CMD (R389); BAD is cleared by a write of 1. -/
def State.otpCmd (s : State) (w : Nat) : State :=
  let s := s.ifDo (w.testBit 10) (fun s => s.put Reg.SEC_OTP_CMD_BAD 0 0)
  if w % 256 != 0x4C then s
  else if s.otpAllowed (bits w 9 8) then (s.put Hid.OTPJOB 0 (bits w 9 8)).put Hid.HASH (bits w 9 8 - 1) s.hashBuf
  else s.put Reg.SEC_OTP_CMD_BAD 0 1

/- Sessions (R394 to R398). -/

/-- A debug command that travels under the private instruction DBG ends EXTEST (R399). -/
def State.tapDbg (s : State) : State := s.put Hid.EXT 0 0

/-- A session opens (R394, R395). -/
def State.openSession (s : State) (k : Nat) : State := (s.put Reg.SEC_DBG_SESSION 0 k).raise 109

/-- No CHALLENGE is accepted: 10 s after a failed response (R394). -/
def State.lockedOut (s : State) : Bool := s.is Hid.LOCKOUT 0 && s.usec < s.get Hid.LOCK_T 0 + 10000000

/-- A CHALLENGE: a fresh nonce is drawn (R394). -/
def State.challenge (s : State) : State :=
  if s.is Hid.RSPBUSY 0 || s.lockedOut then s
  else ((s.put Hid.NONCE_T 0 s.usec).forEach [0, 1, 2, 3] (fun s k => let d := s.drawFree 32; d.2.put Reg.SEC_NONCE_NONCE k d.1)).put Hid.NONCE_OK 0 1

/-- The bytes of a number, highest first. -/
def beBytes (n v : Nat) : List (BitVec 8) := (leBytes n v).reverse

/-- The message that a response signs (R394). -/
def State.rspMsg (s : State) (scope : Nat) : List (BitVec 8) :=
  [0, 1, 2, 3].flatMap (fun k => beBytes 4 (s.get Reg.SEC_NONCE_NONCE k)) ++
    beBytes 4 (s.get Reg.SEC_UID0_UID 0) ++ beBytes 4 (s.get Reg.SEC_UID1_UID 0) ++ [BitVec.ofNat 8 scope]

/-- The key hash against which a scope is checked in the present lifecycle, none where the scope is not granted there (R394). -/
def State.scopeKey (s : State) (scope : Nat) : Option Nat :=
  if (scope == 1 || scope == 2) && s.lc == lcField then some 1
  else if scope == 3 && s.lc == lcReturn then some 2 else none

/-- The check of a response (R394 step 3). -/
def State.rspGood (s : State) (scope : Nat) (key sig : BitVec 512) : Bool :=
  match s.scopeKey scope with
  | none => false
  | some k => s.hashSet k && (Config.sha256 (beBytes 64 key.toNat)).toNat == s.get Hid.HASH k &&
      Config.ecdsa key (Config.sha256 (s.rspMsg scope)) sig

/-- A response received (R394 step 2): a nonce serves one response, so a second one during the check finds none, and 60 s spend it (log 72). -/
def State.respond (s : State) (scope : Nat) (key sig : BitVec 512) : State :=
  if !s.is Hid.NONCE_OK 0 || s.is Hid.RSPBUSY 0 then s
  else if s.get Hid.NONCE_T 0 + 60000000 ≤ s.usec then s.spendNonce
  else ((s.put Hid.RSPBUSY 0 1).put Hid.RSPSCOPE 0 scope).mark Hid.RSPOK 0 (s.rspGood scope key sig)

/-- The check ends (R394 step 4). -/
def State.respondEnd (s : State) : State :=
  let ok := s.is Hid.RSPOK 0
  let s := (s.put Hid.RSPBUSY 0 0).spendNonce
  if ok then s.openSession (s.get Hid.RSPSCOPE 0 + 1) else (s.sat Reg.SEC_DBG_FAILS 0 255).put Hid.LOCKOUT 0 1 |>.put Hid.LOCK_T 0 s.usec

/-- An SQ pin in an enable mode is asserted. -/
def State.sqAsserted (s : State) : Bool := (List.range 64).any (fun p => (s.sqMode p == 1 || s.sqMode p == 2) && s.get Hid.SQ_DRV p == 1)

/-- EXTEST, or its refusal (R396, R399). -/
def State.extest (s : State) : State :=
  if s.dbgFull && s.lc != lcField && s.quietRails && !s.sqAsserted then s.put Hid.EXT 0 1 else s.put Reg.SEC_DBG_EXTEST_REF 0 1

/- Test perturbation (R400, R401). -/

/-- A perturbation is applied or a one-shot fired. -/
def State.tpApplied (s : State) : State := (s.sat Reg.TP_STAT_APPLIED 0 0xFFFF).raise 110

/-- A write of TP_CTRL. -/
def State.tpCtrl (s : State) (w : Nat) : State :=
  let s := s.regStore 0x7800 w
  let s := s.forEach (below 4 (fun i => w.testBit (12 + i))) (fun s i => s.put Hid.MM_ARM i 1)
  let s := s.forEach (below 4 (fun i => w.testBit (8 + i))) (fun s i => s.put Hid.CV_TEST i 1)
  s.ifDo (w % 128 != 0 || bits w 15 8 != 0) State.tpApplied

/-- Some of the switches of TP_CTRL are on. -/
def State.tpOn (s : State) (l : List Fld) : Bool := l.any (fun f => s.is f 0)

/-- A write of TP_MAG0; while a switch it belongs to is on, it applies a perturbation. -/
def State.tpMag0 (s : State) (w : Nat) : State :=
  let s := (s.put Reg.TP_MAG0_SE_DLY 0 (min 1000 (bits w 25 16))).put Reg.TP_MAG0_SLOT_STR 0 (min 50 (bits w 5 0))
  s.ifDo (s.tpOn [Reg.TP_CTRL_SLOT_EN, Reg.TP_CTRL_SE_EN]) State.tpApplied

/-- A write of TP_MAG1; while a switch it belongs to is on, it applies a perturbation. -/
def State.tpMag1 (s : State) (w : Nat) : State :=
  let s := (s.put Reg.TP_MAG1_JIT 0 (bits w 31 24)).put Reg.TP_MAG1_LDG_SHIFT 0 (min 10 (bits w 23 20))
  let s := (s.put Reg.TP_MAG1_GCRC_DLY 0 (min 1000 (bits w 19 10))).put Reg.TP_MAG1_DBK_BP 0 (min 20 (bits w 4 0))
  s.ifDo (s.tpOn [Reg.TP_CTRL_JIT_EN, Reg.TP_CTRL_LDG_EN, Reg.TP_CTRL_DBK_EN, Reg.TP_CTRL_GCRC_P0, Reg.TP_CTRL_GCRC_P1]) State.tpApplied

end Sys2Proof.Machine
end

