-- ==== Sys2Proof/Machine/PortCtl.lean ====
section
/-! DEFINITION. The commands of the cable ports' control register and hard resets (R290, R295), which the fabric and the port's events share. -/

namespace Sys2Proof.Machine
open Sys2Proof

/-- A Hard_Reset taken, during any exchange (R290, R296): contract and exchange end; a sink's input is lost (R243), a source discharges VBUS. -/
def State.hardReset (s : State) (x : Nat) : State :=
  if s.sourceOn x then s.sourceHardReset x else (s.protoReset x).ifDo (s.sinkOn x) (fun s => s.portEnds x)

/-- A Hard_Reset sent. -/
def State.sendHardReset (s : State) (x : Nat) : State := ((s.hardReset x).tx x txHardReset).portFlag Reg.PORT_EVT_HRST_TX x

/-- A command of PORTx_CTRL that has an effect: 1 renegotiate, 2 PR_Swap, 3 DR_Swap, 4 Hard_Reset, 6 CLR_LATCH. -/
def portCmd (cmd : Nat) : Bool := cmd == 1 || cmd == 2 || cmd == 3 || cmd == 4 || cmd == 6

/-- The command is valid in the port's present role and state (R286, R287, R295). -/
def State.portValid (s : State) (x cmd : Nat) : Bool :=
  if cmd == 6 then s.tc x == tcDisabled else s.phy x && (cmd != 2 || s.role x == 2)

/-- A command acted on (R279, R286 to R288, R290). -/
def State.portAct (s : State) (x cmd : Nat) : State :=
  if !s.portValid x cmd then s.portFlag Reg.PORT_EVT_CMD_BAD x
  else match cmd with
    | 1 => if s.sourceOn x then s.sendCaps x else (s.put Hid.PE_EXCH x exCaps).tx x txGetSourceCap
    | 2 => (s.put Hid.PE_EXCH x exPrSwap).tx x txPrSwap
    | 3 => (s.put Hid.PE_EXCH x exDrSwap).tx x txDrSwap
    | 4 => s.sendHardReset x
    | 6 => (s.put Reg.PORT_STAT_LATCHED x 0).put Reg.PORT_STAT_TC x tcOpen
    | _ => s

/-- A command waits: an exchange is under way (R295), or the Rp signals SinkTxNG against what the command would start (R288; DEDUCED, log 70). -/
def State.portWaits (s : State) (x cmd : Nat) : Bool := s.exch x != exNone || (s.portValid x cmd && cmd < 4 && !s.txOk x)

/-- A write of PORTx_CTRL (R295): held while an exchange is under way, a later command replacing the held one. -/
def State.portCtrl (s : State) (x w : Nat) : State :=
  let cmd := w % 16
  if !portCmd cmd then s
  else if s.portWaits x cmd || s.is Hid.PO_CMD x then s.put Hid.PO_CMD x cmd
  else s.portAct x cmd

/-- The held command acts once no exchange is under way (R295). -/
def State.portRelease (s : State) (x : Nat) : State :=
  s.ifDo (!s.portWaits x (s.get Hid.PO_CMD x) && s.is Hid.PO_CMD x) (fun s => (s.put Hid.PO_CMD x 0).portAct x (s.get Hid.PO_CMD x))

end Sys2Proof.Machine
end

