-- ==== Sys2Proof/Machine/Scales.lean ====
section
/-! DEFINITION. The Scales and the criers (R105 to R133): the schedule, judging, converter checks, blindness, and the criers' reports and checks. -/

namespace Sys2Proof.Machine
open Sys2Proof

/- Zones: CHn_DATA.ZONE. -/
def znOk : Nat := 0
def znOvw : Nat := 1
def znOvf : Nat := 2
def znUvw : Nat := 3
def znUvf : Nat := 4
def znNone : Nat := 7

/- Channel modes: CHn_CFG.MODE. -/
def mdVolt : Nat := 0
def mdVolt6 : Nat := 1
def mdShunt : Nat := 2
def mdNtc : Nat := 3

/- The schedule (R108, R110). -/

/-- Converter x is live. -/
def State.convLive (s : State) (x : Nat) : Bool := !s.bit Reg.SCN_STAT_FENCED 0 x

/-- The live converters in order. -/
def State.live (s : State) : List Nat := below 4 s.convLive

/-- The slots of a scan that starts now: each channel os_n times. -/
def State.slots (s : State) : List Nat := (List.range 192).flatMap (fun n => List.replicate (osOf (s.get Reg.CH_CFG_OSC n)) n)

/-- L = ceil(S / k); 0 with no live converter. -/
def slotsPer (n k : Nat) : Nat := if k == 0 then 0 else (n + k - 1) / k

/-- The groups that a list of channels touches. -/
def groupBits (l : List Nat) : Nat := bitsOf 12 (fun g => l.any (fun n => n / 16 == g))

/-- SCN_MAPx for the slots dealt to a converter. -/
def State.mapConv (s : State) (x : Nat) (l : List Nat) : State :=
  ((s.put Reg.SCN_MAP_FIRST_CH x (l.headD 255)).put Reg.SCN_MAP_LAST_CH x (l.getLastD 255)).put Reg.SCN_MAP_GROUPS x (groupBits l)

/-- The schedule is dealt: TSCAN, K_LIVE and SCN_MAPx. -/
def State.deal (s : State) : State :=
  let slots := s.slots
  let live := s.live
  let len := slotsPer slots.length live.length
  let s := (s.put Reg.SCN_STAT_K_LIVE 0 live.length).put Reg.SCN_STAT_TSCAN 0 (len + 1)
  s.forEach [0, 1, 2, 3] (fun s x => s.mapConv x (if live.contains x then (slots.drop (live.idxOf x * len)).take len else []))

/-- The Keeper arms the UV side of the channel for a rail that names it as CHAN (R112, R137): from GOOD until STOP or a release. -/
def State.railArms (s : State) (n : Nat) : Bool := s.rails.any (fun r => s.get Reg.SEQ_JDG_CHAN r == n && s.is Hid.RL_ARM r)

/-- TREF is driven (R107): in ACTIVE and HOLD, and in STANDBY from the start of FCLK for a burst to the end of its reference slot. -/
def State.trefOn (s : State) : Bool := s.vao && (s.active || s.hold || s.is Hid.BURST 0)

/-- The eight counters of a channel at 0. -/
def State.clearCtr (s : State) (n : Nat) : State := s.forEach (List.range 8) (fun s i => s.put Hid.CH_CTR (8 * n + i) 0)

/-- Writes to a channel take effect (R109, R113). -/
def State.chanTake (s : State) (n : Nat) : State :=
  let p := s.get Hid.CH_PEND n
  if p == 0 then s
  else
    let s := (s.put Hid.CH_PEND n 0).clearCtr n
    s.ifDo (p.testBit 0) (fun s =>
      let arm := s.get Reg.CH_CFG_UV_ARM n
      ((s.put Reg.CH_DATA_ZONE n znNone).put Reg.CH_DATA_STALE n 1).mark Reg.CH_DATA_ARMED n (arm == 1 || (arm == 2 && s.railArms n)))

/-- The Scales become blind (R120). -/
def State.enterBlind (s : State) : State :=
  if s.is Reg.SCN_STAT_BLIND 0 then s
  else
    let s := ((s.put Reg.SCN_STAT_BLIND 0 1).put Hid.BLIND_T0 0 s.usec).put Hid.BLIND_SD 0 0
    let s := s.forEach (List.range 192) (fun s n => s.put Reg.CH_DATA_STALE n 1)
    (s.forEach (s.rails.filter s.hasChan) (fun s r => s.put Hid.RL_CNT r 0)).raise 74

/-- A converter's readmission takes effect (R122). -/
def State.convJoin (s : State) (x : Nat) : State :=
  ((s.setBit Reg.SCN_STAT_FENCED 0 x false).put Reg.SCN_MAP_LIVE x 1).put Hid.CV_FBY x 0

/-- A scan starts: pending fences, readmissions and writes take effect and the schedule is dealt (R108, R109, R122, R198). -/
def State.scanStart (s : State) : State :=
  let s := s.forEach [0, 1, 2, 3] (fun s x =>
    match s.get Hid.CV_PEND x with
    | 1 => s.fenceConv x 2
    | 2 => (s.convJoin x).put Hid.CV_PEND x 0
    | _ => s)
  let s := s.forEach (List.range 192) State.chanTake
  let s := (s.forEach (List.range 16) (fun s c => s.put Hid.CR_CHG c 0)).deal
  s.ifDo s.live.isEmpty State.enterBlind

/- Judging (R111). -/

/-- A signed calibration value held with an offset of 2^23, in 10 nV, as nV. -/
def calNv (v : Nat) : Rat := 10 * ((v : Rat) - 2 ^ 23)

/-- The running zero results of a converter, newest first, in µV. -/
def State.zeros (s : State) (x : Nat) : List Int :=
  (List.range (s.get Hid.CV_ZN x)).map (fun k => (s.get Hid.CV_Z (8 * x + k) : Int) - 32768)

/-- The mean of the last zero results of a converter in µV, 0 while there is none (R125). -/
def State.zeroMean (s : State) (x : Nat) : Rat := ((s.zeros x).foldl (· + ·) 0 : Int) / (s.get Hid.CV_ZN x : Rat)

/-- A result of converter x in a mode, in nV, corrected for the converter (R124, R125): its running zero mean and its factory offset in that mode
subtracted, its factory gain applied (DEDUCED, log 66: the spec names the terms). -/
def State.convCorrect (s : State) (x md : Nat) (raw : Int) : Rat :=
  ((raw : Rat) - 1000 * s.zeroMean x - calNv (s.get Hid.CN_O (4 * x + md))) * s.get Hid.CN_G (4 * x + md) / 1000000

/-- A sample of channel n by converter x, corrected for both (R124): the attenuator's gain in VOLT6, the input offset in SHUNT. -/
def State.correct (s : State) (x n md : Nat) (raw : Int) : Rat :=
  let v := s.convCorrect x md raw
  if md == mdVolt6 then v * s.get Hid.CN_A n / 1000000 else if md == mdShunt then v - calNv (s.get Hid.CN_S n) else v

/-- A corrected voltage in nV in the unit of a mode (R105), before rounding and clamping; `tref` is V(TREF) - V(RGND_Gg) in nV. -/
def modeCode (md : Nat) (v tref : Rat) : Rat :=
  if md == mdVolt then v * 65536 / 2500000000
  else if md == mdVolt6 then v * 65536 / 6000000000
  else if md == mdShunt then 32768 + v * 65536 / 200000000
  else v * 65536 / tref

/-- VALUE from the corrected samples of a channel with os samples a scan (R105, R430): the mean rounded to the nearest code, half upward, and
clamped. -/
def valueOf (samples : List Rat) (os : Nat) : Nat :=
  (max 0 (min 65535 ((samples.foldl (· + ·) 0 / (os : Rat) + 1 / 2).floor))).toNat

/-- The samples of a channel. -/
def samplesOf (m : ScanSample) (n : Nat) : List Int :=
  match m.chans.find? (fun c => c.1 == n) with
  | some c => c.2
  | none => []

/-- The mode and the oversampling of a channel in the scan in progress. -/
def State.scanMode (s : State) (n : Nat) : Nat := bits (s.scanCfg n) 1 0
def State.scanOs (s : State) (n : Nat) : Nat := osOf (bits (s.scanCfg n) 6 4)

/-- VALUE of channel n, whose first slot has a number in the list of slots; slot i went to the live converter of number i / L (R108). -/
def State.chanValue (s : State) (m : ScanSample) (live : List Nat) (len n first : Nat) : Nat :=
  let md := s.scanMode n
  let one (x : Int × Nat) : Rat := modeCode md (s.correct (live.getD ((first + x.2) / len) 0) n md x.1) (m.tref.getD (n / 16) 0 : Nat)
  valueOf ((samplesOf m n).zipIdx.map one) (s.scanOs n)

/-- The channels with a slot in the scan in progress and their VALUEs, in order; `first` is the number of the next slot. -/
def State.chanValues (s : State) (m : ScanSample) (live : List Nat) (len : Nat) (l : List Nat) (first : Nat) : List (Nat × Nat) :=
  match l with
  | [] => []
  | n :: t =>
    if s.scanOs n == 0 then State.chanValues s m live len t first
    else (n, s.chanValue m live len n first) :: State.chanValues s m live len t (first + s.scanOs n)

/-- What a scan in progress measured: each channel with a slot and its VALUE. -/
def State.scanValues (s : State) (m : ScanSample) : List (Nat × Nat) :=
  s.chanValues m s.live (s.get Reg.SCN_STAT_TSCAN 0 - 1) (List.range 192) 0

/-- One counter after a judgment. -/
def ctrNext (b : Bool) (c : Nat) : Nat := if b then min 16 (c + 1) else 0

/-- The zone after a judgment, from the counters cOVF, cOVW, cUVF, cUVW, rOVF, rOVW, rUVF, rUVW, the debounce count and the zone before (R111, R112):
a zone of UVW or UVF ends when the UV side is not armed. -/
def zoneNext (c : List Nat) (cnt zone : Nat) (armed : Bool) : Nat :=
  let k (i : Nat) : Nat := c.getD i 0
  let uv (z : Nat) : Bool := armed && zone == z
  if cnt ≤ k 0 then znOvf
  else if cnt ≤ k 2 then znUvf
  else if zone == znOvf && k 4 < cnt then znOvf
  else if uv znUvf && k 6 < cnt then znUvf
  else if cnt ≤ k 1 then znOvw
  else if cnt ≤ k 3 then znUvw
  else if (zone == znOvf || zone == znOvw) && k 5 < cnt then znOvw
  else if (uv znUvf || uv znUvw) && k 7 < cnt then znUvw
  else znOk

/-- The counters after a judgment of value v. -/
def State.ctrsNext (s : State) (n v : Nat) (armed : Bool) : List Nat :=
  let hyst := bits (s.scanCfg n) 31 16
  let ovf := bits (s.scanOv n) 31 16
  let ovw := bits (s.scanOv n) 15 0
  let uvw := bits (s.scanUv n) 31 16
  let uvf := bits (s.scanUv n) 15 0
  let tests := [decide (ovf < v), decide (ovw < v), armed && decide (v < uvf), armed && decide (v < uvw), decide (v ≤ ovf - hyst),
    decide (v ≤ ovw - hyst), decide (min 65535 (uvf + hyst) ≤ v), decide (min 65535 (uvw + hyst) ≤ v)]
  (List.range 8).map (fun i => ctrNext (tests.getD i false) (s.get Hid.CH_CTR (8 * n + i)))

/- PMBus status latches (R380). -/

/-- The voltage channel of a PMBus page (R378). -/
def State.pageChan (s : State) (p : Nat) : Option Nat :=
  if 0x20 ≤ p && p ≤ 0xDF then some (p - 0x20)
  else if p < 8 then
    if s.get Reg.PM_LOOP_VCH p < 192 then some (s.get Reg.PM_LOOP_VCH p)
    else match s.railOf 1 p with
      | some r => if s.hasChan r then some (s.get Reg.SEQ_JDG_CHAN r) else none
      | none => none
  else none

/-- A status latch is set and SMBALERT_N driven low where enabled (R382). -/
def State.pmSet (s : State) (f : Fld) (p bit : Nat) : State :=
  (s.setBit f p bit true).ifDo (s.is Reg.HL_SMB_CFG_ALERT_EN 0) (fun s => s.put Hid.PM_ALERT 0 1)

/-- The latches that a channel's entry to a zone sets. -/
def State.pmLatch (s : State) (n zone : Nat) : State :=
  let vbit : Nat := if zone == znOvf then 3 else if zone == znOvw then 2 else if zone == znUvw then 1 else 0
  if zone == znOk then s
  else
    let s := s.forEach (below 224 (fun p => s.pageChan p == some n)) (fun s p => s.pmSet Hid.PM_VOUT p vbit)
    s.forEach (List.range 8) (fun s p =>
      let s := s.ifDo (s.get Reg.PM_LOOP_ICH p == n && (zone == znOvf || zone == znOvw))
        (fun s => s.pmSet Hid.PM_IOUT p (if zone == znOvf then 1 else 0))
      s.ifDo (s.get Reg.PM_LOOP_TCH p == n && s.get Reg.CH_CFG_MODE n == mdNtc && (zone == znUvf || zone == znUvw))
        (fun s => s.pmSet Hid.PM_TEMP p (if zone == znUvf then 1 else 0)))

/-- A change of zone is delivered (R114, R138, R380). -/
def State.zoneTo (s : State) (n zone : Nat) : State :=
  let s := s.ifDo (zone == znOvf || zone == znUvf) (fun s => ((s.put Reg.CH_DATA_FLT_SEEN n 1).raise (40 + n / 16)).zoneFault n zone)
  (s.ifDo (zone == znOvw || zone == znUvw) (fun s => s.irq (14 + n / 16))).pmLatch n zone

/-- The counters of a channel stored. -/
def State.putCtrs (s : State) (n : Nat) (l : List Nat) : State :=
  s.forEach (List.range 8) (fun s i => s.ifDo (s.get Hid.CH_CTR (8 * n + i) != l.getD i 0) (fun s => s.put Hid.CH_CTR (8 * n + i) (l.getD i 0)))

/-- One channel judged: its counters, zone and CHn_DATA (R111, R115); the zone it entered, if it changed. -/
def State.judge (s : State) (n v tag : Nat) : State :=
  let armed := s.is Reg.CH_DATA_ARMED n
  let old := s.get Reg.CH_DATA_ZONE n
  let c := s.ctrsNext n v armed
  let zone := zoneNext c (bits (s.scanCfg n) 11 8 + 1) old armed
  let s := ((s.putCtrs n c).put Reg.CH_DATA_VALUE n v).put Reg.CH_DATA_ZONE n zone
  (s.put Reg.CH_DATA_STALE n 0).put Reg.CH_DATA_SCAN_TAG n tag

/- Criers (R126 to R131). -/

/-- Channel c is in VOLT or VOLT6 mode. -/
def State.voltMode (s : State) (c : Nat) : Bool := s.get Reg.CH_CFG_MODE c ≤ 1

/-- A crier works (R126, R129). -/
def State.crierOn (s : State) (c : Nat) : Bool :=
  s.is Reg.CR_CFG_EN c && s.voltMode c && !s.is Hid.CR_OFF c && !(s.standby && !s.is Reg.CR_CFG_STBY_EN c)

def State.crierOut (s : State) (c : Nat) (hi : Bool) : Bool := s.is (if hi then Reg.CR_STAT_OUT_HI else Reg.CR_STAT_OUT_LO) c

/-- The side is enabled. -/
def State.crierSide (s : State) (c : Nat) (hi : Bool) : Bool := s.is (if hi then Reg.CR_CFG_HI_EN else Reg.CR_CFG_LO_EN) c

/-- A side's output changes: the scan in progress does not check the crier (R130). -/
def State.crierMove (s : State) (c : Nat) (hi v : Bool) : State :=
  (s.mark (if hi then Reg.CR_STAT_OUT_HI else Reg.CR_STAT_OUT_LO) c v).put Hid.CR_CHG c 1

/-- The Keeper takes a side's output; a trip is reported (R127, R138, R131). -/
def State.crierTake (s : State) (c : Nat) (hi v : Bool) : State :=
  let s := s.mark (if hi then Hid.CR_HHI else Hid.CR_HLO) c v
  if !v then s
  else
    let s := ((s.flag (if hi then Reg.CR_STAT_TRIP_HI else Reg.CR_STAT_TRIP_LO) c 1).irq (27 + c)).raise 72
    (s.ifDo s.standby State.demand).ifDo (!s.is Reg.CR_STAT_FENCED c) (fun s => s.crierAct c hi)

/-- The output that the Keeper holds of a side. -/
def State.crierHeld (s : State) (c : Nat) (hi : Bool) : Bool := s.is (if hi then Hid.CR_HHI else Hid.CR_HLO) c

/-- A crier is switched off by the mode of its channel (R126); CFG_BAD is set only where that clears an EN of 1 (DESIGN CHOICE, log 67). -/
def State.crierBad (s : State) (c : Nat) : State :=
  s.ifDo (c < 16 && s.is Reg.CR_CFG_EN c) (fun s => ((s.put Reg.CR_CFG_EN c 0).put Reg.SCN_STAT_CFG_BAD 0 1).crierIdle c)

/-- The channel's mode or the one before it forbids crier c (R126). -/
def State.crierMode (s : State) (c : Nat) : Bool := s.voltMode c && (c == 0 || s.get Reg.CH_CFG_MODE (c - 1) != mdShunt)

/-- Full scale of a mode in mV. -/
def fullScale (md : Nat) : Nat := if md == mdVolt6 then 6000 else 2500

/-- A threshold in mV, clamped to the channel's full scale. -/
def State.crierThr (s : State) (c md : Nat) (hi : Bool) : Nat :=
  min (fullScale md) (s.get (if hi then Reg.CR_THR_HI else Reg.CR_THR_LO) c)

/-- HYST as it acts, in 0.1 %. -/
def State.crierHyst (s : State) (c : Nat) : Nat := max 1 (min 30 (s.get Reg.CR_CFG_HYST c))

/-- An input in µV that has stood for a time in ns trips a side of the crier (R126): beyond its threshold, for FILT. -/
def State.crierTrips (s : State) (c : Nat) (hi : Bool) (uv ns : Nat) : Bool :=
  let thr := 1000 * s.crierThr c (s.get Reg.CH_CFG_MODE c) hi
  (if hi then decide (thr < uv) else decide (uv < thr)) && 100 * min 100 (s.get Reg.CR_CFG_FILT c) ≤ ns

/-- An input in µV that has stood for a time in ns releases a side of the crier (R126): inside its threshold by more than HYST, for FILT. -/
def State.crierFrees (s : State) (c : Nat) (hi : Bool) (uv ns : Nat) : Bool :=
  let thr := s.crierThr c (s.get Reg.CH_CFG_MODE c) hi
  (if hi then decide (uv < thr * (1000 - s.crierHyst c)) else decide (thr * (1000 + s.crierHyst c) < uv)) &&
    100 * min 100 (s.get Reg.CR_CFG_FILT c) ≤ ns

/-- The crier disagrees with a judged VALUE (R130), in mV as exact rationals; a side that is not enabled is not compared (DESIGN CHOICE, log 67). -/
def State.crierDiffers (s : State) (c v : Nat) : Bool :=
  let md := s.scanMode c
  let mv : Rat := (v * fullScale md : Nat) / 65536
  let h : Rat := (s.crierHyst c : Nat) / 1000
  let hi : Rat := (s.crierThr c md true : Nat)
  let lo : Rat := (s.crierThr c md false : Nat)
  (s.crierSide c true && (if s.crierOut c true then decide (mv < hi * (99 / 100 - h) - 2) else decide (hi * 101 / 100 + 2 < mv))) ||
  (s.crierSide c false && (if s.crierOut c false then decide (lo * (101 / 100 + h) + 2 < mv) else decide (mv < lo * 99 / 100 - 2)))

/-- A waiting readmission takes effect (R131): the Keeper holds the outputs as they stand. -/
def State.crierJoin (s : State) (c : Nat) : State :=
  let s := ((s.put Reg.CR_STAT_FENCED c 0).put Hid.CR_FBY c 0).put Hid.CR_WAIT c 0
  (s.mark Hid.CR_HHI c (s.crierOut c true)).mark Hid.CR_HLO c (s.crierOut c false)

/-- A run of disagreement reaches its second scan (R130): a unit fenced by FENCE raises nothing (R200), but a readmission that waits fails as an
event (R131, R326). -/
def State.crierFault (s : State) (c : Nat) : State :=
  let s := (s.put Reg.CR_STAT_DISAGREE c 1).ifDo (s.fencedBy (56 + c) != 2 || s.is Hid.CR_WAIT c) (fun s => s.raise (56 + c))
  s.ifDo (s.is Hid.CR_WAIT c) (fun s => (s.put Hid.CR_WAIT c 0).put Hid.CR_FBY c 1)

/-- The check of a crier by the end of a scan: with the judged VALUE of its channel, none where the scan did not judge it (R130, R131). -/
def State.crierCheck (s : State) (c : Nat) (v : Option Nat) : State :=
  match (if s.crierOn c && s.scanMode c ≤ 1 && !s.is Hid.CR_CHG c then v else none) with
  | none => s.put Hid.CR_RUN c 0
  | some v =>
    if s.crierDiffers c v then
      let r := s.get Hid.CR_RUN c
      (s.put Hid.CR_RUN c (min 2 (r + 1))).ifDo (r == 1) (fun s => s.crierFault c)
    else (s.put Hid.CR_RUN c 0).ifDo (s.is Hid.CR_WAIT c) (fun s => s.crierJoin c)

/- The end of a scan (R119, R120, R125). -/

/-- A zero result within ±2.0 mV enters the running mean, reported in 20 µV steps, rounded to the nearest (R125). -/
def State.zeroTake (s : State) (x : Nat) (z : Int) : State :=
  let l := (z :: s.zeros x).take 8
  let s := s.put Hid.CV_ZN x l.length
  let s := s.forEach (List.range l.length) (fun s k => s.put Hid.CV_Z (8 * x + k) (l.getD k 0 + 32768).toNat)
  let n : Int := l.length
  let m := (2 * l.foldl (· + ·) 0 + 20 * n) / (40 * n)
  let f := match x with
    | 0 => Reg.SCN_OFS_OFS_A
    | 1 => Reg.SCN_OFS_OFS_B
    | 2 => Reg.SCN_OFS_OFS_C
    | _ => Reg.SCN_OFS_OFS_D
  s.put f 0 (m % 256).toNat

/-- The scan in progress is an offset-check scan (R125). -/
def State.ofsScan (s : State) : Bool := s.get Reg.SCN_COUNT_COUNT 0 % 4096 == 0xFFF

/-- The corrected result for REF_C lies within ±0.15 % of the stored value, in nV (R118). -/
def State.refGood (s : State) (m : ScanSample) (x : Nat) : Bool :=
  let v := s.convCorrect x mdVolt (m.refc.getD x 0)
  let r : Rat := 1000 * (s.get Hid.CN_R x : Rat)
  decide (v - r ≤ r * 15 / 10000 ∧ r - v ≤ r * 15 / 10000)

/-- A converter's zero result in an offset-check scan lies outside ±2.0 mV (R125). -/
def State.zeroBad (s : State) (m : ScanSample) (x : Nat) : Bool :=
  let z := m.zero.getD x 0
  s.ofsScan && (z < -2000 || 2000 < z)

/-- The zero results of an offset-check scan taken (R125). -/
def State.zerosTake (s : State) (m : ScanSample) : State :=
  s.forEach (below 4 (fun x => s.ofsScan && !s.zeroBad m x)) (fun s x => s.zeroTake x (m.zero.getD x 0))

/-- The cause for which a converter fails its check, 0 if it passes (R118). -/
def State.checkCause (s : State) (m : ScanSample) (x : Nat) : Nat :=
  if !s.refGood m x || s.is Hid.CV_TEST x then 1
  else if m.notReady.contains x then 2
  else if s.zeroBad m x then 3 else 0

/-- The checks of every converter recorded: causes, and forced failures spent. -/
def State.checks (s : State) (m : ScanSample) : State :=
  s.forEach [0, 1, 2, 3] (fun s x =>
    let c := s.checkCause m x
    (s.ifDo (c != 0) (fun s => s.put Reg.SCN_MAP_CAUSE x c)).put Hid.CV_TEST x 0)

/-- A failed check raises CONV_FLT_x (R119, R122); that of a converter fenced by FENCE raises nothing (R200). -/
def State.convFlt (s : State) (x : Nat) : State := s.ifDo (s.fencedBy (52 + x) != 2) (fun s => s.raise (52 + x))

/-- How long the Scales have been blind, in microseconds, saturating (R151). -/
def State.blindFor (s : State) : Nat := min (2 ^ 32 - 1) (s.usec - s.get Hid.BLIND_T0 0)

/-- The blind period ends at the first judged scan (R120, R151). -/
def State.endBlind (s : State) : State :=
  s.ifDo (s.is Reg.SCN_STAT_BLIND 0) (fun s =>
    (((s.put Reg.SCN_STAT_BLIND 0 0).put Hid.BLIND_SD 0 0)).record tyBlind 255 255 (leBytes 4 s.blindFor))

/-- The count of good judged scans of a rail that names a judged channel (R136). -/
def State.railCount (s : State) (r : Nat) : State :=
  let c := s.get Reg.SEQ_JDG_CHAN r
  let z := s.get Reg.CH_DATA_ZONE c
  let good := min 65535 (bits (s.scanUv c) 31 16 + bits (s.scanCfg c) 31 16) ≤ s.get Reg.CH_DATA_VALUE c && z != znOvw && z != znOvf &&
    !s.is Reg.CH_DATA_STALE c
  s.put Hid.RL_CNT r (if good then min 31 (s.get Hid.RL_CNT r + 1) else 0)

/-- A scan is judged (R111 to R115, R130, R136): every channel with a slot and its VALUE, then zone changes, criers and rails. -/
def State.judgeAll (s : State) (vals : List (Nat × Nat)) (tag : Nat) : State :=
  let s := s.endBlind
  let old := vals.map (fun v => (v.1, s.get Reg.CH_DATA_ZONE v.1))
  let s := vals.foldl (fun s v => s.judge v.1 v.2 tag) s
  let s := s.forEach (s.rails.filter (fun r => s.hasChan r && (s.rail r == rsStart || s.rail r == rsFault))) State.railCount
  let s := old.foldl (fun s o => s.ifDo (s.get Reg.CH_DATA_ZONE o.1 != o.2) (fun s => s.zoneTo o.1 (s.get Reg.CH_DATA_ZONE o.1))) s
  let s := s.forEach (List.range 16) (fun s c => s.crierCheck c ((vals.find? (fun v => v.1 == c)).map Prod.snd))
  s.tryGoods s.hasChan

/-- A scan in progress ends (R119, R120): it is judged, or discarded with the failing converters fenced, or discarded whole. -/
def State.scanJudge (s : State) (m : ScanSample) : Bool × State :=
  let live := s.live
  let vals := s.scanValues m
  let s := s.zerosTake m
  let bad := below 4 (fun x => s.checkCause m x != 0)
  let liveBad := live.filter (fun x => bad.contains x)
  let tag := s.get Reg.SCN_COUNT_COUNT 0
  let s := (s.checks m).put Reg.SCN_COUNT_COUNT 0 (tag + 1)
  let noCheck (s : State) : State := s.forEach (List.range 16) (fun s c => s.put Hid.CR_RUN c 0)
  if live.isEmpty then (false, (noCheck s).forEach bad State.convFlt)
  else if liveBad.length == live.length then
    let n := min 2 (s.get Hid.CV_BAD 0 + 1)
    let s := (((noCheck s).put Hid.CV_BAD 0 n).put Reg.SCN_STAT_REF_SUSP 0 1).raise 73
    let s := s.forEach (bad.filter (fun x => !live.contains x)) State.convFlt
    (false, s.ifDo (n == 2) State.enterBlind)
  else
    let s := ((s.put Hid.CV_BAD 0 0).put Reg.SCN_STAT_REF_SUSP 0 0).forEach bad State.convFlt
    if liveBad.isEmpty then (false, s.judgeAll vals (tag % 256))
    else (true, ((noCheck s).forEach liveBad (fun s x => s.fenceConv x 1)).irq 26)

/-- The end of a scan's reference slot (R109, R119, R123): the next scan starts at once in ACTIVE and HOLD, and after a fence in a burst. -/
def State.scanEnd (s : State) (m : ScanSample) : State :=
  let r := s.scanJudge m
  let s := r.2
  if !s.standby then s.scanStart
  else if r.1 then s.scanStart
  else s.put Hid.BURST 0 0

/-- A burst starts (R27, R123): a converter that waits for the host stays fenced. -/
def State.burstStart (s : State) : State :=
  let first := !s.is Hid.BURST_ANY 0
  let s := ((s.demand.put Hid.BURST 0 1).put Hid.BURST_ANY 0 1).put Hid.BURST_T 0 s.usec
  let s := s.put Hid.BURST_NOW 0 0
  let s := s.ifDo first (fun s => s.forEach [0, 1, 2, 3] (fun s x => s.ifDo (s.is Reg.LS_STAT_WAIT_HOST (52 + x)) (fun s => s.fenceConv x 1)))
  s.scanStart

/- Writes (R106, R109, R113, R126, R128). -/

/-- Fields of one register written from a word. -/
def State.unpack (s : State) (l : List Fld) (n w : Nat) : State := l.foldl (fun s f => s.put f n (w / 2 ^ f.lsb)) s

/-- The scan in progress keeps the values that a write to a channel replaces; bit 0 CHn_CFG, bit 1 thresholds. -/
def State.chanKeep (s : State) (n bit : Nat) : State :=
  if s.bit Hid.CH_PEND n bit then s
  else
    let s := if bit == 0 then s.put Hid.CH_LCFG n (s.pack chCfgFlds n)
      else (s.put Hid.CH_LOV n (s.pack chOvFlds n)).put Hid.CH_LUV n (s.pack chUvFlds n)
    s.setBit Hid.CH_PEND n bit true

/-- A write of CHn_CFG. -/
def State.chanCfg (s : State) (n w : Nat) : State :=
  if w % 4 == mdShunt && n % 2 == 1 then s.put Reg.SCN_STAT_CFG_BAD 0 1
  else
    let s := (s.chanKeep n 0).unpack chCfgFlds n w
    let s := s.ifDo (1 < w % 4) (fun s => s.crierBad n)
    s.ifDo (w % 4 == mdShunt) (fun s => s.crierBad (n + 1))

/-- A write of CHn_OV or CHn_UV. -/
def State.chanThr (s : State) (n : Nat) (uv : Bool) (w : Nat) : State := (s.chanKeep n 1).unpack (if uv then chUvFlds else chOvFlds) n w

/-- The fields of CRc_CFG and CRc_THR. -/
def crCfgFlds : List Fld :=
  [Reg.CR_CFG_FILT, Reg.CR_CFG_HYST, Reg.CR_CFG_STBY_EN, Reg.CR_CFG_LO_EN, Reg.CR_CFG_HI_EN, Reg.CR_CFG_EN]
def crThrFlds : List Fld := [Reg.CR_THR_HI, Reg.CR_THR_LO]

/-- The outputs of sides that are not enabled are not tripped (R126). -/
def State.crierSides (s : State) (c : Nat) : State :=
  let s := s.ifDo (!s.crierSide c true && s.crierOut c true) (fun s => s.crierMove c true false)
  s.ifDo (!s.crierSide c false && s.crierOut c false) (fun s => s.crierMove c false false)

/-- A write of CRc_CFG or CRc_THR: the report is blanked while the crier is enabled, from the write on that enables it too (R128; DESIGN CHOICE,
log 67). A crier that the write stops, by EN or in STANDBY by STBY_EN, is at rest (R126, R129). -/
def State.crierWrite (s : State) (c : Nat) (thr : Bool) (w : Nat) : State :=
  let bad := !thr && w % 2 == 1 && !s.crierMode c
  let s := s.unpack (if thr then crThrFlds else crCfgFlds) c w
  let s := s.ifDo bad (fun s => (s.put Reg.CR_CFG_EN c 0).put Reg.SCN_STAT_CFG_BAD 0 1)
  if s.is Reg.CR_CFG_EN c && !(s.standby && !s.is Reg.CR_CFG_STBY_EN c) then
    ((s.crierSides c).put Hid.CR_BLANK c 1).put Hid.CR_BLANK_T c s.usec
  else s.crierIdle c

end Sys2Proof.Machine
end

