-- ==== Sys2Proof/Machine/Fabric.lean ====
section
/-! DEFINITION. The register fabric (R4 to R10, R391 to R393, R403 to R412): what a register reads as, what a write does, the protection map and
the locks, and the NVM and Daybook windows. Every register access of a command goes through `busRead` and `busWrite`. -/

namespace Sys2Proof.Machine
open Sys2Proof

/- Writers and regions. -/

/-- The number of a writer: its word of the protection map, and SEC_PSTAT.WHO (R391; 6 the debug port). -/
def who (w : Writer) : Nat :=
  match w with
  | .spi => 0
  | .smbus => 1
  | .stl st => 2 + st.val
  | .debug => 6

def isStall (w : Writer) : Bool :=
  match w with
  | .stl _ => true
  | _ => false

def isLink (w : Writer) : Bool :=
  match w with
  | .spi => true
  | .smbus => true
  | _ => false

/-- An identity executes instructions: the part runs, the identity is in RUN, and neither debug nor EXTEST halts it (R229, R398, R399). -/
def State.executes (s : State) (st : Nat) : Bool := s.runs && s.sl st == slRun && !s.is Hid.S_HALT st && !s.is Hid.EXT 0

/-- The writer can make accesses: a stall that executes, a host link that runs (R54, R372), a debug session (R396). -/
def State.linked (s : State) (w : Writer) : Bool :=
  match w with
  | .stl st => s.executes st
  | .debug => s.runs && s.session != 0
  | _ => s.up && !s.is Reg.SUP_STAT_HOSTIO_LOW 0

/-- The upper bounds of the blocks below the windows, with their regions (R403). -/
def regionTops : List (Nat × Nat) :=
  [(0x400, 0), (0x800, 1), (0x1000, 2), (0x2000, 3), (0x2C00, 4), (0x3000, 5), (0x3800, 6), (0x4000, 7), (0x4800, 8), (0x5000, 9),
   (0x5400, 10), (0x5800, 11), (0x6000, 12), (0x7000, 13), (0x7800, 14), (0x8000, 15)]

def State.nvmPage (s : State) : Nat := s.get Reg.NVM_PAGE_PAGE 0

/-- The region of the page in the NVM window; the Daybook's pages and the reserved ones take no writes and are never refused (R407). -/
def pageRegion (p : Nat) : Option Nat :=
  if p < 32 then some 16 else if 96 ≤ p && p < 100 then some 17 else if 100 ≤ p && p < 108 then some 18 else none

/-- NVM_STAT.PART of a page (R407). -/
def pagePart (p : Nat) : Nat :=
  if p < 16 then 0 else if p < 32 then 1 else if p < 96 then 2 else if p < 100 then 3 else if p < 108 then 4 else 5

/-- The region that governs a write to an address, if any does (R403, R407). -/
def State.region (s : State) (a : Nat) : Option Nat :=
  if a == 0x28 || 0xC000 ≤ a then some 19
  else if 0x8000 ≤ a then pageRegion s.nvmPage
  else (regionTops.find? (fun r => a < r.1)).map Prod.snd

/-- The protection map permits a stall's or a host link's write (R391). -/
def State.mapAllows (s : State) (w : Writer) (a : Nat) : Bool :=
  match s.region a with
  | none => true
  | some b => s.bit Reg.SEC_PMAP_REGIONS (who w) b

/-- The writes that the grave flag leaves to the host (R329). -/
def graveOpen (a v : Nat) : Bool :=
  (a == 0x404 && (v % 16 == 5 || v % 16 == 6)) || (0x4810 ≤ a && a < 0x4820) || (a == 0x6068 && v &&& 0xF2 == 0) || a == 0x20 || a == 0x28

/-- An address holds the protection map, the threshold locks or SEC_OTP_CMD (R393). -/
def isSealing (a : Nat) : Bool := (0x7010 ≤ a && a < 0x7028) || (0x7030 ≤ a && a < 0x7048) || a == 0x7080

/-- Thresholds locked since the boot window closed (R133, R393). -/
def State.locked (s : State) (a : Nat) : Bool :=
  s.is Hid.SEALED 0 &&
    ((0x2000 ≤ a && a < 0x2C00 && (a % 16 == 4 || a % 16 == 8) && s.arr Reg.SEC_TLOCK_LOCK ((a - 0x2000) / 16)) ||
     (0x2C00 ≤ a && a < 0x2D00 && a % 16 == 4 && s.arr Reg.SEC_TLOCK_LOCK ((a - 0x2C00) / 16)))

/-- A write is refused (R8, R329, R391 to R393, R396, R397, R400). -/
def State.denied (s : State) (w : Writer) (a v : Nat) : Bool :=
  (s.grave && !isStall w && !graveOpen a v) ||
  (w != .debug && !s.mapAllows w a) ||
  (isSealing a && s.lc == lcField && s.is Hid.BOOTWIN 0 && w != .stl 0) ||
  s.locked a ||
  (0x7800 ≤ a && a < 0x8000 && !s.dbgTpert) ||
  (w == .debug && !s.dbgWrites && !(a == 0x7004 && s.session == ssReturn))

/-- A refused write reported (R393). -/
def State.reportRefused (s : State) (w : Writer) (a : Nat) : State :=
  let s := ((s.put Reg.SEC_PSTAT_WHO 0 (who w)).put Reg.SEC_PSTAT_ADDR 0 a).sat Reg.SEC_PSTAT_COUNT 0 255
  match w with
  | .spi => s.setBit Hid.SPI_LAST 0 2 true
  | .smbus => s.setBit Hid.PM_CML 0 1 true
  | .stl st => (s.put Hid.S_REF st 1).raise 80
  | .debug => s

/- The NVM window (R407 to R409) and the Daybook window (R411). -/

/-- The NVM byte address that a window address shows. -/
def State.nvmAddr (s : State) (a : Nat) : Nat := s.nvmPage * 0x4000 + (a - 0x8000)

/-- A word of NVM as its latest queued write leaves it (R408). -/
def State.nvmSeen (s : State) (a : Nat) : Word :=
  match s.nvmq.reverse.find? (fun e => e.1 == a) with
  | some e => e.2
  | none => wordAt s.nvm a

/-- A word accepted into the write queue, or dropped (R409). -/
def State.nvmQueue (s : State) (a v : Nat) : State :=
  if 16 ≤ s.nvmq.length then s.put Reg.NVM_STAT_DROP 0 1
  else { s with nvmq := s.nvmq ++ [(a, BitVec.ofNat 32 v)] }.nvmNext

/-- A write through the NVM window. -/
def State.nvmWrite (s : State) (a v : Nat) : State := if (pageRegion s.nvmPage).isSome then s.nvmQueue (s.nvmAddr a) v else s

/-- A word read through the NVM window. -/
def State.nvmRead (s : State) (a : Nat) : Nat := if (pageRegion s.nvmPage).isSome then (s.nvmSeen (s.nvmAddr a)).toNat else 0

/-- The ring slot that a Daybook window address shows (R411). -/
def State.dbkSlot (s : State) (a : Nat) : Nat := 16 * s.get Reg.DBK_PAGE_PAGE 0 + (a - 0xC000) / 0x400

/-- A word read through the Daybook window. -/
def State.dbkRead (s : State) (a : Nat) : Nat := (wordAt s.nvm (slotAddr (s.dbkSlot a) + a % 0x400)).toNat

/-- The CRC word of a record was read: LATCH_READ is set where it is the latch record, committed (R150, R405). -/
def State.dbkSeen (s : State) (a : Nat) : State :=
  let q := s.get Hid.LATCH_SEQ 0
  s.ifDo (a % 0x400 == 0x3FC && s.is Reg.KPR_LATCH_SEQ_LATCH 0 && q != 0 && s.dbkSlot a == (q + 1023) % 1024 &&
      (wordAt s.nvm (slotAddr (s.dbkSlot a))).toNat == q && q ≤ s.newestSeq)
    (fun s => s.put Reg.KPR_LATCH_LATCH_READ 0 1)

/- What a register reads as. -/

/-- Word j of a set of numbers. -/
def setWord (j : Nat) (p : Nat → Bool) : Nat := bitsOf 32 (fun i => p (32 * j + i))

/-- The level of an SQ pin as it reads: an input's, or what the part drives (R136, R152). -/
def State.sqIn (s : State) (p : Nat) : Nat :=
  let pol := s.get Reg.SQ_CFG_POL p
  match s.sqMode p with
  | 4 => (s.get Reg.SQ_CFG_GPO p + pol) % 2
  | 1 => if s.get Hid.SQ_DRV p == 1 then 1 else if s.get Hid.SQ_DRV p == 2 then 0 else s.get Reg.SQ_CFG_IN p
  | 2 => if s.get Hid.SQ_DRV p == 1 then 1 else if s.get Hid.SQ_DRV p == 2 then 0 else s.get Reg.SQ_CFG_IN p
  | _ => s.get Reg.SQ_CFG_IN p

/-- PP_ILIM: the intake limit in force (R249, R252, R276). -/
def State.ilimNow (s : State) : Nat :=
  match s.sel with
  | none => 0
  | some i =>
    if s.inSt i == inSearch || s.inSt i == inFeed then (if i == 0 then s.get Reg.PP_ILIM_IIN_LIM 0 else s.portLimit (i - 1)) else 0

/-- Fields whose value is worked out when they are read: live states, mirrors, and settings that read back as used. -/
def overlays : List (Fld × (State → Nat → Nat)) :=
  [(Reg.LP_CTRL_EN, fun s n => (s.lpEn n).toNat), (Reg.LP_CAP_N_CFG, fun s n => s.nCfg n), (Reg.LP_CAP_N_ACT, fun s n => s.nAct n),
   (Reg.LP_CAP_I_CAP, fun s n => s.iCap n), (Reg.LP_STAT_FREQ_BAD, fun s n => (s.freqBad n).toNat),
   (Reg.MLC_SYNC_STAT_FRAME_NOW, fun s _ => s.frameKhz),
   (Reg.KPR_ON_RAILS, fun s j => setWord j (fun r => r < 72 && s.railOn r)),
   (Reg.KPR_GOOD_RAILS, fun s j => setWord j (fun r => r < 72 && s.rail r == rsGood)),
   (Reg.SCN_ALERT_ALERT, fun s j => setWord j (fun n => 1 ≤ s.get Reg.CH_DATA_ZONE n && s.get Reg.CH_DATA_ZONE n ≤ 4)),
   (Reg.SQ_CFG_IN, fun s p => s.sqIn p),
   (Reg.MBX_LEVEL_HOST, fun s _ => (s.mbox 4).length), (Reg.MBX_LEVEL_RX3, fun s _ => (s.mbox 3).length),
   (Reg.MBX_LEVEL_RX2, fun s _ => (s.mbox 2).length), (Reg.MBX_LEVEL_RX1, fun s _ => (s.mbox 1).length),
   (Reg.MBX_LEVEL_RX0, fun s _ => (s.mbox 0).length), (Reg.MBX_HOST_HEAD_WORD, fun s _ => ((s.mbox 4).headD 0).toNat),
   (Reg.LG_STAT_FLT_LOW, fun s _ => s.fltLow.toNat), (Reg.LG_STAT_BUS_DRV, fun s _ => s.busDrv.toNat),
   (Reg.LG_STAT_BUS_LOW, fun s _ => (s.busDrv || s.is Reg.LG_STAT_BUS_LOW 0).toNat),
   (Reg.LS_STAT_FENCED, fun s n => (s.fencedBy n == 1).toNat),
   (Reg.LS_STAT_COUNT, fun s n => if s.winOpen n then s.get Reg.LS_STAT_COUNT n else 0),
   (Reg.BK_STAT_SYNC_BUSY, fun s _ => (!s.bkq.isEmpty).toNat), (Reg.RTC_TICK_LO_TICK, fun s _ => s.tick),
   (Reg.RTC_TICK_HI_TICK, fun s _ => s.tick / 2 ^ 16), (Reg.RTC_NOW_LO_WALL, fun s _ => s.wall),
   (Reg.RTC_NOW_HI_WALL, fun s _ => s.wall / 2 ^ 24),
   (Reg.IS_LEVEL_LEVEL, fun s j => setWord j s.isLevel), (Reg.IS_PSET_PEND, fun s j => setWord j s.isPending),
   (Reg.IS_PCLR_PEND, fun s j => setWord j s.isPending), (Reg.IC_ESET_EN, fun s n => s.get Hid.IC_ENA n),
   (Reg.IC_ECLR_EN, fun s n => s.get Hid.IC_ENA n),
   (Reg.TM_RUN_RUN, fun s _ => bitsOf 16 s.tmRun), (Reg.SEC_LC_OTP_BUSY, fun s _ => (s.is Hid.OTPJOB 0).toNat),
   (Reg.SEC_DBG_RO_NOW, fun s _ => (s.session != 0 && !s.dbgFull).toNat),
   (Reg.TP_STAT_ON, fun s _ => s.pack tpSwitches 0),
   (Reg.NVM_STAT_PART, fun s _ => pagePart s.nvmPage), (Reg.NVM_STAT_BUSY, fun s _ => (s.is Hid.NVM_JOB 0).toNat),
   (Reg.NVM_STAT_QUEUE, fun s _ => s.nvmq.length), (Reg.BOOT_CFG_SLOT, fun s _ => (s.nvmSeen bootCfgAddr).toNat),
   (Reg.CHG_V_VREG, fun s _ => s.vregF), (Reg.CHG_V_VPRE, fun s _ => s.vpreF), (Reg.CHG_I_ICHG, fun s _ => s.ichg),
   (Reg.CHG_I_IPRE, fun s _ => s.ipre), (Reg.CHG_I_ITERM, fun s _ => s.iterm),
   (Reg.CHG_STAT_TEMP, fun s _ => s.chgTemp), (Reg.CHG_STAT_INH, fun s _ => s.inhibit), (Reg.PP_ILIM_IIN_LIM, fun s _ => s.ilimNow),
   (Reg.PWR_STATE_ON_BATT, fun s _ => s.onBatt.toNat), (Reg.PORT_STAT_PE_BUSY, fun s x => (s.exch x != exNone).toNat)]

/-- Unit n of a field as it reads (R9); a WO field reads 0. -/
def State.fieldRead (s : State) (f : Fld) (n : Nat) : Nat :=
  if f.ty == .wo then 0
  else match overlays.find? (fun o => o.1 == f) with
    | some o => o.2 s n % 2 ^ f.width
    | none => s.get f n

/-- A register word as it reads: its fields at their bits, 0 elsewhere (R5, R10). -/
def State.regRead (s : State) (a : Nat) : Nat := (fieldsAt a).foldl (fun w f => w + s.fieldRead f.1 f.2 * 2 ^ f.1.lsb) 0

/-- The word at an address, the read acting on nothing (R4, R5, R343, R407, R411). -/
def State.peek (s : State) (a : Nat) : Nat :=
  if 0xC000 ≤ a then s.dbkRead a
  else if 0x8000 ≤ a then s.nvmRead a
  else if inDomain a then s.bkSeen.regRead a
  else s.regRead a

/- Reads that act (R356, R363, R405). -/

/-- The reader is the server of target t (R356). -/
def State.serves (s : State) (w : Writer) (t : Nat) : Bool :=
  match w with
  | .stl st => t == 2 + st.val || (t == 6 && s.phys st == 4 && s.spareUsed)
  | .debug => false
  | _ => t < 2

/-- A read of ICt_CLAIM. -/
def State.claim (s : State) (w : Writer) (t : Nat) : Nat × State :=
  if s.grave && !isStall w then ((if s.serves w t then (s.claimPick t).getD 0x1FF else 0x1FF), s)
  else if !s.serves w t then (0x1FF, s.put Reg.IC_STAT_CLAIM_BAD 0 1)
  else match s.claimPick t with
    | none => (0x1FF, s)
    | some n => (n, s.claimTake t n)

/-- The timer whose count an address holds. -/
def cntTimer (a : Nat) : Option Nat :=
  if 0x5800 ≤ a && a < 0x5A00 && (a % 32 == 0x14 || a % 32 == 0x18) then some ((a - 0x5800) / 32) else none

/-- A read by a stall, a host link or the debug port: the word, and the state after it. -/
def State.busRead (s : State) (w : Writer) (a : Nat) : Nat × State :=
  let a := a / 4 * 4 % 65536
  let s := if isStall w then s else s.demand
  let s := if w == .debug then s.tapDbg else s
  if 0x5540 ≤ a && a < 0x555C then s.claim w ((a - 0x5540) / 4)
  else if 0xC000 ≤ a then (s.dbkRead a, s.dbkSeen a)
  else match cntTimer a with
    | some n => if s.tmRun n then (2 ^ 32 - 1, s.put Reg.TM_STAT_RD_RUN_ERR n 1) else (s.peek a, s)
    | none => (s.peek a, s)

/- Writes. -/

/-- A write to a register of the backup domain goes on its way (R343, R404); an unassigned address takes nothing. -/
def State.bkWrite (s : State) (a v : Nat) : State := if (fieldsAt a).isEmpty then s else { s with bkq := s.bkq ++ [(a, BitVec.ofNat 32 v)] }

/-- SOFT_RST (R56). -/
def State.softRst (s : State) (v : Nat) : State :=
  let s := s.regStore 0x4 v
  if v % 256 == 0xA5 then s.warmReset Reg.RST_CAUSE_HOST else s.ifDo (v % 256 != 0) (fun s => s.put Reg.SOFT_RST_KEY_BAD 0 1)

/-- The system block. -/
def State.storeSys (s : State) (a v : Nat) : State :=
  match a with
  | 0x4 => s.softRst v
  | 0x18 => s.nvmQueue bootCfgAddr ((s.nvmSeen bootCfgAddr).toNat / 2 * 2 + v % 2)
  | 0x80 => (s.regStore a v).ifDo (v.testBit 4) (fun s => (s.put Reg.HL_SPI_ERR_WR_CRC 0 0).put Reg.HL_SPI_ERR_RD_CRC 0 0)
  | 0x84 => (s.regStore a v).ifDo (!v.testBit 1) (fun s => s.put Hid.PM_ALERT 0 0)
  | _ => s.regStore a v

/-- STBY_CFG.SCAN_P in ms as it acts (R27). -/
def State.scanP (s : State) : Nat := min 10000 (s.get Reg.STBY_CFG_SCAN_P 0)

/-- STBY_CFG (R27): in STANDBY the bursts stop or the next one is timed anew. -/
def State.stbyCfg (s : State) (v : Nat) : State :=
  let s := s.regStore 0x408 v
  let p := s.scanP
  let late := !s.is Hid.BURST_ANY 0 || s.get Hid.BURST_T 0 + 1000 * p ≤ s.usec
  s.ifDo s.standby (fun s => s.mark Hid.BURST_NOW 0 (p != 0 && late))

/-- The power states' block. -/
def State.storePwr (s : State) (a v : Nat) : State :=
  match a with
  | 0x404 => s.pwrReq (v % 16)
  | 0x408 => s.stbyCfg v
  | _ => s.regStore a v

/-- The HOST record's origin: 6 the host or the debug port, 1 plus the pair for a stall (R157, R159; DEDUCED, log 22). -/
def State.originOf (s : State) (w : Writer) : Nat :=
  match w with
  | .stl st => 1 + s.phys st
  | _ => 6

/-- DBK_SNAP.GO (R157). -/
def State.snapGo (s : State) (w : Writer) : State :=
  (s.stageOther (some 128) (s.build tyHost (s.originOf w) s.dbkMask 255 255 [] [])).2

/-- The Keeper's block. -/
def State.storeKpr (s : State) (w : Writer) (a v : Nat) : State :=
  match a with
  | 0x800 => if v % 4 == 1 then s.requestOn else if v % 4 == 2 then s.requestOff else s
  | 0x840 =>
    let old := s.get Reg.DBK_CFG_TIMED_S 0
    let s := s.regStore a v
    s.ifDo (s.get Reg.DBK_CFG_TIMED_S 0 != old) (fun s => s.put Hid.TIMED_T 0 s.tick)
  | 0x84C => s.ifDo (v.testBit 0) (fun s => s.snapGo w)
  | _ => s.regStore a v

/-- Bits of a word replaced by those of another. -/
def keepBits (v old lo width : Nat) : Nat := v - bits v (lo + width - 1) lo * 2 ^ lo + bits old (lo + width - 1) lo * 2 ^ lo

/-- Whether a write changes a bit field. -/
def changes (v old lo width : Nat) : Bool := bits v (lo + width - 1) lo != bits old (lo + width - 1) lo

/-- MLC_FRAME.SRC changes (R100, R102): a frame that starts to follow SYNC_IN goes on at its frequency until it locks; one that leaves SYNC_IN is
neither locked nor holding (DESIGN CHOICE, log 64). -/
def State.srcWrite (s : State) (v : Nat) : State :=
  if v.testBit 12 then s.ifDo (!s.is Reg.MLC_FRAME_SRC 0) (fun s => s.put Reg.MLC_SYNC_STAT_FRAME_NOW 0 s.frameKhz)
  else (s.put Reg.MLC_SYNC_STAT_LOCK 0 0).put Reg.MLC_SYNC_STAT_HOLDING 0 0

/-- MLC_FRAME (R101). -/
def State.frameWrite (s : State) (v : Nat) : State :=
  let old := s.peek 0x1000
  if s.anyLoop then
    ((s.regStore 0x1000 (keepBits (keepBits v old 0 11) old 12 1)).ifDo (changes v old 0 11 || changes v old 12 1)
      (fun s => s.put Reg.MLC_SYNC_STAT_CFG_BUSY 0 1))
  else (s.srcWrite v).regStore 0x1000 v

/-- LPn_CTRL (R101). -/
def State.loopCtrl (s : State) (a v : Nat) : State :=
  let old := s.peek a
  if s.anyLoop then (s.regStore a (keepBits v old 0 3)).ifDo (changes v old 0 3) (fun s => s.put Reg.MLC_SYNC_STAT_CFG_BUSY 0 1)
  else s.regStore a v

/-- PHk_CFG (R70 to R72, R99): ignored while its loop, old or new, is enabled, and where a loop would have a 13th phase. Where the old loop is enabled
and the new one has 12 phases, CFG_BUSY of the old one alone is set (DESIGN CHOICE, log 64). -/
def State.phCfg (s : State) (k v : Nat) : State :=
  let was := s.is Reg.PH_CFG_ASSIGN k
  let old := s.get Reg.PH_CFG_LOOP k
  let now := v.testBit 3
  let new := v % 8
  let busyOld := was && s.lpEn old
  let busyNew := now && s.lpEn new
  if busyOld || busyNew then
    (s.ifDo busyOld (fun s => s.put Reg.LP_STAT_CFG_BUSY old 1)).ifDo busyNew (fun s => s.put Reg.LP_STAT_CFG_BUSY new 1)
  else if now && !(was && old == new) && 12 ≤ s.nCfg new then s.put Reg.LP_STAT_CFG_BUSY new 1
  else
    let acts := (List.range 8).map s.nAct
    let s := s.regStore (0x1040 + 4 * k) v
    s.forEach (below 8 (fun n => acts.getD n 0 != s.nAct n)) (fun s n => (s.irq (5 + n)).capLow n (acts.getD n 0))

/-- LPn_STAT: a clear of HSS unblocks the loop (R86). -/
def State.lpStat (s : State) (n v : Nat) : State :=
  let hss := s.is Reg.LP_STAT_HSS n
  let s := s.regStore (0x1228 + 64 * n) v
  s.ifDo (hss && v.testBit 4 && s.lp n == lpHss) (fun s => s.put Reg.LP_STAT_STATE n lpOff)

/-- The MLC. -/
def State.storeMlc (s : State) (a v : Nat) : State :=
  if a == 0x1000 then s.frameWrite v
  else if 0x1040 ≤ a && a < 0x10A0 then s.phCfg ((a - 0x1040) / 4) v
  else if 0x1200 ≤ a && a < 0x1400 && a % 64 == 0 then s.loopCtrl a v
  else if 0x1200 ≤ a && a < 0x1400 && a % 64 == 0x28 then s.lpStat ((a - 0x1200) / 64) v
  else s.regStore a v

/-- The channels of the Scales. -/
def State.storeChan (s : State) (a v : Nat) : State :=
  let n := (a - 0x2000) / 16
  match a % 16 with
  | 0 => s.chanCfg n v
  | 4 => s.chanThr n false v
  | 8 => s.chanThr n true v
  | _ => s.regStore a v

/-- The criers and the array. -/
def State.storeCrier (s : State) (a v : Nat) : State :=
  let c := (a - 0x2C00) / 16
  if a < 0x2D00 && a % 16 == 0 then s.crierWrite c false v
  else if a < 0x2D00 && a % 16 == 4 then s.crierWrite c true v
  else s.regStore a v

/-- PP_CTRL: CHG_EN, and the commands in the order of their bits. -/
def State.ppCtrl (s : State) (v : Nat) : State :=
  let s := s.regStore 0x3004 v
  let s := s.ifDo (v.testBit 1) State.batGo
  let s := s.ifDo (v.testBit 2) State.retest
  let s := s.ifDo (v.testBit 3) State.chgClr
  s.ifDo (v.testBit 4) State.searchAgain

/-- The power path and charger. -/
def State.storePath (s : State) (a v : Nat) : State :=
  match a with
  | 0x3000 => ((s.regStore a v).inputsCfg).selectNext
  | 0x3004 => s.ppCtrl v
  | _ => s.regStore a v

/-- The cable ports. -/
def State.storePort (s : State) (a v : Nat) : State :=
  let x := (a - 0x3800) / 128
  if 2 ≤ x then s
  else match a % 128 with
    | 0 => s.portCfg x v
    | 8 => s.portPps x v
    | 0x14 => s.portCtrl x v
    | _ => s.regStore a v

/-- NEW_PACK (R311). -/
def State.newPack (s : State) : State :=
  if s.hold then s.put Reg.GG_STAT_CMD_BAD 0 1
  else
    let s := { s with gauge := { s.gauge with qfc := (s.design : Nat) } }
    let s := ((s.put Reg.GG_QFC_Q_FC 0 s.design).put Reg.GG_QFC_LEARN_CNT 0 0).gaugeRestart
    (s.put Reg.GG_STAT_LEARN_PEND 0 1).jrnlLearn

/-- The gauge. -/
def State.storeGauge (s : State) (a v : Nat) : State := (s.regStore a v).ifDo (a == 0x401C && v.testBit 0) State.newPack

/-- LG_ADMIT from a host link (R327): ADMIT of a fenced unit, discarded where an event of the unit is still to be registered (R331); RCV_CLR. -/
def State.hostAdmit (s : State) (v : Nat) : State :=
  let n := v % 128
  let s := s.ifDo (v.testBit 8 && isUnit n && s.fencedBy n != 0) (fun s =>
    if s.evq.contains n then s.put Reg.LG_STAT_ADMIT_LOST 0 1 else s.admitUnit n)
  s.ifDo (v.testBit 9) (fun s => s.put Reg.LS_STAT_RCV n 0)

/-- The Ledger. -/
def State.storeLedger (s : State) (w : Writer) (a v : Nat) : State :=
  if a == 0x4808 then s.ifDo (isLink w) (fun s => s.hostAdmit v)
  else if 0x4810 ≤ a && a < 0x4820 then
    let j := (a - 0x4810) / 4
    s.forEach (below 32 (fun i => v.testBit i)) (fun s i => s.clearSticky (32 * j + i))
  else s.regStore a v

/-- Enables of a target set or cleared (R353); a source enabled may wake the part (R29). -/
def State.enables (s : State) (k v : Nat) (on : Bool) : State :=
  if on then (s.put Hid.IC_ENA k (s.get Hid.IC_ENA k ||| v)).forEach (below 32 (fun i => v.testBit i)) (fun s i => s.wake (32 * (k % 16) + i))
  else s.put Hid.IC_ENA k (s.get Hid.IC_ENA k - (s.get Hid.IC_ENA k &&& v))

/-- The interrupt controller. -/
def State.storeIrq (s : State) (a v : Nat) : State :=
  if 0x54C0 ≤ a && a < 0x54E0 then s.softPend ((a - 0x54C0) / 4) v
  else if 0x54E0 ≤ a && a < 0x5500 then s.softClear ((a - 0x54E0) / 4) v
  else if 0x5560 ≤ a && a < 0x557C then s.complete ((a - 0x5560) / 4) v
  else if 0x5600 ≤ a && a < 0x57C0 then
    let t := (a - 0x5600) / 64
    let o := (a - 0x5600) % 64
    if o < 32 then s.enables (16 * t + o / 4) v true else s.enables (16 * t + (o - 32) / 4) v false
  else s.regStore a v

/-- The timers. -/
def State.storeTimer (s : State) (a v : Nat) : State :=
  if a == 0x5A00 then s.tmGlobal v
  else if 0x5A00 < a then s
  else
    let n := (a - 0x5800) / 32
    match a % 32 with
    | 0 => s.tmCtrl n v
    | 4 => s.tmSet Reg.TM_PER_LO_PER n v
    | 8 => s.tmSet Reg.TM_PER_HI_PER n v
    | 0x10 => s.tmMatHi n v
    | 0x14 => s.tmSet Reg.TM_CNT_LO_CNT n v
    | 0x18 => s.tmSet Reg.TM_CNT_HI_CNT n v
    | _ => s.regStore a v

/-- The stalls and mailboxes. -/
def State.storeStall (s : State) (w : Writer) (a v : Nat) : State :=
  if a == 0x6000 then s.stlCtrl v
  else if 0x6040 ≤ a && a < 0x6050 then let st := (a - 0x6040) / 4; s.kick st (who w == 2 + st) v
  else if 0x6050 ≤ a && a < 0x6060 then s.hostPost ((a - 0x6050) / 4) (BitVec.ofNat 32 v)
  else if a == 0x6068 then s.mbxCtrl v
  else s.regStore a v

/-- Security and TPERT. -/
def State.storeSec (s : State) (w : Writer) (a v : Nat) : State :=
  match a with
  | 0x7004 => s.lcRequest (w == .debug) (isLink w || w == .stl 0) v
  | 0x7080 => s.otpCmd v
  | 0x7800 => s.tpCtrl v
  | 0x7804 => s.tpMag0 v
  | 0x7808 => s.tpMag1 v
  | _ => s.regStore a v

/-- A permitted write acts on the register at its address (R4, R9, R403). -/
def State.store (s : State) (w : Writer) (a v : Nat) : State :=
  if inDomain a then s.bkWrite a v
  else if a < 0x400 then s.storeSys a v
  else if a < 0x800 then s.storePwr a v
  else if a < 0x1000 then s.storeKpr w a v
  else if a < 0x2000 then s.storeMlc a v
  else if a < 0x2C00 then s.storeChan a v
  else if a < 0x3000 then s.storeCrier a v
  else if a < 0x3800 then s.storePath a v
  else if a < 0x4000 then s.storePort a v
  else if a < 0x4800 then s.storeGauge a v
  else if a < 0x5000 then s.storeLedger w a v
  else if a < 0x5400 then s
  else if a < 0x5800 then s.storeIrq a v
  else if a < 0x6000 then s.storeTimer a v
  else if a < 0x7000 then s.storeStall w a v
  else if a < 0x8000 then s.storeSec w a v
  else if a < 0xC000 then s.nvmWrite a v
  else s

/-- A write by a stall, a host link or the debug port: whether it is refused, and the state after it. A writer that is not linked makes none; a host
access in STANDBY starts FCLK (R18, R374); a debug write ends EXTEST (R399). -/
def State.busWrite (s : State) (w : Writer) (a v : Nat) : Bool × State :=
  let a := a / 4 * 4 % 65536
  if !s.linked w then (false, s)
  else
    let s := if isStall w then s else s.demand
    let s := if w == .debug then s.tapDbg else s
    if s.denied w a v then (true, s.reportRefused w a) else (false, s.store w a v)

/-- LAST_PROT, LAST_CRC and LAST_FRAME describe a frame of the SPI link from its start (R372). -/
def State.spiFrame (s : State) (w : Writer) : State := s.ifDo (w == .spi && s.linked w) (fun s => s.put Hid.SPI_LAST 0 0)

/-- A register write that is a command of its own: one word, which over SPI is a frame. -/
def regWrite (s : State) (w : Writer) (a v : Nat) : Out := ended ((s.spiFrame w).busWrite w a v).2

/-- A register read that is a command of its own: the word goes out to its reader. -/
def regGet (s : State) (w : Writer) (a : Nat) : Out :=
  if !s.linked w then done s
  else
    let r := (s.spiFrame w).busRead w a
    ended { r.2 with out := [BitVec.ofNat 32 r.1] }

end Sys2Proof.Machine
end

