-- ==== Sys2Proof/Machine/MlcCmd.lean ====
section
/-! DEFINITION. The commands of the multiphase loop controller that touch rails or the Ledger (R79 to R99). An event whose condition the state does
not meet changes nothing. -/

namespace Sys2Proof.Machine
open Sys2Proof

/-- HIGH_SIDE_SHORT (R85, R86): a short shows within the 100 µs of the check; the loop is blocked, its input switch opens, and HSS_PH names the phase. -/
def execHighSideShort (n : LoopN) (m : CheckSense) (s : State) : Out :=
  let s := s.sense n m.m
  ended (s.ifDo (s.up && s.lp n == lpCheck && s.shortSeen n m.v0 m.m.vsen && s.usec ≤ s.get Hid.LP_CHK_T n + 100) (fun s =>
    ((((s.put Reg.LP_STAT_STATE n lpHss).put Reg.LP_STAT_HSS n 1).swOpen n).put Reg.LP_STAT_HSS_PH n (s.hssPhase n)).raise (24 + n)))

/-- The soft start begins (R80, R81): the reference stands at V_PRE, and the phases work in diode emulation. -/
def State.softBegins (s : State) (n vPre : Nat) : State :=
  (((s.put Reg.LP_STAT_STATE n lpSoft).put Reg.LP_REF_VREF_NOW n vPre).put Hid.LP_ACC n 0).put Hid.LP_DIODE n 1

/-- PRESTART_CHECK_PASS (R85 step 3b, R80): 100 µs after its begin with no short; V_PRE is VSEN rounded down to a whole mV. -/
def execPrestartCheckPass (n : LoopN) (m : CheckSense) (s : State) : Out :=
  let s := s.sense n m.m
  done (s.ifDo (s.up && s.lp n == lpCheck && !s.shortSeen n m.v0 m.m.vsen) (fun s =>
    let s := s.passTime (s.get Hid.LP_CHK_T n + 100 - s.usec)
    s.ifDo (s.lp n == lpCheck) (fun s => s.softBegins n (wideMv m.m.vsen))))

/-- The soft start ends (R81): the reference stands at TARGET and the loop is in RUN; its rail may be GOOD (R136). -/
def State.softEnds (s : State) (n : Nat) : State :=
  ((((s.put Reg.LP_STAT_STATE n lpRun).put Reg.LP_REF_VREF_NOW n (s.get Reg.LP_REF_TARGET n)).put Hid.LP_ACC n 0).put Hid.LP_PGT n 0).tryGoods
    (fun r => s.outKind r == 1 && s.outNum r == n)

/-- The microseconds that a ramp still takes to a reference in mV (R80). -/
def State.rampLeft (s : State) (n goal : Nat) : Nat :=
  let v := s.get Reg.LP_REF_VREF_NOW n
  let d := if v < goal then goal - v else v - goal
  (20 * d - s.get Hid.LP_ACC n + s.rate n - 1) / s.rate n

/-- SOFT_START_END (R81): at the end of the ramp to TARGET. -/
def execSoftStartEnd (n : LoopN) (s : State) : Out :=
  ended (s.ifDo (s.up && s.lp n == lpSoft) (fun s =>
    let s := s.passTime (s.rampLeft n (s.get Reg.LP_REF_TARGET n))
    s.ifDo (s.lp n == lpSoft) (fun s => s.softEnds n)))

/-- LOOP_STOP_COMPLETE (R83, R79): at the end of the ramp to 0 mV. -/
def execLoopStopComplete (n : LoopN) (s : State) : Out :=
  ended (s.ifDo (s.vao && s.lp n == lpStopping) (fun s =>
    let s := s.passTime (s.rampLeft n 0)
    s.ifDo (s.lp n == lpStopping) (fun s => s.loopStopped n)))

/-- RUSH_END (R88 steps 3 and 4): VSEN is back above V_TGT - RUSH_TH / 2, or else 4 switching periods have passed. -/
def execRushEnd (l : LoopAt) (s : State) : Out :=
  let n := l.n
  let s := s.sense n l.m
  done (s.ifDo (s.is Hid.LP_RUSH n) (fun s =>
    (s.ifDo (s.rushLevel n (1 / 2)) (fun s => s.passTime (s.rushLast n - s.usec))).rushEnd n))

/-- BRAKE_END (R89 steps 3 and 4): VSEN is back below V_TGT + BRAKE_TH / 2, or else 2 µs have passed. -/
def execBrakeEnd (l : LoopAt) (s : State) : Out :=
  let n := l.n
  let s := s.sense n l.m
  done (s.ifDo (s.is Hid.LP_BRAKE n) (fun s =>
    (s.ifDo (s.brakeLevel n (1 / 2)) (fun s => s.passTime (s.brakeLast n - s.usec))).brakeEnd n))

/-- The conditions under which PGn may assert, but for their time (R93): RUN, a phase in service, VSEN in the window. -/
def State.pgMay (s : State) (n : Nat) : Bool := s.lp n == lpRun && s.nAct n != 0 && s.inPgWin n

/-- PG_ASSERT (R93): the window has held for PG_ON_DLY. -/
def execPgAssert (l : LoopAt) (s : State) : Out :=
  let n := l.n
  let s := s.sense n l.m
  ended (s.ifDo (s.up && s.pgMay n && !s.is Reg.LP_STAT_PG n) (fun s =>
    let s := s.passTime (s.pgOnDly n - s.get Hid.LP_PGT n)
    s.ifDo (s.pgMay n) (fun s => (s.pgHigh n).put Hid.LP_PGT n 0)))

/-- PG_DEASSERT (R93): VSEN has been outside the window for PG_OFF_FILT; the other ways in which PGn deasserts are the effects of what brings them about. -/
def execPgDeassert (l : LoopAt) (s : State) : Out :=
  let n := l.n
  let s := s.sense n l.m
  ended (s.ifDo (s.up && s.is Reg.LP_STAT_PG n && !s.inPgWin n) (fun s => (s.passTime (s.pgOffFilt n - s.get Hid.LP_PGT n)).pgLow n))

/-- PHASE_FAULT_DETECT (R95, R96): the lowest cause whose level has stood for its time is recorded, and PHASE_FLT raised. -/
def execPhaseFaultDetect (k : PhaseN) (m : FaultSense) (s : State) : Out :=
  let s := s.sense (s.get Reg.PH_CFG_LOOP k) m.m
  let c := s.phaseCause k m.times
  ended (s.ifDo (s.up && s.faultLive k && c != 0) (fun s => (s.put Reg.PH_STAT_CAUSE k c).raise k))

/-- READMIT_CHECK_END (R98): after one switching period the phase rejoins where |I_k| is at most 2.0 A, or stays fenced with a new PHASE_FLT event, on
which its recovery rests again (R326). -/
def execReadmitCheckEnd (k : PhaseN) (visen : Nat) (s : State) : Out :=
  let s := s.put Hid.PH_VISEN k visen
  ended (s.ifDo (s.up && s.is Hid.PH_CHECK k) (fun s =>
    let s := s.passTime (s.get Hid.PH_CHK_T k + s.periods (s.get Reg.PH_CFG_LOOP k) 1 - s.usec)
    s.ifDo (s.is Hid.PH_CHECK k) (fun s =>
      if ampsApart (s.amps k) 0 ≤ 2 then s.phaseJoin k
      else (((s.put Hid.PH_CHECK k 0).put Hid.PH_FBY k 1).put Reg.PH_STAT_CAUSE k 4).raise k)))

/-- Power good over one microsecond of a running loop (R93): the time that VSEN has stood on the other side of the window than PG says. -/
def State.pgTick (s : State) (n : Nat) : State :=
  let c := s.get Hid.LP_PGT n + 1
  if s.lp n != lpRun || (s.inPgWin n == s.is Reg.LP_STAT_PG n) then s.put Hid.LP_PGT n 0
  else if s.is Reg.LP_STAT_PG n then (if s.pgOffFilt n ≤ c then s.pgLow n else s.put Hid.LP_PGT n c)
  else if s.pgOnDly n ≤ c && s.nAct n != 0 then (s.pgHigh n).put Hid.LP_PGT n 0
  else s.put Hid.LP_PGT n (min 1023 c)

/-- One microsecond of a loop whose phases switch: its reference and where it ends (R80 to R83), its samples and periods, the ends of rush and braking,
and power good. -/
def State.loopUs (s : State) (n : Nat) : State :=
  if !s.switching n then s
  else
    let s := s.rampTick n
    if s.lp n == lpStopping && !s.is Reg.LP_REF_VREF_NOW n then s.loopStopped n
    else
      let s := s.ifDo (s.lp n == lpSoft && s.get Reg.LP_REF_VREF_NOW n == s.get Reg.LP_REF_TARGET n) (fun s => s.softEnds n)
      ((s.loopClock n).eventEnds n).pgTick n

/-- HSS_CLEAR (R86): a write of 1 to LPn_STAT.HSS. -/
def execHssClear (w : Writer) (n : LoopN) (s : State) : Out := regWrite s w (0x1228 + 64 * n) 16

end Sys2Proof.Machine
end

