-- ==== Sys2Proof/Machine/ScalesCmd.lean ====
section
/-! DEFINITION. The commands of the Scales and the criers (R105 to R133). -/

namespace Sys2Proof.Machine
open Sys2Proof

/-- SCAN_END (R109, R119): with FCLK usable, in ACTIVE and HOLD, and in STANDBY during a burst. -/
def execScanEnd (sample : ScanSample) (s : State) : Out :=
  ended (s.ifDo (s.up && s.fclk && (!s.standby || s.is Hid.BURST 0)) (fun s => s.scanEnd sample))

/-- CHN_CFG_WRITE (R113, R106). -/
def execChnCfgWrite (w : Writer) (n : ChanN) (v : Word) (s : State) : Out := regWrite s w (0x2000 + 16 * n) v.toNat

/-- CHN_THRESHOLD_WRITE (R113, R133): CHn_UV or CHn_OV. -/
def execChnThresholdWrite (w : Writer) (n : ChanN) (uv : Bool) (v : Word) (s : State) : Out :=
  regWrite s w (0x2004 + 16 * n + (if uv then 4 else 0)) v.toNat

/-- A side's filtered output changes: it shows at once, and it reaches the Keeper outside a blank (R127, R128). -/
def State.crierSet (s : State) (c : Nat) (hi v : Bool) : State :=
  (s.crierMove c hi v).ifDo (!s.is Hid.CR_BLANK c) (fun s => s.crierTake c hi v)

/-- A side that works trips on an input of `uv` µV that has stood there for `ns` (R126). -/
def State.crierUp (s : State) (c : Nat) (hi : Bool) (uv ns : Nat) : Bool :=
  s.crierOn c && s.crierSide c hi && !s.crierOut c hi && s.crierTrips c hi uv ns

/-- A tripped side releases on such an input (R126). -/
def State.crierDown (s : State) (c : Nat) (hi : Bool) (uv ns : Nat) : Bool := s.crierOn c && s.crierOut c hi && s.crierFrees c hi uv ns

/-- CRIER_TRIP (R126, R127, R138): the input has stood beyond the side's threshold for FILT. -/
def execCrierTrip (c : CrierN) (side : CrierSense) (s : State) : Out :=
  ended (s.ifDo (s.vao && s.crierUp c side.hi side.uv side.ns) (fun s => s.crierSet c side.hi true))

/-- CRIER_RELEASE (R126, R127): the input has stood inside the side's threshold by its hysteresis for FILT. -/
def execCrierRelease (c : CrierN) (side : CrierSense) (s : State) : Out :=
  ended (s.ifDo (s.vao && s.crierDown c side.hi side.uv side.ns) (fun s => s.crierSet c side.hi false))

/-- CRIER_CFG_WRITE (R126, R128, R133): CRc_THR or CRc_CFG. -/
def execCrierCfgWrite (w : Writer) (c : CrierN) (thr : Bool) (v : Word) (s : State) : Out :=
  regWrite s w (0x2C00 + 16 * c + (if thr then 4 else 0)) v.toNat

/-- A side at the end of a blank: its output as it then stands, where it differs from the one held, is reported (R128). -/
def State.blankSide (s : State) (c : Nat) (hi : Bool) : State :=
  s.ifDo (s.crierHeld c hi != s.crierOut c hi) (fun s => s.crierTake c hi (s.crierOut c hi))

/-- The end of a blank. -/
def State.blankEnds (s : State) (c : Nat) : State :=
  (s.put Hid.CR_BLANK c 0).ifDo (s.crierOn c) (fun s => (s.blankSide c true).blankSide c false)

/-- A side's output follows an input that a command brings (R126). -/
def State.crierSees (s : State) (c : Nat) (hi : Bool) (uv ns : Nat) : State :=
  if s.crierUp c hi uv ns then s.crierMove c hi true else s.ifDo (s.crierDown c hi uv ns) (fun s => s.crierMove c hi false)

/-- CRIER_BLANK_END (R128): 5 µs after the write, with the input's voltage in µV and the ns for which it has stood there. -/
def execCrierBlankEnd (c : CrierN) (uv ns : Nat) (s : State) : Out :=
  ended (s.ifDo (s.vao && s.is Hid.CR_BLANK c) (fun s =>
    let s := s.passTime (s.get Hid.CR_BLANK_T c + 5 - s.usec)
    s.ifDo (s.is Hid.CR_BLANK c) (fun s => ((s.crierSees c true uv ns).crierSees c false uv ns).blankEnds c)))

end Sys2Proof.Machine
end

