-- ==== Sys2Proof/Machine/KeeperCmd.lean ====
section
/-! DEFINITION. The commands of the Keeper and the Daybook (R136 to R160). -/

namespace Sys2Proof.Machine
open Sys2Proof

/-- KEEPER_ON_REQUEST (R141, R143, R150): KPR_CTRL.REQ = 1. -/
def execKeeperOnRequest (w : Writer) (s : State) : Out := regWrite s w 0x800 1

/-- KEEPER_OFF_REQUEST (R141, R142): KPR_CTRL.REQ = 2. -/
def execKeeperOffRequest (w : Writer) (s : State) : Out := regWrite s w 0x800 2

/-- TOFF_MIN_EXPIRY (R143): in OFF with PEND_ON. -/
def execToffMinExpiry (s : State) : Out :=
  ended (s.ifDo (s.runs && s.kp == kpOff && s.is Reg.KPR_STAT_PEND_ON 0 && !s.is Hid.EXT 0) State.enterRising)

/-- SHUTDOWN_STEP (R145): the present step of a shutdown, whole or BRANCH, is over. -/
def execShutdownStep (s : State) : Out := ended (s.ifDo s.vao State.shutdownStep)

/-- SHUTDOWN_TIMEOUT (R146); a warm reset's shutdown has WARM_TMO in its place. -/
def execShutdownTimeout (s : State) : Out := ended (s.ifDo (s.vao && s.is Hid.SD_RUN 0 && !s.is Hid.WARM 0) State.shutdownTimeout)

/-- UP_TIMEOUT (R149); suspended while the Scales are blind for a rail that names a channel (R151). -/
def execUpTimeout (r : RailN) (s : State) : Out :=
  ended (s.ifDo (s.up && s.rail r == rsStart && !(s.is Reg.SCN_STAT_BLIND 0 && s.hasChan r))
    (fun s => ((s.setLatch 1 r 255).raise 76).shutdown))

/-- BLIND_TIMEOUT (R151). -/
def execBlindTimeout (s : State) : Out :=
  ended (s.ifDo (s.up && s.is Reg.SCN_STAT_BLIND 0 && s.is Reg.KPR_CFG_BLIND_TMO 0 && !s.is Hid.BLIND_SD 0) (fun s =>
    let s := (s.put Hid.BLIND_SD 0 1).setLatch 3 255 255
    (s.record tyBlind 255 255 (leBytes 4 s.blindFor)).shutdown))

/-- SQ_PG_FILTER (R136, R138): the level at the pin has held for PG_FILT; a pin in power-good mode passes it to the Keeper. -/
def execSqPgFilter (p : SqN) (level : Bool) (s : State) : Out :=
  ended (s.ifDo s.up (fun s =>
    let s := s.mark Reg.SQ_CFG_IN p level
    s.ifDo (s.sqMode p == 3 && s.is Hid.SQ_PG p != level) (fun s => (s.mark Hid.SQ_PG p level).pgChange p level)))

/-- SQ_RAIL_GOOD_DELAY (R136): for a rail in START whose good test names nothing. -/
def execSqRailGoodDelay (p : SqN) (s : State) : Out :=
  ended (s.ifDo s.up (fun s =>
    match s.railOf 2 p with
    | none => s
    | some r => s.ifDo (s.rail r == rsStart && !s.hasChan r && !s.hasPg r) (fun s => s.becomeGood r)))

/-- LATCH_CLEAR (R150): KPR_LATCH.CLR. -/
def execLatchClear (w : Writer) (s : State) : Out := regWrite s w 0x80C 2

/-- DAYBOOK_ACK (R150): KPR_LATCH.DAYBOOK_ACK. -/
def execDaybookAck (w : Writer) (s : State) : Out := regWrite s w 0x80C 4

/-- DAYBOOK_UNIT_WRITE_DONE (R155, R409): read back right or not. -/
def execDaybookUnitWriteDone (ok : Bool) (s : State) : Out :=
  ended (s.ifDo (s.carries && s.get Hid.NVM_JOB 0 == 2) (fun s => (s.daybookUnit ok).2))

/-- DAYBOOK_TOKEN (R156). -/
def execDaybookToken (s : State) : Out := done (s.ifDo s.vao (fun s => s.sat Reg.DBK_STAT_TOKENS 0 64))

/-- A TIMED record is due by the tick count (R157). -/
def State.timedIsDue (s : State) : Bool :=
  let p := s.get Reg.DBK_CFG_TIMED_S 0
  p != 0 && p * 2 ^ 15 ≤ s.tick - s.get Hid.TIMED_T 0

/-- A TIMED record falls due; the next period counts from the due instant (R157). -/
def State.timedDue (s : State) : State :=
  let s := s.put Hid.TIMED_T 0 (s.get Hid.TIMED_T 0 + s.get Reg.DBK_CFG_TIMED_S 0 * 2 ^ 15)
  (s.demand.stageOther none (s.build tyTimed 0 s.dbkMask 255 255 [] [])).2

/-- TIMED_RECORD (R157), through STANDBY and warm resets. -/
def execTimedRecord (s : State) : Out := ended (s.ifDo (s.vao && s.timedIsDue) State.timedDue)

/-- DBK_CFG_WRITE (R157). -/
def execDbkCfgWrite (w : Writer) (v : Word) (s : State) : Out := regWrite s w 0x840 v.toNat

/-- HOST_SNAPSHOT (R157): DBK_SNAP.GO. -/
def execHostSnapshot (w : Writer) (s : State) : Out := regWrite s w 0x84C 1

/-- DAYBOOK_CRC_READ (R150, R405, R411): the CRC word of a record in the window. -/
def execDaybookCrcRead (w : Writer) (rec : Fin 16) (s : State) : Out := regGet s w (0xC3FC + 0x400 * rec)

end Sys2Proof.Machine
end

