-- ==== Sys2Proof/Machine/PathCmd.lean ====
section
/-! DEFINITION. The commands of the power path, the charger and the battery (R237 to R268). An event whose condition the state does not meet
changes nothing. -/

namespace Sys2Proof.Machine
open Sys2Proof

/- Inputs. -/

/-- An input can come into its range: for a port, in an attach as sink (R241). -/
def State.canRange (s : State) (i : Nat) : Bool := i == 0 || s.sinkOn (i - 1)

/-- What an input back in range means for the steps of R33 and R42 past their step 4: SHIP_PEND, or STANDBY with the empty flag set until the input is
qualified (R33, R43). -/
def State.stepsInput (s : State) (i : Nat) : State :=
  if s.get Hid.TSTEP 0 != 5 then s
  else if s.trans == trEmpty then (s.put Hid.RAISER 0 (i + 1)).rest 1
  else s.ifDo (s.trans == trShip) (fun s => s.rest 4)

/-- INPUT_IN_RANGE (R241). -/
def execInputInRange (i : InputN) (s : State) : Out :=
  ended (s.ifDo (s.vao && s.canRange i) (fun s =>
    (((s.put Hid.IN_OK i 1).put Hid.IN_PWR i 1).ifDo (s.inSt i == inAbsent && s.inEn i) (fun s => s.setInSt i inDebounce)).stepsInput i))

/-- INPUT_OUT_OF_RANGE (R241, R291): of an input that is not selected, with whether it still stands above the pre-regulator's threshold (R43, R47); a
transition that runs at a port is aborted. -/
def execInputOutOfRange (out : InputLeft) (s : State) : Out :=
  let i := out.i
  ended (s.ifDo (s.vao && s.sel != some i.val) (fun s =>
    let s := (((s.put Hid.IN_OK i 0).mark Hid.IN_PWR i out.above).setInSt i inAbsent).notReady i
    let s := s.ifDo (i.val != 0 && s.moving (i.val - 1)) (fun s => s.portAbort (i.val - 1))
    s.ifDo out.above (fun s => s.stepsInput i)))

/-- INPUT_DEBOUNCE_END (R241, R242): of an input, and of those whose debounce ends on the same slow tick (R268). -/
def execInputDebounceEnd (ready : InputsSettled) (s : State) : Out :=
  ended (s.ifDo s.vao (fun s =>
    (s.forEach (below 3 (fun j => (j == ready.i || ready.same.any (fun k => k.val == j)) && s.inSt j == inDebounce && s.is Hid.IN_OK j))
      (fun s j => s.setInSt j inReady)).selectNext))

/-- INPUT_UPGRADE (R242, R247): held while a search runs (R268). -/
def execInputUpgrade (i : InputN) (s : State) : Out :=
  ended (s.ifDo (s.vao && s.mayUpgrade i) (fun s =>
    if s.sel.any (fun j => s.inSt j == inSearch) then s.holdUpgrade i else s.upgrade i))

/-- The tick count of the older of the two trips before, if that makes this one the third in 60 s (R286). -/
def State.thirdTrip (s : State) (x : Nat) : Bool :=
  s.get Hid.PO_OVN x == 2 && (s.tick + 2 ^ 48 - s.get Hid.PO_OVT (2 * x)) % 2 ^ 48 ≤ 60 * 32768

/-- A VBUS OV trip enters the history of the port. -/
def State.tripNote (s : State) (x : Nat) : State :=
  ((s.put Hid.PO_OVT (2 * x) (s.get Hid.PO_OVT (2 * x + 1))).put Hid.PO_OVT (2 * x + 1) s.tick).sat Hid.PO_OVN x 2

/-- VBUS OV at a sink port (R243, R285, R286, R296): the loss where the port is selected; a Hard_Reset where a contract stands; the abort of a
transition; the third trip within 60 s puts the port in DISABLED. -/
def State.sinkOv (s : State) (x : Nat) : State :=
  let third := s.thirdTrip x
  let s := ((s.tripNote x).portFlag Reg.PORT_EVT_OVP x).raise (96 + x)
  let cut := s.moving x
  let s := s.put Hid.IN_OK (x + 1) 0
  let s := if s.sel == some (x + 1) then (s.flag Reg.PP_EVT_OV 0 1).lostInput (x + 1) inAbsent
    else (s.setInSt (x + 1) inAbsent).notReady (x + 1)
  let s := s.ifDo (s.phy x && s.get Reg.PORT_STAT_CONTRACT x != 0) (fun s => s.sendHardReset x)
  let s := s.ifDo cut (fun s => s.portAbort x)
  s.ifDo third (fun s => (s.unattach x tcDisabled).put Reg.PORT_STAT_LATCHED x 1)

/-- VBUS of a sink port fell below its loss level (R243, R291). -/
def State.sinkLow (s : State) (x : Nat) : State :=
  let s := (s.put Hid.IN_OK (x + 1) 0).lostInput (x + 1) inAbsent
  s.ifDo (s.moving x) (fun s => s.portAbort x)

/-- Reverse current at the selected input (R243, R285). -/
def State.reverse (s : State) (i : Nat) (inRange : Bool) : State :=
  let s := (s.flag Reg.PP_EVT_RCP 0 1).mark Hid.IN_OK i inRange
  let s := s.lostInput i (if inRange && s.inEn i then inDebounce else inAbsent)
  s.ifDo (i != 0) (fun s => (s.portFlag Reg.PORT_EVT_RCP (i - 1)).raise (95 + i))

/-- A loss of the selected input by its cause. -/
def State.lossBy (s : State) (i : Nat) (cause : LossCause) : State :=
  match cause with
  | .level above =>
    let s := s.mark Hid.IN_PWR i above
    if i == 0 then (s.put Hid.IN_OK 0 0).lostInput 0 inAbsent else s.sinkLow (i - 1)
  | .ov => if i == 0 then ((s.flag Reg.PP_EVT_OV 0 1).put Hid.IN_OK 0 0).lostInput 0 inAbsent else s.sinkOv (i - 1)
  | .reverse inRange => s.reverse i inRange

/-- INPUT_LOSS (R243, R244). -/
def execInputLoss (cause : LossCause) (s : State) : Out :=
  ended (if !s.vao then s else match s.sel with
    | none => s
    | some i => s.lossBy i cause)

/-- INPUT_SWITCH_FAIL (R244). -/
def execInputSwitchFail (i : InputN) (s : State) : Out :=
  ended (s.ifDo (s.vao && s.sel == some i.val) (fun s =>
    let was := s.qualified i
    (((s.flag Reg.PP_EVT_INSW_FAIL 0 1).raise 88).openInput i inFault).afterLoss i was))

/- The search. -/

/-- A dip: DCIN (mV) below the higher of QMIN and VIN0 (1 - DIP_PCT / 100) (R249). -/
def State.dips (s : State) (vin0 vin : Nat) : Bool :=
  100 * vin < max (10000 * s.dcQmin) (vin0 * (100 - max 2 (min 20 (s.get Reg.PP_SRCH_DIP_PCT 0))))

/-- SEARCH_STEP (R249, R251): VIN0, the lowest DCIN of the step, and for how many hundredths of it the converter was in regulation. -/
def execSearchStep (vin0 vin reg : Nat) (s : State) : Out :=
  ended (s.ifDo (s.vao && s.sel == some 0 && s.convOn) (fun s =>
    let s := s.mark Hid.CHG_CUT 0 (50 ≤ reg)
    let dip := s.dips vin0 vin
    if s.inSt 0 == inSearch then s.searchStep dip (50 ≤ reg)
    else s.ifDo (s.inSt 0 == inFeed) (fun s => s.searchBack dip (100 ≤ reg))))

/-- PP_CTRL with one command bit, CHG_EN as it stands. -/
def State.ppWord (s : State) (bit : Nat) : Nat := s.get Reg.PP_CTRL_CHG_EN 0 + bit

/-- SEARCH_RESTART (R251): PP_CTRL.SRCH_GO. -/
def execSearchRestart (w : Writer) (s : State) : Out := regWrite s w 0x3004 (s.ppWord 16)

/-- SUPPLEMENT_START (R250, R267): the battery carries what the input cannot; after a release VSYS below VBAT turns the BATFET on. -/
def execSupplementStart (s : State) : Out :=
  ended (s.ifDo (s.vao && s.sel.isSome && s.batAvail && !s.is Reg.PP_STAT_SUPPL 0) (fun s =>
    (((s.put Reg.PP_STAT_SUPPL 0 1).flag Reg.PP_EVT_SUPPL_SEEN 0 1).irq 58).ifDo (s.is Hid.CONV_REL 0)
      (fun s => s.put Reg.PP_STAT_BFET 0 bfOn)))

/-- SUPPLEMENT_END (R250). -/
def execSupplementEnd (s : State) : Out := done (s.put Reg.PP_STAT_SUPPL 0 0)

/-- BAT_GO (R254): PP_CTRL.BAT_GO. -/
def execBatGo (w : Writer) (s : State) : Out := regWrite s w 0x3004 (s.ppWord 2)

/-- BATFET_SOFTSTART_END (R254). -/
def execBatfetSoftstartEnd (s : State) : Out :=
  ended (s.ifDo (s.vao && s.get Reg.PP_STAT_BFET 0 == bfSoft) (fun s => (s.put Reg.PP_STAT_BFET 0 bfArmed).bfetRefresh))

/-- BATFET_SOFTSTART_FAIL (R254). -/
def execBatfetSoftstartFail (s : State) : Out :=
  ended (s.ifDo (s.vao && s.get Reg.PP_STAT_BFET 0 == bfSoft)
    (fun s => (((s.put Reg.PP_STAT_BFET 0 bfOff).put Hid.BF_LOCK 0 1).flag Reg.PP_EVT_BFET_SS_FAIL 0 1).raise 89))

/- The charger. -/

/-- The charger's next phase at a battery voltage (R255): from INHIBIT once nothing inhibits it, from PRECHARGE to FAST, from FAST to CV. -/
def State.phaseMove (s : State) (vbat : Nat) : State :=
  let s := s.ifDo s.charging (fun s => s.mark Hid.CHG_LIN 0 (vbat < s.vsysMin))
  match s.phase with
  | 0 => s.ifDo (s.inhibit == 0) (fun s => s.phaseFrom vbat)
  | 1 => s.ifDo (s.cells * (s.vpre + 100) ≤ vbat) (fun s => s.setPhase 2 0)
  | 2 => s.ifDo (s.cells * s.vregNow ≤ vbat) (fun s => s.setPhase 3 0)
  | _ => s

/-- CHARGER_PHASE_CHANGE (R255): VBAT in mV. -/
def execChargerPhaseChange (vbat : Nat) (s : State) : Out := ended (s.ifDo s.vao (fun s => s.phaseMove vbat))

/-- CHARGE_TERMINATION (R255). -/
def execChargeTermination (s : State) : Out := ended (s.ifDo (s.vao && s.phase == 3) (fun s => s.setPhase 4 0))

/-- RECHARGE (R255): VBAT has fallen to VREG - VRECHG, and has stood below it for 10 s; below VSYS_MIN where that threshold is (DEDUCED, log 36). -/
def execRecharge (s : State) : Out :=
  ended (s.ifDo (s.vao && s.phase == 4)
    (fun s => (s.mark Hid.CHG_LIN 0 (s.cells * (s.vregNow - s.vrechg) ≤ s.vsysMin)).setPhase 2 0))

/-- PRE_TMO_EXPIRY (R255, R258): time passes until the count reaches PRE_TMO. -/
def execPreTmoExpiry (s : State) : Out := ended (s.ifDo (s.vao && s.phase == 1) (fun s => s.passTime (s.preTmo - s.get Hid.CHG_PRE_T 0)))

/-- SAFE_TMO_EXPIRY (R255, R258): time passes until the count reaches SAFE_TMO. -/
def execSafeTmoExpiry (s : State) : Out :=
  ended (s.ifDo (s.vao && (s.phase == 2 || s.phase == 3))
    (fun s => s.passTime ((s.safeTmo - s.get Hid.CHG_SAFE_T 0 + s.safeRate - 1) / s.safeRate)))

/-- CHARGE_OVERCURRENT (R255), in every phase. -/
def execChargeOvercurrent (s : State) : Out := ended (s.ifDo s.vao (fun s => s.chgFault 4))

/-- CHG_CLR (R255, R268): PP_CTRL.CHG_CLR; a charge current that is still too high is a FAULT again; the phase after INHIBIT comes of VBAT where
nothing inhibits. -/
def execChgClr (w : Writer) (now : ChgSense) (s : State) : Out :=
  let was := s.phase
  let s := (s.spiFrame w).busWrite w 0x3004 (s.ppWord 8)
  let s := s.2.ifDo (now.high && was == 5 && s.2.phase == 0) (fun s => s.chgFault 4)
  ended (s.ifDo (s.vao && s.phase == 0 && s.inhibit == 0) (fun s => s.phaseFrom now.vbat))

/-- CHG_NEED (R259): VBAT has stood below VREG - VRECHG for 10 s, or below VPRE; once per STANDBY entry. -/
def execChgNeed (s : State) : Out :=
  ended (s.ifDo (s.vao && s.standby && s.batPresent && s.anyInput && !s.is Hid.CHG_ONCE 0)
    (fun s => (s.put Hid.CHG_ONCE 0 1).irq 48))

/- The battery. -/

/-- PRESENCE_TEST_PERIOD (R260): every 1 s while BATT_ABSENT is set, every PT_PERIOD while the battery is PRESENT and not charging. -/
def execPresenceTestPeriod (s : State) : Out :=
  ended (s.ifDo (s.vao && (s.is Reg.PP_STAT_BATT_ABSENT 0 || (s.batPresent && s.is Reg.CHG_TMR_PT_PERIOD 0 && !s.charging))) State.ptStart)

/-- RETEST (R241, R260): PP_CTRL.RETEST. -/
def execRetest (w : Writer) (s : State) : Out := regWrite s w 0x3004 (s.ppWord 4)

/-- PRESENCE_TEST_END (R260, R261, R263). -/
def execPresenceTestEnd (r : PresenceResult) (s : State) : Out := ended (s.ifDo (s.vao && s.is Hid.PT_RUN 0) (fun s => s.ptEnd (s.ptResult r)))

/-- BATTERY_REMOVAL (R262, R263): while charging. -/
def execBatteryRemoval (s : State) : Out :=
  ended (s.ifDo (s.vao && s.charging) (fun s => (s.batGone.flag Reg.PP_EVT_BAT_REMOVED 0 1).raise 89))

/-- BATTERY_UNDERVOLTAGE (R264). -/
def execBatteryUndervoltage (s : State) : Out :=
  ended (s.ifDo (s.vao && s.onBatt) (fun s =>
    ((s.flag Reg.PP_EVT_BUV 0 1).raise 90).ifDo (s.hold || s.standby) State.batteryEmpty))

/-- DISCHARGE_OVERCURRENT (R265): the current through the charge shunt, in every mode of the BATFET. -/
def execDischargeOvercurrent (s : State) : Out := ended (s.ifDo s.vao (fun s => (s.flag Reg.PP_EVT_BOCP 0 1).raise 91))

/-- DISCHARGE_SHORT (R265). -/
def execDischargeShort (s : State) : Out :=
  ended (s.ifDo s.vao (fun s => (((s.put Reg.PP_STAT_BFET 0 bfOff).put Hid.BF_SHORT 0 1).flag Reg.PP_EVT_BSCP 0 1).raise 89))

/-- CONVERTER_RESTART (R267). -/
def execConverterRestart (s : State) : Out :=
  ended (s.ifDo (s.vao && s.is Hid.CONV_REL 0) (fun s => (s.put Hid.CONV_REL 0 0).put Hid.CONV_ON 0 1))

/-- PORT_FEED_ENTRY (R252): the selected port's converter runs. -/
def execPortFeedEntry (x : PortN) (s : State) : Out :=
  ended (s.ifDo (s.vao && s.sel == some (x.val + 1) && s.inSt (x + 1) == inSearch && s.convOn) (fun s => s.feed (x + 1)))

end Sys2Proof.Machine
end

