-- ==== Sys2Proof/Machine/PortCmd.lean ====
section
/-! DEFINITION. The commands of the cable ports (R271 to R296): attach and detach, the messages of the partner, source supply, and protection. An
event whose condition the state does not meet changes nothing. The contents and the order of messages that the manual leaves to the USB Power Delivery
Specification follow it (PRESUMED, log 8). -/

namespace Sys2Proof.Machine
open Sys2Proof

/-- The code of an Rp level in PORTx_STAT.TC_LVL. -/
def rpCode (l : RpLevel) : Nat :=
  match l with
  | .dflt => 1
  | .a15 => 2
  | .a30 => 3

/- Attach (R273). -/

/-- The port is free for an attach: unattached, in AttachWait, or in Try.SNK. -/
def State.tcFree (s : State) (x : Nat) : Bool := s.tcIdle x || s.tc x == tcTry

/-- The port's own termination stands that an attach needs: Rd for a sink, Rp for a source, by role and in DRP by the toggle; from Try.SNK, which found
no source, the port becomes the source after all. -/
def State.presents (s : State) (x : Nat) (source : Bool) : Bool :=
  if source then s.ownRp x || (s.terminates x && s.tc x == tcTry) else s.ownRd x

/-- An attach reported: role, orientation, level, EVT.ATTACH. -/
def State.attached (s : State) (x tc prole lvl : Nat) (cc2 : Bool) : State :=
  let s := (((s.put Reg.PORT_STAT_TC x tc).put Reg.PORT_STAT_PROLE x prole).put Reg.PORT_STAT_DROLE x prole).put Hid.PO_RP x prole
  ((s.mark Reg.PORT_STAT_ORIENT x cc2).put Reg.PORT_STAT_TC_LVL x lvl).portFlag Reg.PORT_EVT_ATTACH x

/-- A partner's termination is met: the debounce begins in AttachWait; or it has been debounced and the port attaches in a role; a DRP with TRY_SNK set
tries the sink role before it becomes a source. -/
def State.attach (s : State) (x : Nat) (a : Attach) : State :=
  match a with
  | .wait source => s.ifDo (s.presents x source && s.tc x == tcOpen) (fun s => s.put Reg.PORT_STAT_TC x tcWait)
  | .sink cc2 lvl => s.ifDo (s.presents x false) (fun s => s.attached x tcSnk 0 (rpCode lvl) cc2)
  | .source cc2 ra =>
    if !s.presents x true then s
    else if s.role x == 2 && s.is Reg.PORT_CFG_TRY_SNK x && s.tc x != tcTry then (s.put Reg.PORT_STAT_TC x tcTry).put Hid.PO_RP x 0
    else ((s.attached x tcSrc 1 0 cc2).mark Hid.PO_RA x ra).sourceStart x

/-- TYPEC_ATTACH (R273, R282). -/
def execTypecAttach (x : PortN) (a : Attach) (s : State) : Out := ended (s.ifDo (s.vao && s.tcFree x) (fun s => s.attach x a))

/-- The end of an attach: a sink's input is lost (R243), a transition is aborted (R291, R296), the port is unattached and unlatched (R286, R292). -/
def State.detach (s : State) (x : Nat) : State :=
  let cut := s.moving x
  let s := s.portEnds x
  let s := (s.unattach x tcOpen).put Reg.PORT_STAT_LATCHED x 0
  (s.portFlag Reg.PORT_EVT_DETACH x).ifDo cut (fun s => s.portFlag Reg.PORT_EVT_ABORT x)

/-- TYPEC_DETACH (R292, R286): from AttachWait or Try.SNK the port only returns to unattached; in ErrorRecovery it presents nothing and sees nothing. -/
def execTypecDetach (x : PortN) (s : State) : Out :=
  ended (if s.tc x == tcWait || s.tc x == tcTry then s.ifDo s.vao (fun s => s.put Reg.PORT_STAT_TC x tcOpen)
    else s.ifDo (s.vao && s.tc x != tcRecover && (s.tc x != tcOpen || s.sel == some (x.val + 1))) (fun s => s.detach x))

/-- DRP_TOGGLE (R273): an unattached DRP changes between Rd and Rp. -/
def execDrpToggle (x : PortN) (s : State) : Out :=
  done (s.ifDo (s.terminates x && s.role x == 2 && s.tc x == tcOpen) (fun s => s.put Hid.PO_RP x (1 - s.get Hid.PO_RP x)))

/-- RP_LEVEL_CHANGE (R276). -/
def execRpLevelChange (x : PortN) (lvl : RpLevel) (s : State) : Out :=
  ended (s.ifDo (s.vao && s.sinkOn x) (fun s => s.put Reg.PORT_STAT_TC_LVL x (rpCode lvl)))

/-- NO_PD (R277). -/
def State.noPd (s : State) (x : Nat) : State := (s.put Reg.PORT_STAT_NO_PD x 1).portFlag Reg.PORT_EVT_NO_PD x

/-- SOURCE_CAP_TIMEOUT (R277, R294): Hard_Reset where losing VBUS is safe, at most twice; a Get_Source_Cap of the port's own may be outstanding. -/
def execSourceCapTimeout (x : PortN) (s : State) : Out :=
  ended (s.ifDo (s.phy x && s.sinkOn x && s.get Reg.PORT_STAT_CONTRACT x == 0 && (s.exch x == exNone || s.exch x == exCaps) &&
      !s.is Reg.PORT_STAT_NO_PD x)
    (fun s =>
      let s := s.put Hid.PE_EXCH x exNone
      if 2 ≤ s.get Hid.PO_HRN x || !s.safeLoss x then s.noPd x else (s.sat Hid.PO_HRN x 2).sendHardReset x))

/- Messages (R278 to R289). -/

/-- The port hears messages: its PHY works, and it is not in BIST Test Data, which only a hard reset or a detach ends. -/
def State.hears (s : State) (x : Nat) : Bool := s.phy x && s.get Hid.PO_BIST x != 2

/-- A message arrives: BMC activity, and acted on where the engine hears it. -/
def State.heard (s : State) (x : Nat) (f : State → State) : Out := let s := s.bmc x; ended (s.ifDo (s.hears x) f)

/-- The revision of the partner's header. -/
def State.rev (s : State) (x : Nat) (rev3 : Bool) : State := s.put Reg.PORT_STAT_REV x (if rev3 then 2 else 1)

/-- The partner's capabilities stored (R278); EPR Mode Capable is bit 23 of the first SPR object. -/
def State.storeCaps (s : State) (x : Nat) (epr : Bool) (pdos : List Word) : State :=
  let s := s.forEach (List.range 11) (fun s i => s.put Reg.PORT_RXPDO_PDO (32 * x + i) (pdos.getD i 0).toNat)
  let s := (s.put Hid.PO_NCAP x pdos.length).ifDo (!epr) (fun s => s.mark Hid.PO_ECAP x ((pdos.headD 0).getLsbD 23))
  (s.put Hid.PO_HRN x 0).put Reg.PORT_STAT_NO_PD x 0

/-- The policy's request; on the way out of EPR mode without EPR objects (R278, R281). -/
def State.requestNow (s : State) (x : Nat) : State := s.request x (s.choose x (s.is Reg.PORT_STAT_EPR x && s.get Hid.PO_EPR x != 4))

/-- SOURCE_CAPABILITIES (R278, R289): EPR_Source_Capabilities where epr is set. -/
def execSourceCapabilities (x : PortN) (rev3 epr : Bool) (pdos : List Word) (s : State) : Out :=
  s.heard x (fun s =>
    if pdos.isEmpty || (if epr then 11 else 7) < pdos.length || !s.sinkOn x then s.nsup x
    else
      let s := ((s.rev x rev3).eprCut x).storeCaps x epr pdos
      s.ifDo (s.exch x != exPrMove) (fun s => s.requestNow x))

/-- A power role swap is agreed (R287): the old sink's contract ends, the old source's VBUS goes off and is discharged. -/
def State.prStart (s : State) (x : Nat) : State :=
  if s.sourceOn x then ((s.noContract x).sourceOff x).put Hid.PE_EXCH x exPrMove
  else ((s.protoReset x).portEnds x).put Hid.PE_EXCH x exPrMove

/-- A swap completes (R287). -/
def State.swapDone (s : State) (x : Nat) : State := (s.portFlag Reg.PORT_EVT_SWAP_DONE x).put Hid.PE_EXCH x exNone

/-- The data role changes. -/
def State.flipData (s : State) (x : Nat) : State := (s.put Reg.PORT_STAT_DROLE x (1 - s.get Reg.PORT_STAT_DROLE x)).swapDone x

/-- ACCEPT_MESSAGE (R279, R287). -/
def execAcceptMessage (x : PortN) (s : State) : Out :=
  s.heard x (fun s => match s.exch x with
    | 1 => (s.put Hid.PE_EXCH x exSinkMove).put Hid.PO_WAITS x 0
    | 3 => s.prStart x
    | 4 => s.flipData x
    | _ => s)

/-- An own request ends refused (R279): what was in force stays; a port on its way out of EPR mode stays in it. -/
def State.refusedReq (s : State) (x : Nat) : State :=
  let s := (s.portFlag Reg.PORT_EVT_SWAP_REJ x).put Hid.PE_EXCH x exNone
  s.ifDo (s.get Hid.PO_EPR x == 4) (fun s => s.put Hid.PO_EPR x 3)

/-- REJECT_MESSAGE (R279). -/
def execRejectMessage (x : PortN) (s : State) : Out :=
  s.heard x (fun s => match s.exch x with
    | 1 => s.refusedReq x
    | 3 => s.refusedReq x
    | 4 => s.refusedReq x
    | 8 => s.put Hid.PE_EXCH x exNone
    | _ => s)

/-- WAIT_MESSAGE (R279, R288): the request, or the swap, is made again later; the third Wait to a request is reported. -/
def execWaitMessage (x : PortN) (s : State) : Out :=
  s.heard x (fun s => match s.exch x with
    | 1 =>
      let s := ((s.sat Hid.PO_WAITS x 3).put Hid.PE_EXCH x exNone).put Hid.PO_RETRY x 1
      s.ifDo (s.get Hid.PO_WAITS x == 3) (fun s => s.portFlag Reg.PORT_EVT_SWAP_REJ x)
    | 3 => (s.refusedReq x).put Hid.PO_RETRY x 2
    | 4 => (s.refusedReq x).put Hid.PO_RETRY x 3
    | _ => s)

/-- WAIT_RETRY (R279): 100 ms after a Wait; after three Waits the 5 V object is requested. -/
def execWaitRetry (x : PortN) (s : State) : Out :=
  ended (s.ifDo (s.mayStart x && s.sinkOn x && s.get Hid.PO_RETRY x == 1)
    (fun s => if s.get Hid.PO_WAITS x == 3 then s.request x (s.askFive x false) else s.requestNow x))

/-- What follows a sink contract (R281): the exit from EPR mode is completed, or an entry begins. -/
def State.afterContract (s : State) (x : Nat) : State :=
  if s.get Hid.PO_EPR x == 4 then ((s.put Hid.PO_EPR x 0).put Reg.PORT_STAT_EPR x 0).tx x txEprExit else s.eprEnter x

/-- The end of a power role swap at the partner's PS_RDY (R287): the old source is the sink, the old sink starts its supply. -/
def State.prRdy (s : State) (x : Nat) : State :=
  if s.sourceOn x then ((s.put Reg.PORT_STAT_TC x tcSnk).put Reg.PORT_STAT_PROLE x 0).swapDone x
  else ((s.put Reg.PORT_STAT_TC x tcSrc).put Reg.PORT_STAT_PROLE x 1).sourceStart x

/-- PS_RDY (R279, R281, R284, R287). -/
def execPsRdy (x : PortN) (s : State) : Out :=
  s.heard x (fun s => match s.exch x with
    | 2 => (s.newContract x).afterContract x
    | 7 => s.prRdy x
    | 9 => ((s.put Reg.PORT_STAT_VCONN x 0).put Hid.PO_VGIV x 1).swapDone x
    | _ => s)

/-- REQUEST_MESSAGE (R282, R283, R289): EPR_Request where epr is set, which asks for what the port does not offer. -/
def execRequestMessage (x : PortN) (rev3 epr : Bool) (rdo : Word) (s : State) : Out :=
  s.heard x (fun s =>
    if !s.sourceOn x then s.nsup x
    else
      let s := s.rev x rev3
      if epr then s.tx x txReject else if s.exch x != exNone then s.tx x txWait else s.answerRequest x rdo.toNat)

/-- GET_SOURCE_CAP (R289): a port that can be a source answers. -/
def execGetSourceCap (x : PortN) (s : State) : Out :=
  s.heard x (fun s => if s.sourceOn x || s.role x == 2 then s.tx x txSourceCaps else s.nsup x)

/-- GET_SINK_CAP (R289): a port that can be a sink answers. -/
def execGetSinkCap (x : PortN) (s : State) : Out :=
  s.heard x (fun s => if s.sinkOn x || s.role x == 2 then s.tx x txSinkCaps else s.nsup x)

/-- The policy for an incoming PR_Swap (R287). -/
def State.prAllowed (s : State) (x : Nat) : Bool :=
  let pol := s.get Reg.PORT_CFG_PRS_POL x
  !(s.role x == 0 && s.sinkOn x) && !(s.role x == 1 && s.sourceOn x) &&
    (pol == 2 || (pol == 1 && (s.sourceOn x || s.sel != some (x + 1) || [0, 1, 2].any (fun i => i != x + 1 && s.inSt i == inReady))))

/-- PR_SWAP (R287, R288): during another exchange, an own PR_Swap included, it is answered with Wait. -/
def execPrSwap (x : PortN) (s : State) : Out :=
  s.heard x (fun s =>
    if s.exch x != exNone then s.tx x txWait
    else if s.prAllowed x then (s.prStart x).tx x txAccept else s.tx x txReject)

/-- DR_SWAP (R287, R288). -/
def execDrSwap (x : PortN) (s : State) : Out :=
  s.heard x (fun s =>
    if s.exch x != exNone then s.tx x txWait
    else if s.is Reg.PORT_CFG_DRS_EN x then (s.flipData x).tx x txAccept else s.tx x txReject)

/-- VCONN becomes the port's to supply (R284). -/
def State.vconnTake (s : State) (x : Nat) : State :=
  let s := ((s.put Reg.PORT_STAT_VCONN x 1).put Hid.PO_VGIV x 0).swapDone x
  if s.is Hid.PO_DISC x then s.tx x txPsRdy else (s.put Hid.PO_DISC x 1).tx x txDiscover

/-- VCONN_SWAP (R284); a port whose VCONN is off until detach does not take it (R285). -/
def execVconnSwap (x : PortN) (s : State) : Out :=
  s.heard x (fun s =>
    if s.exch x != exNone then s.tx x txWait
    else if s.is Reg.PORT_STAT_VCONN x then (s.put Hid.PE_EXCH x exVconn).tx x txAccept
    else if s.is Reg.PORT_CFG_VCONN_EN x && !s.is Hid.PO_VCOCP x then s.vconnTake x else s.tx x txReject)

/-- SOFT_RESET_MESSAGE (R289, R281): exchanges end, an EPR entry fails, the contract stands; a source advertises again. -/
def execSoftResetMessage (x : PortN) (s : State) : Out :=
  s.heard x (fun s =>
    let s := ((s.eprCut x).endExchange x).tx x txAccept
    s.ifDo (s.sourceOn x) (fun s => s.sendCaps x))

/-- PING_MESSAGE (R289): handled, without effect but the BMC activity. -/
def execPingMessage (x : PortN) (s : State) : Out := s.heard x id

/-- HARD_RESET_RECEIVED (R290, R296). -/
def execHardResetReceived (x : PortN) (s : State) : Out :=
  ended ((s.bmc x).ifDo (s.phy x) (fun s => (s.portFlag Reg.PORT_EVT_HRST_RX x).hardReset x))

/-- SOURCE_HARD_RESET_RESTORE (R290): 700 ms after vSafe0V. -/
def execSourceHardResetRestore (x : PortN) (s : State) : Out :=
  ended (s.ifDo (s.vao && s.sourceOn x && s.get Hid.PO_HR x == 2)
    (fun s => ((((s.put Hid.PO_HR x 0).sourceStart x).put Hid.PO_SW x 1).vconnOn x).sendCaps x))

/-- EPR mode ends on the source's word (R281): with an EPR contract in force only a hard reset is left; an entry again needs new Source_Capabilities. -/
def State.eprLeave (s : State) (x : Nat) : State :=
  if s.get Reg.PORT_STAT_CONTRACT x == 3 then s.sendHardReset x
  else ((s.put Reg.PORT_STAT_EPR x 0).put Hid.PO_EPR x 0).put Hid.PO_ECAP x 0

/-- EPR_Mode at a sink: 2 Enter Acknowledged, 3 Enter Succeeded, 4 Enter Failed, 5 Exit (R281). -/
def State.eprMode (s : State) (x action : Nat) : State :=
  match action with
  | 2 => s.ifDo (s.get Hid.PO_EPR x == 1) (fun s => s.put Hid.PO_EPR x 2)
  | 3 => s.ifDo (s.exch x == exEpr) (fun s => ((s.put Hid.PE_EXCH x exNone).put Hid.PO_EPR x 3).put Reg.PORT_STAT_EPR x 1)
  | 4 => s.ifDo (s.exch x == exEpr) (fun s => s.eprFail x)
  | 5 => s.ifDo (s.is Reg.PORT_STAT_EPR x) (fun s => s.eprLeave x)
  | _ => s.nsup x

/-- EPR_MODE_MESSAGE (R281, R271): a source does not do EPR. -/
def execEprModeMessage (x : PortN) (action : BitVec 8) (s : State) : Out :=
  s.heard x (fun s =>
    if s.sinkOn x then s.eprMode x action.toNat else if action == 1 then s.tx x txEprFailed else s.nsup x)

/-- EPR_KEEPALIVE_TIMER (R281). -/
def execEprKeepaliveTimer (x : PortN) (s : State) : Out :=
  done (s.ifDo (s.phy x && s.is Reg.PORT_STAT_EPR x) (fun s => s.tx x txKeepAlive))

/-- EPR_EXIT (R281): EPR_EN written 0, the other fields as they stand. -/
def execEprExit (w : Writer) (x : PortN) (s : State) : Out :=
  let a := 0x3800 + 128 * x.val
  regWrite s w a (s.peek a - s.get Reg.PORT_CFG_EPR_EN x * 2 ^ 17)

/-- PPS_REFRESH (R280): the Request of the contract repeated. -/
def execPpsRefresh (x : PortN) (s : State) : Out :=
  ended (s.ifDo (s.mayStart x && s.sinkOn x && s.get Reg.PORT_STAT_CONTRACT x == 2) (fun s =>
    s.request x { obj := s.get Reg.PORT_CONTRACT_OBJ x, v := s.get Reg.PORT_CONTRACT_V x, i := s.get Reg.PORT_CONTRACT_I x, kind := 2, mis := false }))

/-- PPS_WRITE (R280). -/
def execPpsWrite (w : Writer) (x : PortN) (v : Word) (s : State) : Out := regWrite s w (0x3808 + 128 * x) v.toNat

/-- BIST_MESSAGE (R271, R289): Carrier Mode or Test Data. -/
def execBistMessage (x : PortN) (carrier : Bool) (s : State) : Out := s.heard x (fun s => s.put Hid.PO_BIST x (if carrier then 1 else 2))

/-- DISCOVER_IDENTITY_REPLY (R284). -/
def execDiscoverIdentityReply (x : PortN) (ack eprCap : Bool) (icap vmax : BitVec 2) (s : State) : Out :=
  s.heard x (fun s => s.ifDo (ack && s.is Hid.PO_DISC x && s.is Reg.PORT_STAT_VCONN x) (fun s =>
    (((s.put Reg.PORT_CABLE_VALID x 1).mark Reg.PORT_CABLE_EPR_CAP x eprCap).put Reg.PORT_CABLE_ICAP x icap.toNat).put
      Reg.PORT_CABLE_VMAX x vmax.toNat))

/-- UNSUPPORTED_MESSAGE (R289). -/
def execUnsupportedMessage (x : PortN) (s : State) : Out := s.heard x (fun s => s.nsup x)

/-- EXTENDED_CONTROL_MESSAGE (R289): 1 EPR_Get_Source_Cap, 2 EPR_Get_Sink_Cap, 3 EPR_KeepAlive, 4 EPR_KeepAlive_Ack. -/
def execExtendedControlMessage (x : PortN) (kind : BitVec 8) (s : State) : Out :=
  s.heard x (fun s => match kind.toNat with
    | 1 => if s.sourceOn x || s.role x == 2 then s.tx x txSourceCaps else s.nsup x
    | 2 => if s.sinkOn x || s.role x == 2 then s.tx x txEprSinkCaps else s.nsup x
    | 3 => s
    | 4 => s
    | _ => s.nsup x)

/-- SINK_CAPABILITIES_MESSAGE (R289): handled; nothing in the part rests on it but the BMC activity. -/
def execSinkCapabilitiesMessage (x : PortN) (_pdos : List Word) (s : State) : Out := s.heard x id

/-- NOT_SUPPORTED_MESSAGE (R289): the partner does not do what was asked. -/
def execNotSupportedMessage (x : PortN) (s : State) : Out :=
  s.heard x (fun s => match s.exch x with
    | 1 => s.refusedReq x
    | 3 => s.refusedReq x
    | 4 => s.refusedReq x
    | 6 => s.eprFail x
    | 8 => s.put Hid.PE_EXCH x exNone
    | _ => s)

/- The source supply (R282, R283). -/

/-- The source switch closes on a supply that is ready; after a power role swap PS_RDY goes out. -/
def State.supplyReady (s : State) (x : Nat) : State :=
  let s := s.put Hid.PO_SW x 1
  let s := s.ifDo (s.exch x == exPrMove) (fun s => (s.swapDone x).tx x txPsRdy)
  (s.vconnOn x).sendCaps x

/-- SOURCE_SUPPLY_READY (R282). -/
def execSourceSupplyReady (x : PortN) (s : State) : Out :=
  ended (s.ifDo (s.vao && s.sourceOn x && s.is Hid.PO_EN x && !s.is Hid.PO_SW x && s.get Hid.PO_HR x == 0) (fun s => s.supplyReady x))

/-- SOURCE_SETTLED (R283). -/
def execSourceSettled (x : PortN) (s : State) : Out :=
  ended (s.ifDo (s.vao && s.sourceOn x && s.exch x == exSrcMove)
    (fun s => ((s.put Hid.PO_DSC x 0).newContract x).ifDo (s.phy x) (fun s => s.tx x txPsRdy)))

/-- A fault of a port that its Ledger source reports. -/
def State.settleFail (s : State) (x : Nat) : State := (s.portFlag Reg.PORT_EVT_SETTLE_FAIL x).raise (96 + x)

/-- SOURCE_SETTLE_TIMEOUT (R283). -/
def execSourceSettleTimeout (x : PortN) (s : State) : Out :=
  ended (s.ifDo (s.vao && s.sourceOn x && s.exch x == exSrcMove) (fun s => (s.sendHardReset x).settleFail x))

/-- VBUS_DISCHARGED (R283, R290, R292): Px_DSC is released; a hard reset waits its 700 ms, a power role swap goes on. -/
def execVbusDischarged (x : PortN) (s : State) : Out :=
  ended (s.ifDo (s.vao && s.is Hid.PO_DSC x) (fun s =>
    let s := s.put Hid.PO_DSC x 0
    let s := s.ifDo (s.get Hid.PO_HR x == 1) (fun s => s.put Hid.PO_HR x 2)
    s.ifDo (s.exch x == exPrMove && s.sourceOn x) (fun s => s.tx x txPsRdy)))

/-- DISCHARGE_TIMEOUT (R292). -/
def execDischargeTimeout (x : PortN) (s : State) : Out :=
  ended (s.ifDo (s.vao && s.is Hid.PO_DSC x && !s.sourceOn x) (fun s => s.settleFail x))

/- Protection (R285, R286). -/

/-- VBUS_SINK_OV (R285, R286, R296): at a sink port, selected or not. -/
def execVbusSinkOv (x : PortN) (s : State) : Out := ended (s.ifDo (s.vao && s.sinkOn x) (fun s => s.sinkOv x))

/-- A source check trips: its event bit, and the recovery. -/
def State.sourceTrip (s : State) (x : Nat) (bit : Fld) : State :=
  s.ifDo (s.vao && s.sourceOn x && s.is Hid.PO_SW x) (fun s => (s.portFlag bit x).recovery x)

/-- SOURCE_OVERCURRENT (R285). -/
def execSourceOvercurrent (x : PortN) (s : State) : Out := ended (s.sourceTrip x Reg.PORT_EVT_OCP)

/-- SOURCE_SHORT (R285). -/
def execSourceShort (x : PortN) (s : State) : Out := ended (s.sourceTrip x Reg.PORT_EVT_OCP)

/-- SOURCE_OVERVOLTAGE (R285). -/
def execSourceOvervoltage (x : PortN) (s : State) : Out := ended (s.sourceTrip x Reg.PORT_EVT_OVP)

/-- SOURCE_REVERSE_CURRENT (R285). -/
def execSourceReverseCurrent (x : PortN) (s : State) : Out := ended (s.sourceTrip x Reg.PORT_EVT_RCP)

/-- ERROR_RECOVERY_END (R285): 25 ms, unless a CC line is still too high. -/
def execErrorRecoveryEnd (x : PortN) (s : State) : Out :=
  ended (s.ifDo (s.vao && s.tc x == tcRecover && !s.is Hid.PO_CCOV x) (fun s => s.put Reg.PORT_STAT_TC x tcOpen))

/-- CC_OVERVOLTAGE (R285): terminations and VCONN are disconnected; a latched port stays DISABLED (R286). -/
def execCcOvervoltage (x : PortN) (s : State) : Out :=
  ended (s.ifDo s.vao (fun s =>
    let tc := if s.tc x == tcDisabled then tcDisabled else tcRecover
    let s := ((s.portFlag Reg.PORT_EVT_CC_OVP x).raise (96 + x)).ifDo (s.sinkOn x) (fun s => s.portEnds x)
    (s.unattach x tc).put Hid.PO_CCOV x 1))

/-- CC_OV_RECOVERY (R285). -/
def execCcOvRecovery (x : PortN) (s : State) : Out :=
  ended (s.ifDo (s.vao && s.is Hid.PO_CCOV x)
    (fun s => (s.put Hid.PO_CCOV x 0).ifDo (s.tc x == tcRecover) (fun s => s.put Reg.PORT_STAT_TC x tcOpen)))

/-- VCONN_OVERCURRENT (R285): VCONN stays off until detach. -/
def execVconnOvercurrent (x : PortN) (s : State) : Out :=
  ended (s.ifDo (s.vao && s.is Reg.PORT_STAT_VCONN x)
    (fun s => (((s.put Reg.PORT_STAT_VCONN x 0).put Hid.PO_VCOCP x 1).portFlag Reg.PORT_EVT_VCONN_OCP x).raise (96 + x)))

/-- SWAP_RETRY (R288): the swap that met Wait is sent again where it is still valid. -/
def execSwapRetry (x : PortN) (s : State) : Out :=
  let r := s.get Hid.PO_RETRY x
  ended (s.ifDo (s.mayStart x && (r == 2 || r == 3)) (fun s => (s.put Hid.PO_RETRY x 0).portAct x r))

/- Commands of PORTx_CTRL (R295). -/

/-- A write of PORTx_CTRL.CMD. -/
def portWrite (s : State) (w : Writer) (x cmd : Nat) : Out := regWrite s w (0x3814 + 128 * x) cmd

/-- CMD_RENEGOTIATE. -/
def execCmdRenegotiate (w : Writer) (x : PortN) (s : State) : Out := portWrite s w x 1
/-- CMD_PR_SWAP. -/
def execCmdPrSwap (w : Writer) (x : PortN) (s : State) : Out := portWrite s w x 2
/-- CMD_DR_SWAP. -/
def execCmdDrSwap (w : Writer) (x : PortN) (s : State) : Out := portWrite s w x 3
/-- CMD_HARD_RESET. -/
def execCmdHardReset (w : Writer) (x : PortN) (s : State) : Out := portWrite s w x 4
/-- CMD_CLR_LATCH. -/
def execCmdClrLatch (w : Writer) (x : PortN) (s : State) : Out := portWrite s w x 6

/-- PORT_COMMAND_RELEASE (R295). -/
def execPortCommandRelease (x : PortN) (s : State) : Out := ended (s.ifDo s.up (fun s => s.portRelease x))

end Sys2Proof.Machine
end

