-- ==== Sys2Proof/Machine/GaugeCmd.lean ====
section
/-! DEFINITION. The commands of the battery gauge (R298 to R318) and of the Ledger (R319 to R331). -/

namespace Sys2Proof.Machine
open Sys2Proof

/-- One update, and the charger's answer to a second update in a row with a cell too high (R258, R299). -/
def State.gaugeSecond (s : State) (m : GaugeSample) : State :=
  let was := s.get Hid.CELLHI2 0
  let s := s.gaugeUpdate m
  s.ifDo (was == 1 && s.get Hid.CELLHI2 0 == 2) (fun s => (s.chgFault 3).raise 93)

/-- GAUGE_UPDATE (R299, R301). -/
def execGaugeUpdate (m : GaugeSample) (s : State) : Out := ended (s.ifDo s.carries (fun s => s.gaugeSecond m))

/-- The gauge has an estimate that it keeps up. -/
def State.gaugeLive (s : State) : Bool := s.carries && s.is Reg.GG_STAT_VALID 0 && !s.is Reg.PP_STAT_BATT_ABSENT 0

/-- RELAXED_REFERENCE (R302): V_c over the update in µV, and the highest shunt voltage of the rest, of either sign, in nV. -/
def execRelaxedReference (rest : RestSense) (s : State) : Out :=
  ended (s.ifDo (s.gaugeLive && decide (s.shuntAmps rest.peak < (s.iRest : Nat))) (fun s => ((s.gaugeRef true ((rest.v : Rat) / 1000) 3 1).gaugeReport).levels))

/-- NEW_PACK (R311): GG_CTRL.NEW_PACK, SPREAD_MAX as it stands. -/
def execNewPack (w : Writer) (s : State) : Out := regWrite s w 0x401C (s.get Reg.GG_CTRL_SPREAD_MAX 0 * 256 + 1)

/-- JOURNAL_WRITE_DONE (R312): read back right or not. -/
def execJournalWriteDone (ok : Bool) (s : State) : Out := ended (s.ifDo (s.carries && s.get Hid.NVM_JOB 0 == 1) (fun s => s.journalDone ok))

/-- GAUGE_START_ESTIMATE (R315): mean V_c in µV and mean shunt voltage in nV over 100 ms. -/
def execGaugeStartEstimate (v : Nat) (shunt : Int) (s : State) : Out :=
  ended (s.ifDo (s.carries && s.gauge.startDue && !s.is Reg.PP_STAT_BATT_ABSENT 0)
    (fun s => s.gaugeStart ((v : Rat) / 1000) (s.shuntAmps shunt)))

/-- LEDGER_WINDOW_EXPIRY (R323): time passes until the window has been open for WIN. -/
def execLedgerWindowExpiry (n : SrcN) (s : State) : Out :=
  ended (s.ifDo (s.up && s.is Hid.LS_WIN n) (fun s =>
    ((s.passTime (s.get Hid.LS_WIN_T n + s.winUs n - s.usec)).put Reg.LS_STAT_COUNT n 0).put Hid.LS_WIN n 0))

/-- QUIET_PERIOD_END (R326): time passes until Q has run since the fence or the latest event. -/
def execQuietPeriodEnd (n : SrcN) (s : State) : Out :=
  ended (s.ifDo (s.up && isUnit n && s.is Reg.LS_STAT_QUIET n) (fun s =>
    let s := s.passTime (s.get Hid.LS_QT n + s.quietUs n - s.usec)
    s.ifDo s.up (fun s => s.quietEnd n)))

/-- HOST_ADMIT (R327): LG_ADMIT.SRC with ADMIT. -/
def execHostAdmit (w : Writer) (n : SrcN) (s : State) : Out := regWrite s w 0x4808 (n + 256)

/-- RCV_CLR (R327): LG_ADMIT.SRC with RCV_CLR. -/
def execRcvClr (w : Writer) (n : SrcN) (s : State) : Out := regWrite s w 0x4808 (n + 512)

/-- STICKY_CLEAR (R324): LG_STICKYj. -/
def execStickyClear (w : Writer) (j : Fin 4) (v : Word) (s : State) : Out := regWrite s w (0x4810 + 4 * j) v.toNat

/-- FLTBUS_IN (R330): the line reads low while this part does not drive it; it raises once. -/
def execFltbusIn (s : State) : Out :=
  ended (s.ifDo (s.up && !s.busDrv) (fun s =>
    (s.put Reg.LG_STAT_BUS_LOW 0 1).ifDo (s.is Hid.BUS_ARM 0) (fun s => (s.put Hid.BUS_ARM 0 0).raise 108)))

/-- FLTBUS_N_HIGH (R330). -/
def execFltbusNHigh (s : State) : Out :=
  done (s.ifDo (s.up && !s.busDrv) (fun s => (s.put Reg.LG_STAT_BUS_LOW 0 0).put Hid.BUS_ARM 0 1))

end Sys2Proof.Machine
end

