-- ==== Sys2Proof/Machine/BackupCmd.lean ====
section
/-! DEFINITION. The commands of the backup domain (R332 to R350), of the interrupt controller (R351 to R358) and of the timers (R359 to R365). -/

namespace Sys2Proof.Machine
open Sys2Proof

/- The backup domain. -/

/-- BACKUP_DOMAIN_RESET (R333): its supply falls below retention, with VAO absent. -/
def execBackupDomainReset (s : State) : Out := done (s.ifDo (!s.vao && s.domain) (fun s => s.domainReset.put Hid.VBKUP_OK 0 0))

/-- SUPPLY_CHANGEOVER (R333): to VBKUP where it is present, or back to VAO. -/
def execSupplyChangeover (toBackup : Bool) (s : State) : Out :=
  done (s.ifDo (s.domain && (if toBackup then s.is Hid.VBKUP_OK 0 else s.vao)) (fun s => s.mark Hid.ON_VBKUP 0 toBackup))

/-- VBKUP_LOW (R334). -/
def execVbkupLow (s : State) : Out :=
  ended (s.ifDo (s.domain && !s.is Reg.BK_STAT_VBKUP_LOW 0)
    (fun s => (s.put Reg.BK_STAT_VBKUP_LOW 0 1).ifDo s.runs (fun s => s.raise 107)))

/-- VBKUP_LOW_CLEAR (R334): VBKUP has risen above its threshold. -/
def execVbkupLowClear (s : State) : Out := done (s.ifDo s.domain (fun s => (s.put Reg.BK_STAT_VBKUP_LOW 0 0).put Hid.VBKUP_OK 0 1))

/-- CRYSTAL_LOSS (R336). -/
def execCrystalLoss (s : State) : Out :=
  ended (s.ifDo (s.domain && !s.is Reg.BK_STAT_ON_RC 0)
    (fun s => ((s.put Reg.BK_STAT_ON_RC 0 1).put Reg.BK_STAT_RC_SEEN 0 1).ifDo s.runs (fun s => s.raise 106)))

/-- CRYSTAL_RETURN (R336). -/
def execCrystalReturn (s : State) : Out := done (s.ifDo s.domain (fun s => s.put Reg.BK_STAT_ON_RC 0 0))

/-- TRIM_WINDOW (R339 to R341): a window of 2^20 ticks starts, with the domain's temperature in °C. -/
def execTrimWindow (temp : Int) (s : State) : Out := done (s.ifDo (s.domain && s.tick % 2 ^ 20 == 0) (fun s => s.trimStart temp))

/-- BACKUP_WRITE_SYNC (R343). -/
def execBackupWriteSync (s : State) : Out := done (s.ifDo (s.vao && s.domain) State.bkReach)

/-- RTC_SET (R344): RTC_SETH with GO. -/
def execRtcSet (w : Writer) (hi : BitVec 24) (s : State) : Out := regWrite s w 0x501C (hi.toNat + 2 ^ 31)

/-- RTC_TIME_LOAD (R344): the first tick after both writes have reached the domain. -/
def execRtcTimeLoad (s : State) : Out := done (s.ifDo (s.domain && s.loadDue) State.slowTick)

/-- ALARM_FIRE (R345, R346, R37). -/
def execAlarmFire (s : State) : Out := ended (s.ifDo s.almDue State.almFire)

/-- A press of 100 ms (R347): in SHIP it opens the VBAT leg's window (R35), in SHIP_PEND it acts as CANCEL (R34). -/
def State.button (s : State) : State :=
  let s := (s.put Reg.BK_STAT_BTN 0 1).wake 67
  let s := s.ifDo (!s.vao && s.ship) (fun s => s.put Hid.LEGWIN 0 1)
  s.ifDo (s.vao && s.cur == 4) State.shipCancel

/-- PWRBTN_PRESS (R347). -/
def execPwrbtnPress (s : State) : Out := ended (s.ifDo s.domain State.button)

/- Interrupts. -/

/-- SOFTWARE_PEND (R354): IS_PSETj. -/
def execSoftwarePend (w : Writer) (j : Fin 8) (v : Word) (s : State) : Out := regWrite s w (0x54C0 + 4 * j) v.toNat

/-- SOFTWARE_CLEAR (R354): IS_PCLRj. -/
def execSoftwareClear (w : Writer) (j : Fin 8) (v : Word) (s : State) : Out := regWrite s w (0x54E0 + 4 * j) v.toNat

/-- IRQ_CLAIM (R356): a read of ICt_CLAIM. -/
def execIrqClaim (w : Writer) (t : Target) (s : State) : Out := regGet s w (0x5540 + 4 * t)

/-- IRQ_COMPLETE (R357): a write of ICt_COMPLETE. -/
def execIrqComplete (w : Writer) (t : Target) (v : Word) (s : State) : Out := regWrite s w (0x5560 + 4 * t) v.toNat

/- Timers. -/

/-- The time of d ticks of a timer's clock passes. -/
def State.tmWait (s : State) (n d : Nat) : State := if s.is Reg.TM_CTRL_CLK n then s.passTicks d else s.passTime d

/-- TIMER_MATCH (R359, R360): the ticks up to the one that makes the count equal M. -/
def execTimerMatch (n : TmrN) (s : State) : Out := ended (s.ifDo (s.carries && s.tmRun n) (fun s => s.tmWait n (s.tmToMatch n)))

/-- TIMER_OVERFLOW (R359, R360): the ticks up to the one that wraps the count. -/
def execTimerOverflow (n : TmrN) (s : State) : Out := ended (s.ifDo (s.carries && s.tmRun n) (fun s => s.tmWait n (s.tmToWrap n)))

/-- TMn_CTRL as it stands. -/
def State.tmWord (s : State) (n : Nat) : Nat := s.peek (0x5800 + 32 * n)

/-- TIMER_START (R362): RUN = 1, the other fields as they stand. -/
def execTimerStart (w : Writer) (n : TmrN) (s : State) : Out := regWrite s w (0x5800 + 32 * n) (s.tmWord n / 2 * 2 + 1)

/-- TIMER_STOP (R362): RUN = 0, the other fields as they stand. -/
def execTimerStop (w : Writer) (n : TmrN) (s : State) : Out := regWrite s w (0x5800 + 32 * n) (s.tmWord n / 2 * 2)

/-- GSTART (R362). -/
def execGstart (w : Writer) (s : State) : Out := regWrite s w 0x5A00 1

/-- GSTOP (R362). -/
def execGstop (w : Writer) (s : State) : Out := regWrite s w 0x5A00 2

/-- TIMER_MAT_HI_WRITE (R364). -/
def execTimerMatHiWrite (w : Writer) (n : TmrN) (v : Word) (s : State) : Out := regWrite s w (0x5810 + 32 * n) v.toNat

/-- TIMER_COUNT_READ (R363): TMn_CNT_LO or TMn_CNT_HI. -/
def execTimerCountRead (w : Writer) (n : TmrN) (hi : Bool) (s : State) : Out := regGet s w (0x5814 + 32 * n + (if hi then 4 else 0))

/-- TIMER_MATCH_COMMIT (R364): the next tick of a running timer whose shadow waits. -/
def execTimerMatchCommit (n : TmrN) (s : State) : Out :=
  ended (s.ifDo (s.carries && s.tmRun n && s.is Reg.TM_STAT_MAT_PEND n) (fun s => s.tmWait n 1))

end Sys2Proof.Machine
end

