-- ==== Sys2Proof/Machine/StallCmd.lean ====
section
/-! DEFINITION. The commands of the stalls' starts, spare, watchdogs and mailboxes (R213 to R236). -/

namespace Sys2Proof.Machine
open Sys2Proof

/-- TAKEOVER_COMPLETE (R219 step 5): of the identity that pair 4 is taking; the duration in 10 ns. -/
def execTakeoverComplete (dur : BitVec 12) (s : State) : Out :=
  let st := s.get Reg.STL_SPARE_FOR 0
  ended (s.ifDo (s.runs && st < 4 && s.sl st == slTakeover) (fun s => s.takeoverEnd st dur.toNat))

/-- SPARE_SELF_TEST (R216): while the spare is STANDING. -/
def execSpareSelfTest (ok : Bool) (s : State) : Out :=
  ended (s.ifDo (s.runs && !ok && s.get Reg.STL_SPARE_SPARE 0 == 0) State.spareLost)

/-- A double-bit error in an identity's shadow bank (R218). -/
def State.bankBad (s : State) (st : Nat) : State := ((s.put Hid.S_SHBAD st 1).put Reg.STL_SPARE_SHADOW_ERR 0 1).raise 86

/-- SHADOW_BANK_ERROR (R218): while the spare shadows, or as a takeover of the identity reads its bank (R219 step 4), which then falls under second
failure. -/
def execShadowBankError (st : Stl) (s : State) : Out :=
  ended (s.ifDo s.runs (fun s =>
    if s.get Reg.STL_SPARE_SPARE 0 == 0 then s.bankBad st
    else s.ifDo (s.get Reg.STL_SPARE_FOR 0 == st && s.sl st == slTakeover) (fun s => (s.bankBad st).secondFailure st)))

/-- STALL_START (R230): a START bit. -/
def execStallStart (w : Writer) (st : Stl) (s : State) : Out := regWrite s w 0x6000 (2 ^ st.val)

/-- STALL_RESTART (R230): a RESTART bit. -/
def execStallRestart (w : Writer) (st : Stl) (s : State) : Out := regWrite s w 0x6000 (2 ^ (8 + st.val))

/-- WATCHDOG_KICK (R232): STL_WDKICKs. -/
def execWatchdogKick (w : Writer) (st : Stl) (v : Word) (s : State) : Out := regWrite s w (0x6040 + 4 * st) v.toNat

/-- WATCHDOG_EARLY (R232): time passes until the count reaches TMO / 2. -/
def execWatchdogEarly (st : Stl) (s : State) : Out :=
  ended (s.ifDo (s.wdRuns st && s.get Hid.S_WDC st < s.wdTop st / 2) (fun s => s.passTime (s.wdTop st / 2 - s.get Hid.S_WDC st)))

/-- WATCHDOG_EXPIRY (R232): time passes until the count reaches TMO. -/
def execWatchdogExpiry (st : Stl) (s : State) : Out :=
  ended (s.ifDo (s.wdRuns st) (fun s => s.passTime (s.wdTop st - s.get Hid.S_WDC st)))

/-- HOST_MAILBOX_POST (R234): MBX_INs. -/
def execHostMailboxPost (w : Writer) (st : Stl) (v : Word) (s : State) : Out := regWrite s w (0x6050 + 4 * st) v.toNat

/-- MAILBOX_POP (R234): MBX_CTRL.POP. -/
def execMailboxPop (w : Writer) (s : State) : Out := regWrite s w 0x6068 1

/-- MAILBOX_FLUSH_HOST (R235): MBX_CTRL.FLUSH_HOST. -/
def execMailboxFlushHost (w : Writer) (s : State) : Out := regWrite s w 0x6068 2

/-- MAILBOX_FLUSH_RX (R235): a bit of MBX_CTRL.FLUSH_RX. -/
def execMailboxFlushRx (w : Writer) (st : Stl) (s : State) : Out := regWrite s w 0x6068 (2 ^ (4 + st.val))

end Sys2Proof.Machine
end

