-- ==== Sys2Proof/Machine/SecCmd.lean ====
section
/-! DEFINITION. The commands of security, debug and the NVM, and the plain register write (R386 to R402, R406 to R409). -/

namespace Sys2Proof.Machine
open Sys2Proof

/-- LIFECYCLE_REQUEST (R387): SEC_LC_REQ. -/
def execLifecycleRequest (w : Writer) (v : Word) (s : State) : Out := regWrite s w 0x7004 v.toNat

/-- LIFECYCLE_OTP_DONE (R387): the bit is set in OTP, and a HOST reset follows; programming that has begun goes on through a reset (R402). -/
def execLifecycleOtpDone (s : State) : Out :=
  ended (s.ifDo (s.vao && s.get Hid.OTPJOB 0 == 4) (fun s => s.lcStepped.warmReset Reg.RST_CAUSE_HOST))

/-- OTP_HASH_PROGRAM (R389): SEC_OTP_CMD. -/
def execOtpHashProgram (w : Writer) (v : Word) (s : State) : Out := regWrite s w 0x7080 v.toNat

/-- OTP_HASH_DONE (R389). -/
def execOtpHashDone (s : State) : Out :=
  ended (s.ifDo (s.vao && s.is Hid.OTPJOB 0 && s.get Hid.OTPJOB 0 < 4) State.hashDone)

/-- DEBUG_OPEN (R394): in FAB, DEVELOP and RETURN, where no session is open. -/
def execDebugOpen (s : State) : Out :=
  ended (s.ifDo s.runs (fun s => s.tapDbg.ifDo (s.lc != lcField && s.session == 0) (fun s => s.openSession ssOpen)))

/-- DEBUG_CHALLENGE (R394); refused while a response is being checked (R402) and in the 10 s after a failure. -/
def execDebugChallenge (s : State) : Out := ended (s.ifDo s.runs (fun s => s.tapDbg.challenge))

/-- DEBUG_RESPONSE (R394 steps 2 and 3). -/
def execDebugResponse (scope : BitVec 8) (key sig : BitVec 512) (s : State) : Out :=
  ended (s.ifDo s.runs (fun s => s.tapDbg.respond scope.toNat key sig))

/-- DEBUG_RESPONSE_VERIFIED (R394 step 4). -/
def execDebugResponseVerified (s : State) : Out := ended (s.ifDo (s.runs && s.is Hid.RSPBUSY 0) State.respondEnd)

/-- NONCE_EXPIRY (R394): time passes until 60 s after the CHALLENGE; a nonce that has been answered is spent by the end of the check. -/
def execNonceExpiry (s : State) : Out :=
  ended (s.ifDo (s.runs && s.is Hid.NONCE_OK 0 && !s.is Hid.RSPBUSY 0)
    (fun s => (s.passTime (s.get Hid.NONCE_T 0 + 60000000 - s.usec)).spendNonce))

/-- DEBUG_LOCKOUT_END (R394 step 4b): time passes until 10 s after the failure. -/
def execDebugLockoutEnd (s : State) : Out :=
  ended (s.ifDo (s.vao && s.is Hid.LOCKOUT 0) (fun s => (s.passTime (s.get Hid.LOCK_T 0 + 10000000 - s.usec)).put Hid.LOCKOUT 0 0))

/-- DEBUG_CLOSE (R395). -/
def execDebugClose (s : State) : Out := ended (s.ifDo s.runs State.endSession)

/-- TRST_LOW (R395). -/
def execTrstLow (s : State) : Out := ended (s.ifDo s.runs State.endSession)

/-- DEBUG_HALT (R396, R398): an identity in RUN or WAIT stops; one in TAKEOVER does so at the end of step 5 (R222). -/
def execDebugHalt (st : Stl) (s : State) : Out :=
  ended (s.ifDo (s.runs && s.session != 0) (fun s => s.tapDbg.ifDo s.dbgFull (fun s =>
    if s.sl st == slTakeover then s.put Hid.S_HALTRQ st 1
    else s.ifDo (s.sl st == slRun || s.sl st == slWait) (fun s => s.put Hid.S_HALT st 1))))

/-- IDCODE (R394): the TAP runs in a reset too (R419). -/
def execIdcode (s : State) : Out := ended (s.ifDo s.vao (fun s => { s.tapDbg with out := [0x14192B43] }))

/-- EXTEST (R399). -/
def execExtest (s : State) : Out := ended (s.ifDo s.runs State.extest)

/-- TPERT_APPLY (R400, R401): a write of a TPERT register. -/
def execTpertApply (w : Writer) (addr : BitVec 16) (v : Word) (s : State) : Out :=
  if 0x7800 ≤ addr.toNat && addr.toNat < 0x8000 then regWrite s w addr.toNat v.toNat else done s

/-- TPERT_LOCKSTEP_ONESHOT (R400): TP_CTRL. -/
def execTpertLockstepOneshot (w : Writer) (v : Word) (s : State) : Out := regWrite s w 0x7800 v.toNat

/-- TPERT_REF_FAIL (R400): TP_CTRL. -/
def execTpertRefFail (w : Writer) (v : Word) (s : State) : Out := regWrite s w 0x7800 v.toNat

/-- NVM_WINDOW_WRITE (R408, R409): a word at a byte offset into the NVM window. -/
def execNvmWindowWrite (w : Writer) (off : BitVec 14) (v : Word) (s : State) : Out := regWrite s w (0x8000 + off.toNat) v.toNat

/-- NVM_UNIT_WRITE_DONE (R409): the unit write of the window queue completes and is read back, and the next unit starts. -/
def execNvmUnitWriteDone (ok : Bool) (s : State) : Out :=
  ended (s.ifDo (s.vao && s.get Hid.NVM_JOB 0 == 3) (fun s => (s.queueUnit ok).nvmNext))

/-- BOOT_CFG_WRITE (R406): BOOT_CFG. -/
def execBootCfgWrite (w : Writer) (v : Word) (s : State) : Out := regWrite s w 0x18 v.toNat

/-- REGISTER_WRITE (R4 to R10): a write at any address. -/
def execRegisterWrite (w : Writer) (addr : BitVec 16) (v : Word) (s : State) : Out := regWrite s w addr.toNat v.toNat

end Sys2Proof.Machine
end

