-- ==== Sys2Proof/Machine/Links.lean ====
section
/-! DEFINITION. The host links (R366 to R383): SPI frames, SMBus transactions, and the PMBus subset. What the part sends stands in `out`: on SPI
the data words or the status byte and then the frame CRC; on SMBus the bytes in the order they cross the link, the PEC last. -/

namespace Sys2Proof.Machine
open Sys2Proof

/- The CRC of both links (R368). -/

/-- One bit of CRC-8, polynomial 0x07. -/
def crc8Bit (c : Nat) : Nat := if 128 ≤ c then Nat.xor (2 * c - 256) 7 else 2 * c

/-- One byte of CRC-8. -/
def crc8Byte (c : Nat) (b : BitVec 8) : Nat :=
  crc8Bit (crc8Bit (crc8Bit (crc8Bit (crc8Bit (crc8Bit (crc8Bit (crc8Bit (Nat.xor c b.toNat))))))))

/-- CRC-8 of bytes, initial value 0. -/
def crc8 (l : List (BitVec 8)) : Nat := l.foldl crc8Byte 0

/- SPI (R366 to R374). -/

/-- The bytes of words, the most significant byte of each first (R367). -/
def spiBytes (l : List Word) : List (BitVec 8) := l.flatMap (fun w => beBytes 4 w.toNat)

/-- The words of bytes, four at a time, the most significant first. -/
def spiWords (l : List (BitVec 8)) : List Word :=
  match l with
  | a :: b :: c :: d :: t => BitVec.ofNat 32 (leNat [d, c, b, a]) :: spiWords t
  | _ => []

/-- The header of a read or write frame: command, address, burst byte. -/
def spiHead (cmd : BitVec 8) (addr : BitVec 16) (burst : BitVec 8) : List (BitVec 8) := cmd :: beBytes 2 addr.toNat ++ [burst]

/-- Words read one by one at rising addresses (R369). -/
def State.readBurst (s : State) (w : Writer) (a n : Nat) : List Word × State :=
  match n with
  | 0 => ([], s)
  | k + 1 =>
    let r := s.busRead w a
    let t := State.readBurst r.2 w (a + 4) k
    (BitVec.ofNat 32 r.1 :: t.1, t.2)

/-- Words written one by one at rising addresses (R369); what follows a reset of the part is discarded (R383). -/
def State.writeBurst (s : State) (w : Writer) (a : Nat) (l : List Word) : State :=
  match l with
  | [] => s
  | v :: t => State.writeBurst (s.busWrite w a v.toNat).2 w (a + 4) t

/-- LAST_CRC is set (R370, R371). -/
def State.lastCrc (s : State) : State := s.setBit Hid.SPI_LAST 0 1 true

/-- The frame CRC that the part sends, complemented where the frame is to be seen as corrupted (R371, R374). -/
def frameCrc (bad : Bool) (l : List (BitVec 8)) : Word := BitVec.ofNat 32 (if bad then 255 - crc8 l else crc8 l)

/-- A bad header CRC is counted (R371). -/
def State.headCrcBad (s : State) : State := s.sat Reg.HL_SPI_ERR_RD_CRC 0 255

/-- SPI_READ_FRAME (R371): n = burst + 1 words. Of a frame that begins with FCLK stopped, the first `early` bytes of data were due before FCLK
was usable (R374). -/
def execSpiReadFrame (addr : BitVec 16) (burst hdrCrc : BitVec 8) (early : Nat) (s : State) : Out :=
  if !s.linked .spi then done s
  else
    let head := spiHead 0x0B addr burst
    let bad := crc8 head != hdrCrc.toNat
    let early := if s.fclk then 0 else early
    let r := (s.spiFrame .spi).readBurst .spi addr.toNat (burst.toNat + 1)
    let bytes := (List.replicate early (0xFF : BitVec 8) ++ (spiBytes r.1).drop early).take (4 * (burst.toNat + 1))
    let s := r.2.ifDo bad (fun s => s.headCrcBad.lastCrc)
    let s := s.ifDo (0 < early) (fun s => s.flag Reg.HL_SPI_ERR_EARLY 0 1)
    ended { s with out := spiWords bytes ++ [frameCrc (bad || 0 < early) (head ++ [hdrCrc, 0] ++ bytes)] }

/-- A frame is discarded as ill-formed (R373). -/
def State.frameBad (s : State) : State := (s.put Reg.HL_SPI_ERR_FRAME_BAD 0 1).put Hid.SPI_LAST 0 1

/-- SPI_WRITE_FRAME (R370): all words or none. -/
def execSpiWriteFrame (addr : BitVec 16) (burst : BitVec 8) (words : List Word) (crc : BitVec 8) (s : State) : Out :=
  if !s.linked .spi then done s
  else if words.length != burst.toNat + 1 then ended s.demand.frameBad
  else
    let s := s.demand.spiFrame .spi
    if crc8 (spiHead 0x02 addr burst ++ spiBytes words) != crc.toNat then ended (s.sat Reg.HL_SPI_ERR_WR_CRC 0 255).lastCrc
    else ended (s.writeBurst .spi addr.toNat words)

/-- The status byte (R372). -/
def State.spiStatus (s : State) : Nat :=
  128 + 64 * s.grave.toNat + 32 * s.get Reg.PWR_STATE_BOOTING 0 + 16 * (s.hirqLow 0).toNat + 2 * s.get Hid.SPI_LAST 0

/-- SPI_STATUS_FRAME (R372, R374); a bad header CRC is counted. -/
def execSpiStatusFrame (hdrCrc : BitVec 8) (early : Bool) (s : State) : Out :=
  if !s.linked .spi then done s
  else
    let early := early && !s.fclk
    let byte : BitVec 8 := if early then 0xFF else BitVec.ofNat 8 s.spiStatus
    let s := s.demand.ifDo (crc8 [0x05] != hdrCrc.toNat) State.headCrcBad
    let s := s.ifDo early (fun s => s.flag Reg.HL_SPI_ERR_EARLY 0 1)
    ended { s with out := [byte.setWidth 32, frameCrc early [0x05, hdrCrc, 0, byte]] }

/-- SPI_FRAME_BAD (R373); words read before a read frame is cut have been read (R371). -/
def execSpiFrameBad (kind : SpiBad) (s : State) : Out :=
  if !s.linked .spi then done s
  else
    let s := s.demand
    match kind with
    | .command => ended (s.frameBad.put Reg.HL_SPI_ERR_CMD_BAD 0 1)
    | .length => ended s.frameBad
    | .busy => ended (s.frameBad.put Reg.HL_SPI_ERR_BUSY_DROP 0 1)
    | .cut addr words =>
      let r := (s.spiFrame .spi).readBurst .spi addr.toNat words.val
      ended { r.2.frameBad with out := r.1 }

/- SMBus (R375 to R377). -/

/-- The part answers its SMBus address: it runs, and the link is up (R54). -/
def State.smbUp (s : State) : Bool := s.linked .smbus

/-- The part's 7-bit address (R375). -/
def State.smbAddr (s : State) : Nat := s.get Reg.HL_SMB_CFG_ADDR 0

/-- A bit of STATUS_CML is set (R379). -/
def State.cml (s : State) (bit : Nat) : State := s.setBit Hid.PM_CML 0 bit true

/-- A NACK: the part sends nothing more. -/
def State.nack (s : State) (bit : Nat) : State := { s.cml bit with out := [] }

/-- The bytes of a write before its PEC. -/
def State.smbHead (s : State) (cmd : BitVec 8) : List (BitVec 8) := [BitVec.ofNat 8 (2 * s.smbAddr), cmd]

/-- A write transaction acts unless its PEC is wrong, or is required and missing (R377). -/
def State.smbWrite (s : State) (cmd : BitVec 8) (data : List (BitVec 8)) (pec : Option (BitVec 8)) (f : State → State) : State :=
  let s := { s with out := [] }
  match pec with
  | some p =>
    if p.toNat == crc8 (s.smbHead cmd ++ data) then f s else (s.put Reg.HL_SMB_STAT_PEC_ERR 0 1).cml 5
  | none => if s.is Reg.HL_SMB_CFG_PEC_REQ 0 then s.put Reg.HL_SMB_STAT_PEC_ERR 0 1 else f s

/-- The part sends data in a read transaction, and its PEC. -/
def State.smbSend (s : State) (cmd : BitVec 8) (data : List (BitVec 8)) : State :=
  let pec := crc8 (s.smbHead cmd ++ [BitVec.ofNat 8 (2 * s.smbAddr + 1)] ++ data)
  { s with out := (data ++ [BitVec.ofNat 8 pec]).map (fun b => b.setWidth 32) }

/-- An SMBus transaction: none while the link is down; FCLK starts for it (R18, R375). -/
def smbus (s : State) (f : State → State) : Out := if s.smbUp then ended (f s.demand) else done s

/-- MFR_REG_PTR (R376): low byte first. -/
def execMfrRegPtr (wr : Option (BitVec 16)) (pec : Option (BitVec 8)) (s : State) : Out :=
  smbus s (fun s => match wr with
    | none => s.smbSend 0xD0 (leBytes 2 (s.get Hid.PM_PTR 0))
    | some p => s.smbWrite 0xD0 (leBytes 2 p.toNat) pec (fun s => s.put Hid.PM_PTR 0 p.toNat))

/-- The words of bytes, four at a time, low byte first. -/
def smbWords (l : List (BitVec 8)) : List Word :=
  match l with
  | a :: b :: c :: d :: t => BitVec.ofNat 32 (leNat [a, b, c, d]) :: smbWords t
  | _ => []

/-- The pointer moves past words (R376). -/
def State.ptrOn (s : State) (p n : Nat) : State := s.put Hid.PM_PTR 0 (p + 4 * n)

/-- MFR_REG_DATA_WRITE (R376). -/
def execMfrRegDataWrite (data : List (BitVec 8)) (pec : Option (BitVec 8)) (s : State) : Out :=
  smbus s (fun s =>
    let n := data.length
    let bad := n == 0 || n % 4 != 0 || 32 < n
    let s := s.ifDo bad (fun s => (s.put Reg.HL_SMB_STAT_BLK_BAD 0 1).cml 6)
    s.smbWrite 0xD1 (BitVec.ofNat 8 n :: data) pec (fun s =>
      if bad then s else let p := s.get Hid.PM_PTR 0; (s.writeBurst .smbus p (smbWords data)).ptrOn p (n / 4)))

/-- MFR_REG_DATA_READ (R376). -/
def execMfrRegDataRead (s : State) : Out :=
  smbus s (fun s =>
    let n := s.get Reg.HL_SMB_STAT_RD_WORDS 0
    let p := s.get Hid.PM_PTR 0
    let r := s.readBurst .smbus p n
    (r.2.ptrOn p n).smbSend 0xD1 (BitVec.ofNat 8 (4 * n) :: r.1.flatMap (fun w => leBytes 4 w.toNat)))

/-- RD_WORDS as it is taken (R376). -/
def rdWords (v : Nat) : Nat := if v == 0 then 1 else min v 8

/-- MFR_REG_LEN (R376). -/
def execMfrRegLen (wr pec : Option (BitVec 8)) (s : State) : Out :=
  smbus s (fun s => match wr with
    | none => s.smbSend 0xD2 (leBytes 1 (s.get Reg.HL_SMB_STAT_RD_WORDS 0))
    | some v => s.smbWrite 0xD2 [v] pec (fun s => s.put Reg.HL_SMB_STAT_RD_WORDS 0 (rdWords v.toNat)))

/-- SMBUS_TIMEOUT (R375): where the timeout is enabled. -/
def execSmbusTimeout (s : State) : Out :=
  ended (s.ifDo (s.smbUp && s.is Reg.HL_SMB_CFG_TMO_EN 0) (fun s => s.put Reg.HL_SMB_STAT_TIMEOUT 0 1))

/- Pages and status latches (R378, R380). -/

def State.page (s : State) : Nat := s.get Hid.PM_PAGE 0

/-- The page is a loop's. -/
def State.loopPage (s : State) : Bool := s.page < 8

/-- A value that PAGE takes (R378). -/
def pageOk (p : Nat) : Bool := p < 8 || (0x20 ≤ p && p ≤ 0xDF) || p == 0xFF

/-- PAGE (R378). -/
def execPage (wr pec : Option (BitVec 8)) (s : State) : Out :=
  smbus s (fun s => match wr with
    | none => s.smbSend 0x00 (leBytes 1 s.page)
    | some v => if pageOk v.toNat then s.smbWrite 0x00 [v] pec (fun s => s.put Hid.PM_PAGE 0 v.toNat) else s.nack 6)

/-- A command that reads one page: PAGE 0xFF is not accepted (R378). -/
def paged (s : State) (f : State → State) : Out := smbus s (fun s => if s.page == 0xFF then s.nack 6 else f s)

/-- The bit of STATUS_VOUT, within bits 7:4, that a zone sets. -/
def voutBit (zone : Nat) : Option Nat :=
  if zone == znOvf then some 3 else if zone == znOvw then some 2 else if zone == znUvw then some 1 else if zone == znUvf then some 0 else none

/-- The zone of a channel, NONE for one that does not exist. -/
def State.zoneOf (s : State) (n : Nat) : Nat := if n < 192 then s.get Reg.CH_DATA_ZONE n else 7

/-- The latches of a page whose conditions hold are set again (R380): a clear has no lasting effect on them. -/
def State.relatch (s : State) (p : Nat) : State :=
  let s := match (s.pageChan p).bind (fun n => voutBit (s.zoneOf n)) with
    | some b => s.ifDo (!s.bit Hid.PM_VOUT p b) (fun s => s.pmSet Hid.PM_VOUT p b)
    | none => s
  if 8 ≤ p then s
  else
    let i := s.zoneOf (s.get Reg.PM_LOOP_ICH p)
    let t := s.get Reg.PM_LOOP_TCH p
    let tz := s.zoneOf t
    let ntc := s.get Reg.CH_CFG_MODE t == mdNtc
    let s := s.ifDo (i == znOvf && !s.bit Hid.PM_IOUT p 1) (fun s => s.pmSet Hid.PM_IOUT p 1)
    let s := s.ifDo (i == znOvw && !s.bit Hid.PM_IOUT p 0) (fun s => s.pmSet Hid.PM_IOUT p 0)
    let s := s.ifDo (ntc && tz == znUvf && !s.bit Hid.PM_TEMP p 1) (fun s => s.pmSet Hid.PM_TEMP p 1)
    s.ifDo (ntc && tz == znUvw && !s.bit Hid.PM_TEMP p 0) (fun s => s.pmSet Hid.PM_TEMP p 0)

/-- No latch of any page is set. -/
def State.latchesClear (s : State) : Bool :=
  (List.range 224).all (fun p => !s.is Hid.PM_VOUT p && !s.is Hid.PM_IOUT p && !s.is Hid.PM_TEMP p && !s.is Hid.PM_UNK p)

/-- SMBALERT_N is released when every latch is clear (R382). -/
def State.alertOff (s : State) : State := s.ifDo s.latchesClear (fun s => s.put Hid.PM_ALERT 0 0)

/-- SMBALERT_N is driven low (R382); released in reset and while VIO_H is low (R419, R421). -/
def State.alertLow (s : State) : Bool := s.up && !s.is Reg.SUP_STAT_HOSTIO_LOW 0 && s.is Hid.PM_ALERT 0

/-- The latches of a page cleared (R380). -/
def State.pageClear (s : State) (p : Nat) : State :=
  ((((s.put Hid.PM_VOUT p 0).put Hid.PM_IOUT p 0).put Hid.PM_TEMP p 0).put Hid.PM_UNK p 0).relatch p

/-- CLEAR_FAULTS (R379): of the page, or of every page. -/
def execClearFaults (pec : Option (BitVec 8)) (s : State) : Out :=
  smbus s (fun s => s.smbWrite 0x03 [] pec (fun s =>
    (s.forEach (if s.page == 0xFF then below 224 pageOk else [s.page]) State.pageClear).alertOff))

/-- STATUS_VOUT, STATUS_IOUT and STATUS_TEMPERATURE of a page (R380). -/
def State.stVout (s : State) (p : Nat) : Nat := 16 * s.get Hid.PM_VOUT p
def State.stIout (s : State) (p : Nat) : Nat := 128 * (s.bit Hid.PM_IOUT p 1).toNat + 32 * (s.bit Hid.PM_IOUT p 0).toNat
def State.stTemp (s : State) (p : Nat) : Nat := 64 * s.get Hid.PM_TEMP p

/-- POWER_GOOD# is live (R380). -/
def State.pgNot (s : State) (p : Nat) : Bool :=
  if p < 8 then !s.is Reg.LP_STAT_PG p else s.zoneOf (p - 0x20) != znOk

/-- OFF is live (R380). -/
def State.pmOff (s : State) (p : Nat) : Bool :=
  if p < 8 then s.lp p != lpRun else s.rails.any (fun r => s.get Reg.SEQ_JDG_CHAN r == p - 0x20 && s.rail r != rsGood)

/-- STATUS_WORD of a page (R380). -/
def State.statusWord (s : State) (p : Nat) : Nat :=
  let v := s.stVout p
  let i := s.stIout p
  let w := 0x8000 * (v != 0).toNat + 0x4000 * (i != 0).toNat + 0x800 * (s.pgNot p).toNat + 0x100 * s.get Hid.PM_UNK p +
    64 * (s.pmOff p).toNat + 32 * (bits v 7 7) + 16 * (bits i 7 7) + 4 * (s.stTemp p != 0).toNat + 2 * (s.is Hid.PM_CML 0).toNat
  w + (w != 0).toNat

/-- UNKNOWN is latched where the page's voltage channel is stale when the word is read (R380). -/
def State.latchUnknown (s : State) : State :=
  match s.pageChan s.page with
  | some n => s.ifDo (s.is Reg.CH_DATA_STALE n && !s.is Hid.PM_UNK s.page) (fun s => s.pmSet Hid.PM_UNK s.page 0)
  | none => s

/-- STATUS_BYTE (R380): the low byte of STATUS_WORD. -/
def execStatusByte (s : State) : Out := paged s (fun s => let s := s.latchUnknown; s.smbSend 0x78 (leBytes 1 (s.statusWord s.page)))

/-- STATUS_WORD (R380). -/
def execStatusWord (s : State) : Out := paged s (fun s => let s := s.latchUnknown; s.smbSend 0x79 (leBytes 2 (s.statusWord s.page)))

/-- A status register read, or bits of it cleared by writing 1; `pack` takes the register's bits to the latches' places. -/
def State.statusReg (s : State) (cmd : BitVec 8) (f : Fld) (value pack : Nat → Nat) (wr pec : Option (BitVec 8)) : State :=
  match wr with
  | none => s.smbSend cmd (leBytes 1 (value s.page))
  | some v => s.smbWrite cmd [v] pec (fun s =>
      let old := s.get f s.page
      ((s.put f s.page (old - (old &&& pack v.toNat))).relatch s.page).alertOff)

/-- STATUS_VOUT (R380). -/
def execStatusVout (wr pec : Option (BitVec 8)) (s : State) : Out :=
  paged s (fun s => s.statusReg 0x7A Hid.PM_VOUT s.stVout (fun v => v / 16) wr pec)

/-- STATUS_IOUT (R380). -/
def execStatusIout (wr pec : Option (BitVec 8)) (s : State) : Out :=
  paged s (fun s => s.statusReg 0x7B Hid.PM_IOUT s.stIout (fun v => 2 * bits v 7 7 + bits v 5 5) wr pec)

/-- STATUS_TEMPERATURE (R380). -/
def execStatusTemperature (wr pec : Option (BitVec 8)) (s : State) : Out :=
  paged s (fun s => s.statusReg 0x7D Hid.PM_TEMP s.stTemp (fun v => v / 64) wr pec)

/-- STATUS_CML (R379): link-wide. -/
def execStatusCml (wr pec : Option (BitVec 8)) (s : State) : Out :=
  smbus s (fun s => match wr with
    | none => s.smbSend 0x7E (leBytes 1 (s.get Hid.PM_CML 0))
    | some v => s.smbWrite 0x7E [v] pec (fun s =>
        let old := s.get Hid.PM_CML 0
        s.put Hid.PM_CML 0 (old - (old &&& v.toNat))))

/- Constants and readings (R379, R381). -/

/-- CAPABILITY (R379). -/
def execCapability (s : State) : Out := paged s (fun s => s.smbSend 0x19 [0xD0])

/-- VOUT_MODE (R379). -/
def execVoutMode (s : State) : Out := paged s (fun s => s.smbSend 0x20 [0x14])

/-- PMBUS_REVISION (R379). -/
def execPmbusRevision (s : State) : Out := paged s (fun s => s.smbSend 0x98 [0x44])

/-- A block of bytes, its count first. -/
def block (l : List (BitVec 8)) : List (BitVec 8) := BitVec.ofNat 8 l.length :: l

/-- MFR_ID (R379): "LALVO". -/
def execMfrId (s : State) : Out := paged s (fun s => s.smbSend 0x99 (block [0x4C, 0x41, 0x4C, 0x56, 0x4F]))

/-- MFR_MODEL (R379): "SCN4192". -/
def execMfrModel (s : State) : Out := paged s (fun s => s.smbSend 0x9A (block [0x53, 0x43, 0x4E, 0x34, 0x31, 0x39, 0x32]))

/-- An ASCII hexadecimal digit. -/
def hexDigit (n : Nat) : BitVec 8 := BitVec.ofNat 8 (if n < 10 then 0x30 + n else 0x37 + n)

/-- MFR_REVISION (R379): DEV_ID.REV as two digits. -/
def execMfrRevision (s : State) : Out :=
  paged s (fun s => let r := s.get Reg.DEV_ID_REV 0; s.smbSend 0x9B (block [hexDigit (r / 16), hexDigit (r % 16)]))

/-- A magnitude rounded to nearest, ties away from zero (R381). -/
def roundHalf (num den : Nat) : Nat := (2 * num + den) / (2 * den)

/-- VOUT_COMMAND (R379): TARGET in mV as a multiple of 2^-12 V; a write is refused. -/
def execVoutCommand (wr : Bool) (s : State) : Out :=
  paged s (fun s =>
    if wr || !s.loopPage then s.nack 7 else s.smbSend 0x21 (leBytes 2 (roundHalf (s.get Reg.LP_REF_TARGET s.page * 4096) 1000)))

/-- A VALUE in LINEAR16 for the mode of a channel, where that is VOLT or VOLT6 (R381). -/
def State.linear16 (s : State) (n v : Nat) : Option Nat :=
  if s.get Reg.CH_CFG_MODE n == mdVolt then some (roundHalf (v * 5) 32)
  else if s.get Reg.CH_CFG_MODE n == mdVolt6 then some (roundHalf (v * 3) 8) else none

/-- A field of the page's voltage channel sent in LINEAR16. -/
def State.sendVolt (s : State) (cmd : BitVec 8) (f : Fld) : State :=
  match (s.pageChan s.page).bind (fun n => s.linear16 n (s.get f n)) with
  | some v => s.smbSend cmd (leBytes 2 v)
  | none => s.nack 7

/-- A limit read; a write is NACKed (R379). -/
def State.limit (s : State) (cmd : BitVec 8) (f : Fld) (wr : Bool) : State := if wr then { s with out := [] } else s.sendVolt cmd f

/-- VOUT_OV_FAULT_LIMIT (R379). -/
def execVoutOvFaultLimit (wr : Bool) (s : State) : Out := paged s (fun s => s.limit 0x40 Reg.CH_OV_OVF wr)

/-- VOUT_OV_WARN_LIMIT (R379). -/
def execVoutOvWarnLimit (wr : Bool) (s : State) : Out := paged s (fun s => s.limit 0x42 Reg.CH_OV_OVW wr)

/-- VOUT_UV_WARN_LIMIT (R379). -/
def execVoutUvWarnLimit (wr : Bool) (s : State) : Out := paged s (fun s => s.limit 0x43 Reg.CH_UV_UVW wr)

/-- VOUT_UV_FAULT_LIMIT (R379). -/
def execVoutUvFaultLimit (wr : Bool) (s : State) : Out := paged s (fun s => s.limit 0x44 Reg.CH_UV_UVF wr)

/-- READ_VOUT (R381). -/
def execReadVout (s : State) : Out := paged s (fun s => s.sendVolt 0x8B Reg.CH_DATA_VALUE)

/-- The mantissa of a current in LINEAR11 at the exponent e - 8: the magnitude is num / den A. -/
def mantissa (num den e : Nat) : Nat := roundHalf (num * 256) (den * 2 ^ e)

/-- LINEAR11 of a current: the smallest exponent from -8 to +2 whose mantissa fits (R381); none where none fits. -/
def linear11 (neg : Bool) (num den : Nat) : Option Nat :=
  ((List.range 11).find? (fun e => mantissa num den e ≤ if neg then 1024 else 1023)).map (fun e =>
    let m := mantissa num den e
    (e + 24) % 32 * 2048 + (if neg then (2048 - m) % 2048 else m))

/-- The current of a shunt channel's VALUE across a shunt in 10 µΩ: its sign, and the ratio that is its magnitude in A (R381). -/
def shuntAmps (v rsh : Nat) : Bool × Nat × Nat :=
  (v < 0x8000, (if v < 0x8000 then 0x8000 - v else v - 0x8000) * 20000, 65536 * (if rsh == 0 then 1 else rsh))

/-- READ_IOUT (R381): a current beyond every exponent has no stated word (DESIGN CHOICE, log 3). -/
def execReadIout (s : State) : Out :=
  paged s (fun s =>
    let n := s.get Reg.PM_LOOP_ICH s.page
    if !s.loopPage || 192 ≤ n || n % 2 != 0 || s.get Reg.CH_CFG_MODE n != mdShunt then s.nack 7
    else
      let c := shuntAmps (s.get Reg.CH_DATA_VALUE n) (s.get Reg.PM_LOOP_RSH s.page)
      match linear11 c.1 c.2.1 c.2.2 with
      | some w => s.smbSend 0x8C (leBytes 2 w)
      | none => let d := s.drawFree 16; d.2.smbSend 0x8C (leBytes 2 d.1))

/-- MFR_READ_RAW (R379): CHn_DATA of the page's voltage channel, low byte first. -/
def execMfrReadRaw (s : State) : Out :=
  paged s (fun s => match s.pageChan s.page with
    | some n => s.smbSend 0xD3 (block (leBytes 4 (s.chData n).toNat))
    | none => s.nack 7)

/-- The command codes that the part supports (R379). -/
def pmCodes : List Nat :=
  [0x00, 0x03, 0x19, 0x20, 0x21, 0x40, 0x42, 0x43, 0x44, 0x78, 0x79, 0x7A, 0x7B, 0x7D, 0x7E, 0x8B, 0x8C, 0x98, 0x99, 0x9A, 0x9B, 0xD0, 0xD1,
   0xD2, 0xD3]

/-- PMBUS_INVALID_COMMAND (R379). -/
def execPmbusInvalidCommand (code : BitVec 8) (s : State) : Out :=
  smbus s (fun s => if pmCodes.contains code.toNat then s else s.nack 7)

/-- ALERT_RESPONSE (R382): where the part drives SMBALERT_N it answers with its address, and on winning arbitration releases the pin. -/
def execAlertResponse (win : Bool) (s : State) : Out :=
  smbus s (fun s => s.ifDo (s.is Reg.HL_SMB_CFG_ARA_EN 0 && s.is Hid.PM_ALERT 0 && win)
    (fun s => { s.put Hid.PM_ALERT 0 0 with out := [BitVec.ofNat 32 s.smbAddr] }))

end Sys2Proof.Machine
end

