-- ==== Sys2Proof/Machine/Flags.lean ====
section
/-! DEFINITION. The ALU's results with their flags (R189 to R192): each operation gives its 32-bit result, and C and V where it writes them. Z and N
follow from the result. -/

namespace Sys2Proof.Machine
open Sys2Proof

/-- A result of the ALU; `none` leaves the flag unchanged. -/
structure Alu where
  r : Word
  c : Option Bool
  v : Option Bool
  deriving DecidableEq, Repr

/-- ADD: C is the carry out of bit 31, V the overflow of the signed sum (R189). -/
def aluAdd (a b : Word) : Alu :=
  { r := a + b, c := some (decide (2 ^ 32 ≤ a.toNat + b.toNat)), v := some (a.msb == b.msb && (a + b).msb != a.msb) }

/-- SUB: C is 1 when no borrow occurs, V the overflow of the signed difference (R189). -/
def aluSub (a b : Word) : Alu :=
  { r := a - b, c := some (decide (b.toNat ≤ a.toNat)), v := some (a.msb != b.msb && (a - b).msb != a.msb) }

/-- AND, OR, XOR and MUL16 leave C and V (R189, R191). -/
def aluBits (r : Word) : Alu := { r := r, c := none, v := none }

/-- The exact product of the low halves (R191). -/
def mul16 (a b : Word) : Word := BitVec.ofNat 32 (a.toNat % 2 ^ 16 * (b.toNat % 2 ^ 16))

/-- SHL by 0 to 255 (R190). -/
def aluShl (a : Word) (k : Nat) : Alu :=
  { r := if k < 32 then a <<< k else 0, c := some (k != 0 && k ≤ 32 && a.getLsbD (32 - k)), v := none }

/-- SHR by 0 to 255 (R190). -/
def aluShr (a : Word) (k : Nat) : Alu :=
  { r := if k < 32 then a >>> k else 0, c := some (k != 0 && k ≤ 32 && a.getLsbD (k - 1)), v := none }

/-- ASR by 0 to 255 (R190). -/
def aluAsr (a : Word) (k : Nat) : Alu :=
  { r := a.sshiftRight (min k 32), c := some (k != 0 && a.getLsbD (min k 32 - 1)), v := none }

/-- The flags of a result are written (R189). -/
def State.setFlags (s : State) (st : Nat) (x : Alu) : State :=
  let s := (s.mark Hid.S_Z st (x.r == 0)).mark Hid.S_N st x.r.msb
  let s := match x.c with
    | some b => s.mark Hid.S_C st b
    | none => s
  match x.v with
  | some b => s.mark Hid.S_V st b
  | none => s

/-- The condition of a branch or call (R170). -/
def condHolds (z n c v ref : Bool) (cond : Nat) : Bool :=
  match cond with
  | 0x0 => true
  | 0x1 => z
  | 0x2 => !z
  | 0x3 => c
  | 0x4 => !c
  | 0x5 => n
  | 0x6 => !n
  | 0x7 => v
  | 0x8 => !v
  | 0x9 => c && !z
  | 0xA => !c || z
  | 0xB => n == v
  | 0xC => n != v
  | 0xD => !z && n == v
  | 0xE => z || n != v
  | _ => ref

/-- The condition holds for an identity. -/
def State.condNow (s : State) (st : Nat) (cond : BitVec 4) : Bool :=
  condHolds (s.is Hid.S_Z st) (s.is Hid.S_N st) (s.is Hid.S_C st) (s.is Hid.S_V st) (s.is Hid.S_REF st) cond.toNat

/-- The flags that a zone gives JUDGE (R203): Z, N and C. -/
def judgeFlags (zone : Nat) : Bool × Bool × Bool :=
  match zone with
  | 0 => (true, false, false)
  | 1 => (false, false, true)
  | 2 => (false, true, true)
  | 4 => (false, true, false)
  | _ => (false, false, false)

end Sys2Proof.Machine
end

