-- ==== Sys2Proof/Machine/Operands.lean ====
section
/-! DEFINITION. The operands of Tarragon instructions (R161, R169, R172, R179): registers, immediates, addresses, channels, units and branch targets. -/

namespace Sys2Proof.Machine
open Sys2Proof

/-- A general register; s0 reads as 0 (R161). -/
def State.reg (s : State) (st : Nat) (r : RegN) : Word := if r = 0 then 0 else s.word Hid.S_R (16 * st + r.val)

/-- A general register written; a result written to s0 is discarded (R161). -/
def State.setReg (s : State) (st : Nat) (r : RegN) (v : Word) : State := if r = 0 then s else s.put Hid.S_R (16 * st + r.val) v.toNat

/-- PC of an identity. -/
def State.pc (s : State) (st : Nat) : Nat := s.get Hid.S_PC st

/-- A 14-bit immediate, sign-extended or zero-extended (R169). -/
def sext14 (imm : BitVec 14) : Word := imm.signExtend 32
def zext14 (imm : BitVec 14) : Word := imm.setWidth 32

/-- The exact sum of a register and a 14-bit immediate: a channel, a Ledger source or a mailbox (R169). -/
def State.sum14 (s : State) (st : Nat) (ra : RegN) (imm : BitVec 14) : Nat := (s.reg st ra).toNat + imm.toNat

/-- The exact byte address of a register and a word offset (R169). -/
def State.addr14 (s : State) (st : Nat) (ra : RegN) (imm : BitVec 14) : Nat := (s.reg st ra).toNat + 4 * imm.toNat

/-- The target of a branch or call (R169): the instruction's address and the signed offset. -/
def State.target (s : State) (st : Nat) (off : BitVec 20) : Int := (s.pc st : Nat) + off.toInt

/-- A target outside the instruction memory (R163). -/
def badTarget (t : Int) : Bool := t < 0 || 0x1FFF < t

/-- A misaligned byte address (R164). -/
def misaligned (a : Nat) : Bool := a % 4 != 0

/-- A block of n words at an address leaves the shared data (R164). -/
def outside (a n : Nat) : Bool := 0x10000 < a + 4 * n

/-- The loop or SQ pin that a class and unit name, as OUT_KIND and number (R172). -/
def railUnit (cls : BitVec 4) (unit : BitVec 8) : Option (Nat × Nat) :=
  if cls == 1 && unit.toNat < 8 then some (1, unit.toNat) else if cls == 2 && unit.toNat < 64 then some (2, unit.toNat) else none

/-- The unit that may be fenced which a class and unit name, by its Ledger source (R172). -/
def fenceUnitOf (cls : BitVec 4) (unit : BitVec 8) : Option Nat :=
  if cls == 3 && unit.toNat < 24 then some unit.toNat
  else if cls == 4 && unit.toNat < 4 then some (52 + unit.toNat)
  else if cls == 5 && unit.toNat < 16 then some (56 + unit.toNat) else none

/-- A wait parameter outside its range (R181, R182). -/
def paramBad (sel p : Nat) : Bool :=
  match sel with
  | 1 => 7 < p
  | 2 => 71 < p
  | 3 => 71 < p
  | 13 => 2047 < p || 191 < p % 256 || p / 256 == 5 || p / 256 == 6
  | 17 => 15 < p
  | 19 => 63 < p
  | 20 => 15 < p
  | _ => false

end Sys2Proof.Machine
end

