-- ==== Sys2Proof/Machine/PowerCmd.lean ====
section
/-! DEFINITION. The commands of the power states, supplies, resets and clocks (R15 to R69). An event whose condition the state does not meet
changes nothing. -/

namespace Sys2Proof.Machine
open Sys2Proof

/- Supplies and start. -/

/-- VBKUP_RISE (R22, R333). -/
def execVbkupRise (s : State) : Out :=
  done (((s.put Hid.VBKUP_OK 0 1).put Hid.DOM_ON 0 1).ifDo (!s.vao) (fun s => s.put Hid.ON_VBKUP 0 1))

/-- The number of a raiser: 1 DCIN, 2 P0, 3 P1, 4 VBAT. -/
def raiserNum (r : Raiser) : Nat :=
  match r with
  | .dcin => 1
  | .p0 => 2
  | .p1 => 3
  | .vbat => 4

/-- The VBAT leg of the max-select is blocked (R16, R35, R37). -/
def State.legBlocked (s : State) : Bool := (s.ship || s.is Reg.BK_STAT_EMPTY 0) && s.get Hid.LEGWIN 0 == 0

/-- WAKE_CAUSE is rewritten at a start (R38): the sources present and, in a window of the VBAT leg, the button or the alarm. -/
def State.wakeCauses (s : State) (l : List Nat) : State :=
  let win := s.get Hid.LEGWIN 0
  let s := ((s.mark Reg.WAKE_CAUSE_DCIN 0 (l.contains 1)).mark Reg.WAKE_CAUSE_VBUS0 0 (l.contains 2)).mark Reg.WAKE_CAUSE_VBUS1 0 (l.contains 3)
  let s := (s.mark Reg.WAKE_CAUSE_VBAT 0 (l.contains 4)).mark Reg.WAKE_CAUSE_PWRBTN 0 (win == 1)
  s.mark Reg.WAKE_CAUSE_ALARM 0 (win == 2)

/-- VAO rises and a POR start begins (R35, R37, R43, R47, R48, R58, R68); a port that alone could raise it feeds VSYS at once (R275). -/
def State.vaoUp (s : State) (r : Nat) (also : List Nat) (core ana : Bool) : State :=
  let s := s.wakeCauses (r :: also)
  let win := s.get Hid.LEGWIN 0
  let s := if r != 4 then s.ifDo (s.ship || s.is Reg.BK_STAT_EMPTY 0) (fun s => s.put Hid.RAISER 0 r)
    else (s.ifDo (win == 1) (fun s => s.put Reg.BK_STAT_SHIP 0 0)).ifDo (win == 2) (fun s => s.put Reg.BK_STAT_EMPTY 0 0)
  let s := (((s.put Hid.LEGWIN 0 0).put Hid.MAIN 0 1).put Hid.DOM_ON 0 1).put Hid.ON_VBKUP 0 0
  let s := s.clearCauses.put Reg.RST_CAUSE_POR 0 1
  let s := (s.mark Reg.SUP_STAT_CORE_EXT 0 core).mark Reg.SUP_STAT_ANA_EXT 0 ana
  let s := ((((s.put Hid.COLD 0 1).put Hid.WARM 0 0).put Hid.RECDUE 0 1).put Hid.STKUNK 0 1).put Hid.STGLOST 0 0
  let s := ((s.put Hid.FCLK 0 1).portsClamp).forEach [0, 1, 2] (fun s i => s.mark Hid.IN_PWR i ((r :: also).contains (i + 1)))
  s.ifDo ((r == 2 || r == 3) && also.isEmpty) (fun s => ((s.put Hid.IN_OK (r - 1) 1).selectInput (r - 1)).qualify (r - 1))

/-- VAO_RISE (R47): the raiser, and the other sources that stand above the start threshold. -/
def execVaoRise (raiser : Raiser) (also : List Raiser) (coreExt anaExt : Bool) (s : State) : Out :=
  let r := raiserNum raiser
  let others := ((also.map raiserNum).filter (fun n => n != r && !(n == 4 && s.legBlocked)))
  done (s.ifDo (!s.vao && !(r == 4 && s.legBlocked)) (fun s => s.vaoUp r others coreExt anaExt))

/-- VCOLLAPSE (R25, R36, R38, R154). -/
def execVcollapse (s : State) : Out := done (s.ifDo s.vao (fun s => s.mainDown s.exitDone))

/-- The code of a supply in RST_CAUSE.BOR_SRC. -/
def supplyNum (x : Supply) : Nat :=
  match x with
  | .vaoC => 1
  | .vcore => 2
  | .vana => 3
  | .vioS => 4
  | .vioP => 5

/-- SUPPLY_BROWNOUT (R52): a BOR reset. -/
def execSupplyBrownout (src : Supply) (s : State) : Out := ended (s.ifDo s.vao (fun s => s.coldReset (supplyNum src)))

/-- HOSTIO_LOW (R54): while the part runs, and in a warm reset. -/
def execHostioLow (s : State) : Out :=
  ended (s.ifDo (s.vao && (s.up || s.is Hid.WARM 0)) (fun s => (s.put Reg.SUP_STAT_HOSTIO_LOW 0 1).raise 99))

/-- The fields of the host links that hold how far a link is and what went wrong on it: flags, counters, page, pointer and words per read. -/
def linkFlds : List Fld :=
  [Reg.HL_SPI_ERR_WR_CRC, Reg.HL_SPI_ERR_RD_CRC, Reg.HL_SPI_ERR_EARLY, Reg.HL_SPI_ERR_BUSY_DROP, Reg.HL_SPI_ERR_CMD_BAD,
   Reg.HL_SPI_ERR_FRAME_BAD, Reg.HL_SMB_STAT_RD_WORDS, Reg.HL_SMB_STAT_BLK_BAD, Reg.HL_SMB_STAT_TIMEOUT, Reg.HL_SMB_STAT_PEC_ERR,
   Hid.SPI_LAST, Hid.PM_PAGE, Hid.PM_PTR, Hid.PM_CML]

/-- The host links' own state as at reset; their configuration and the rails' status latches stay (DEDUCED, log 62). -/
def State.linksReset (s : State) : State := linkFlds.foldl (fun s f => s.put f 0 (f.dflt 0)) s

/-- HOSTIO_RESUME (R54): the host links resume with their state as at reset. -/
def execHostioResume (s : State) : Out :=
  done (s.ifDo (s.is Reg.SUP_STAT_HOSTIO_LOW 0) (fun s => (s.put Reg.SUP_STAT_HOSTIO_LOW 0 0).linksReset))

/-- ORDER_VIOL_DETECT (R51): rule 1 or 2, while the part is held in reset. -/
def execOrderViolDetect (rule : BitVec 2) (s : State) : Out :=
  done (s.ifDo (s.get Hid.MAIN 0 == 1 && (rule.toNat == 1 || rule.toNat == 2))
    (fun s => (((s.put Reg.ORDER_STAT_ORDER_VIOL 0 1).put Reg.ORDER_STAT_RULE 0 rule.toNat).put Reg.ORDER_STAT_LOGGED 0 0).put Hid.ORD_HOLD 0 1))

/-- ORDER_VIOL_CLEAR (R51). -/
def execOrderViolClear (w : Writer) (s : State) : Out := regWrite s w 0x10 1

/- Resets. -/

/-- RESET_HOLD_END (R53, R375, R67): the bank modes and the SMBus straps are sampled, the reset is released, and each port applies its own Rd beside
the clamp. After an ordering breach that takes supplies that have fallen and risen again in order (R51). -/
def execResetHoldEnd (viohMode viopMode : Bool) (rel : HoldEnd) (s : State) : Out :=
  done (s.ifDo (s.get Hid.MAIN 0 == 1 && !s.is Hid.WARM 0 && (rel.reordered || !s.is Hid.ORD_HOLD 0)) (fun s =>
    let s := ((s.mark Reg.SUP_STAT_VIOH_MODE 0 viohMode).mark Reg.SUP_STAT_VIOP_MODE 0 viopMode).put Reg.SUP_STAT_HOSTIO_LOW 0 0
    let s := ((s.put Reg.HL_SMB_CFG_ADDR 0 (0x60 + rel.addr.toNat % 4)).put Hid.ORD_HOLD 0 0).put Hid.MAIN 0 2
    s.forEach [0, 1] (fun s x => s.put Hid.PO_RD x 1)))

/-- PIN_RESET (R55): the pin is an input once the ROM boot stage has started. -/
def execPinReset (s : State) : Out := ended (s.ifDo s.up (fun s => s.coldReset 0))

/-- HOST_RESET (R56). -/
def execHostReset (w : Writer) (s : State) : Out := regWrite s w 0x4 0xA5

/-- SOFT_RST_KEY_BAD (R56): a write of a key. -/
def execSoftRstKeyBad (w : Writer) (key : BitVec 8) (s : State) : Out := regWrite s w 0x4 key.toNat

/-- WARM_TMO_EXPIRY (R57). -/
def execWarmTmoExpiry (s : State) : Out := ended (s.ifDo (s.get Hid.MAIN 0 == 1 && s.is Hid.WARM 0) (fun s => s.release false))

/-- ROM_BOOT_STAGE (R63 to R65). -/
def execRomBootStage (s : State) : Out := ended (s.ifDo (s.get Hid.MAIN 0 == 2) State.romBoot)

/-- BOOT_WINDOW_TIMEOUT (R66). -/
def execBootWindowTimeout (s : State) : Out :=
  ended (s.ifDo (s.is Hid.BOOTWIN 0) (fun s => ((s.put Reg.BOOT_STAT_SEAL_TMO 0 1).raise 102).closeWindow))

/- Requests and transitions. -/

/-- PWR_REQ_STANDBY (R23). -/
def execPwrReqStandby (w : Writer) (s : State) : Out := regWrite s w 0x404 1

/-- STANDBY_ENTRY_DONE (R26, R31). -/
def execStandbyEntryDone (s : State) : Out := ended (s.ifDo (s.trans == trStandby) (fun s => s.rest 1))

/-- PWR_REQ_RUN (R23). -/
def execPwrReqRun (w : Writer) (s : State) : Out := regWrite s w 0x404 2

/-- The end of the RUN transition (R22, R23, R129): ACTIVE, HOLD, or STANDBY where input and battery are both gone. -/
def State.runEnd (s : State) : State :=
  let s := (s.put Hid.TRANS 0 trNone).fclkOn
  if !s.anyInput && !s.batAvail then s.pwrRefuse
  else
    let burst := s.is Hid.BURST 0
    let s := ((s.put Hid.RUN_T 0 s.usec).put Hid.BURST 0 0).put Hid.BURST_NOW 0 0
    let s := s.forEach (below 16 (fun c => !s.is Reg.CR_CFG_STBY_EN c)) (fun s c => s.put Hid.CR_OFF c 1)
    let s := if s.anyInput then (s.put Reg.PWR_STATE_CUR 0 2).portsActive else s.enterHold 0
    s.ifDo (!burst) State.scanStart

/-- RUN_TRANSITION_END (R24). -/
def execRunTransitionEnd (s : State) : Out := ended (s.ifDo (s.trans == trRun) State.runEnd)

/-- PWR_REQ_SHIP (R23, R33). -/
def execPwrReqShip (w : Writer) (s : State) : Out := regWrite s w 0x404 5

/-- PWR_REQ_CANCEL (R23, R34). -/
def execPwrReqCancel (w : Writer) (s : State) : Out := regWrite s w 0x404 6

/-- PWR_REQ_UNDEFINED (R22): a write of a code of PWR_REQ.REQ. -/
def execPwrReqUndefined (w : Writer) (req : BitVec 4) (s : State) : Out := regWrite s w 0x404 req.toNat

/-- SHIP_PEND_INPUT_REMOVED (R34). -/
def execShipPendInputRemoved (s : State) : Out := done (s.ifDo (s.vao && s.cur == 4) (fun s => s.mainDown true))

/-- STBY_CFG_WRITE (R27). -/
def execStbyCfgWrite (w : Writer) (v : Word) (s : State) : Out := regWrite s w 0x408 v.toNat

/-- A burst may run: in STANDBY, with a period, and none under way. -/
def State.burstDue (s : State) : Bool := s.runs && s.standby && s.scanP != 0 && !s.is Hid.BURST 0

/-- STANDBY_BURST (R27): the first since the entry at once, another SCAN_P after the start of the one before or, where a write made it late, at once;
time passes until then. -/
def execStandbyBurst (s : State) : Out :=
  ended (s.ifDo s.burstDue (fun s =>
    let s := s.ifDo (s.is Hid.BURST_ANY 0 && !s.is Hid.BURST_NOW 0) (fun s => s.passTime (s.get Hid.BURST_T 0 + 1000 * s.scanP - s.usec))
    s.ifDo s.burstDue State.burstStart))

/- The fast clock. -/

/-- FCLK_USABLE (R19): what blocks held is registered. -/
def execFclkUsable (s : State) : Out := ended (s.ifDo (s.get Hid.FCLK 0 == 1) State.fclkOn)

/-- FCLK_LOCK (R19): to the crystal. -/
def execFclkLock (s : State) : Out := done (s.ifDo (s.fclk && !s.is Reg.BK_STAT_ON_RC 0) (fun s => s.put Hid.FLOCK 0 1))

/-- CLK_FAULT (R19, R319). -/
def execClkFault (s : State) : Out := ended (s.ifDo (s.is Hid.FCLK 0 && !s.is Hid.FLOCK 0) (fun s => s.raise 104))

/-- Some demand of R18 stands, or work that FCLK carries is unfinished. BMC activity and a host access are a command each, over with it. -/
def State.fclkHeld (s : State) : Bool :=
  !s.standby || s.is Hid.BURST 0 || (List.range 256).any s.wakeEvent || [0, 1, 2, 3].any (fun st => s.sl st == slRun || s.sl st == slTakeover) ||
    s.fastTimer || s.is Hid.NVM_JOB 0 || !s.nvmq.isEmpty || s.session != 0 ||
    s.is Reg.PWR_STATE_BOOTING 0 || !s.evq.isEmpty || s.trans != trNone

/-- FCLK_STOP (R18). -/
def execFclkStop (s : State) : Out := done (s.ifDo (s.runs && !s.fclkHeld) (fun s => (s.put Hid.FCLK 0 0).put Hid.FLOCK 0 0))

/-- VBAT_LEG_WINDOW_END (R35, R37). -/
def execVbatLegWindowEnd (s : State) : Out :=
  done (s.ifDo (!s.vao && s.is Hid.LEGWIN 0)
    (fun s => (s.ifDo (s.get Hid.LEGWIN 0 == 2) (fun s => s.put Reg.WAKE_CAUSE_ALARM_NOSRC 0 1)).put Hid.LEGWIN 0 0))

/-- HOLD_DWELL_END (R40): time passes until 200 ms after the entry to HOLD. -/
def execHoldDwellEnd (s : State) : Out :=
  ended (s.ifDo (s.hold && !s.is Hid.DWELL_DONE 0)
    (fun s =>
      let s := (s.passTime (s.get Hid.HOLD_T0 0 + 200000 - s.usec)).put Hid.DWELL_DONE 0 1
      s.ifDo (s.hold && s.anyInput && s.trans == trNone) State.backToActive))

end Sys2Proof.Machine
end

