-- ==== Sys2Proof/Machine/Tarragon.lean ====
section
/-! DEFINITION. How a Tarragon instruction runs (R161 to R186): retirement, program faults, side effects with their issue numbers, and the forced
lockstep mismatch. -/

namespace Sys2Proof.Machine
open Sys2Proof

/-- An instruction retires (R162): PC takes its next value, and the shadow bank is valid again (R218). -/
def State.retireAt (s : State) (st pc : Nat) : State := (s.put Hid.S_PC st pc).put Hid.S_SHBAD st 0

/-- The instruction retires, and the next one follows it. -/
def State.retire (s : State) (st : Nat) : State := s.retireAt st (s.pc st + 1)

/-- A program fault (R186, R231): the instruction does not retire. -/
def State.progFault (s : State) (st code : Nat) : State :=
  (((s.put Reg.STL_STAT_FCODE st code).put Reg.STL_STAT_FPC st (s.pc st)).setSl st slFault).raise 81

/-- The lowest fault that an instruction meets (R186); `last`: it steps past the last word (R163). The other cases stand in rising order. -/
def faultOf (ill last : Bool) (l : List (Bool × Nat)) : Nat := firstWhy ((ill, 1) :: (last, 2) :: l)

/-- The identity stands at the last word of its memory. -/
def State.atLast (s : State) (st : Nat) : Bool := s.pc st == 0x1FFF

/-- An instruction that runs unless it faults; `f` retires it. -/
def State.unlessFault (s : State) (st : Nat) (ill : Bool) (l : List (Bool × Nat)) (f : State → State) : State :=
  match faultOf ill (s.atLast st) l with
  | 0 => f s
  | code => s.progFault st code

/-- An instruction without a fault of its own, followed by the next one. -/
def State.plain (s : State) (st : Nat) (f : State → State) : State := s.unlessFault st false [] (fun s => (f s).retire st)

/- Side effects (R173 to R176). The completers: 0 the Keeper, 1 the register fabric, 2 the Daybook staging, 3 the Ledger, 4 the mailbox unit,
5 the security block. -/

/-- What a completer answers: refused or not, the data it returns, and the state. -/
structure Answer where
  refused : Bool
  data : Nat
  after : State

/-- The issue number of the next side effect (R175). -/
def State.nextIsn (s : State) (st : Nat) : Nat := (s.get Hid.S_ISN st + 1) % 2 ^ 16

/-- The completer's record holds the outcome of the side effect now issued (R175). -/
def State.reissue (s : State) (st c : Nat) : Bool := s.is Hid.CP_V (4 * c + st) && s.get Hid.CP_ISN (4 * c + st) == s.nextIsn st

/-- The completer's record of a side effect confirmed without data; a refusal or data are entered when they are known. -/
def State.newRecord (s : State) (st c : Nat) : State :=
  let k := 4 * c + st
  (((s.put Hid.CP_V k 1).put Hid.CP_ISN k (s.nextIsn st)).put Hid.CP_REF k 0).put Hid.CP_DAT k 0

/-- A completer completes an issue, or returns the outcome that it recorded for it (R174, R175). -/
def State.complete1 (s : State) (st c : Nat) (f : State → Answer) : Answer :=
  let k := 4 * c + st
  if s.reissue st c then { refused := s.is Hid.CP_REF k, data := s.get Hid.CP_DAT k, after := s.put Hid.S_ISN st (s.nextIsn st) }
  else
    let r := f ((s.newRecord st c).put Hid.S_ISN st (s.nextIsn st))
    let t := r.after.ifDo r.refused (fun t => t.put Hid.CP_REF k 1)
    { r with after := t.ifDo (r.data != 0) (fun t => t.put Hid.CP_DAT k r.data) }

/-- A side effect (R174): it retires with REFUSED at its outcome; `g` takes the data that the completer returns. A reset that the side effect brings
about acts on what has retired. -/
def State.sideEffect (s : State) (st c : Nat) (f : State → Answer) (g : Bool → Nat → State → State) : State :=
  let r := ((s.put Hid.S_REF st 0).retire st).complete1 st c f
  g r.refused r.data (r.after.ifDo r.refused (fun s => s.put Hid.S_REF st 1))

/-- A refusal that raises a Ledger source (R173). -/
def State.refuse (s : State) (src : Nat) : Answer := { refused := true, data := 0, after := s.raise src }

/-- A confirmation without data. -/
def confirm (s : State) : Answer := { refused := false, data := 0, after := s }

/- The lockstep mismatch of an instruction in progress (R162, R219, R400). -/

/-- The units that identity st has of a field with k units for each identity. -/
def stUnits (st k : Nat) : List Nat := (List.range k).map (fun i => k * st + i)

/-- The fields of an identity's architectural state and of its run state, with the units that each identity has (R161). -/
def archFlds : List (Fld × Nat) :=
  [(Hid.S_PC, 1), (Hid.S_R, 16), (Hid.S_Z, 1), (Hid.S_N, 1), (Hid.S_C, 1), (Hid.S_V, 1), (Hid.S_REF, 1), (Hid.S_CSD, 1), (Hid.S_CS, 8),
   (Hid.S_ISN, 1), (Hid.S_WDL, 1), (Hid.S_WDLV, 1), (Hid.S_WKIND, 1), (Hid.S_SHBAD, 1), (Reg.STL_STAT_STATE, 1)]

/-- The identity's state as it was at the previous retirement. -/
def State.keepArch (s old : State) (st : Nat) : State :=
  archFlds.foldl (fun s f => s.forEach (stUnits st f.2) (fun s i => s.put f.1 i (old.get f.1 i))) s

/-- A forced mismatch is armed (R400). -/
def State.mmArmed (s : State) (st : Nat) : Bool := s.is Hid.MM_ARM st

/-- An instruction has retired: it neither faulted nor waits. -/
def State.retired (s : State) (st : Nat) : Bool := s.runs && (s.sl st == slRun || s.sl st == slHalt)

/-- One instruction of an identity; where a forced mismatch is armed, its retirement is the mismatch, and what it issued completes (R176). -/
def State.runOne (s : State) (st : Nat) (f : State → State) : State :=
  let t := f s
  if s.mmArmed st && t.mmArmed st && t.retired st then
    ((t.keepArch s st).put Hid.MM_ARM st 0).mismatch (t.phys st) (t.get Hid.S_ISN st != s.get Hid.S_ISN st)
  else t

/-- The command that an identity executes an instruction; it has none where the identity does not execute. -/
def tar (st : Nat) (s : State) (f : State → State) : Out := if s.executes st then ended (s.runOne st f) else done s

end Sys2Proof.Machine
end

