-- ==== Sys2Proof/Machine/TarAlu.lean ====
section
/-! DEFINITION. The arithmetic, constant and time instructions (R166, R189 to R192). For each instruction, `op…` is what one identity does with it
and `exec…` the command. -/

namespace Sys2Proof.Machine
open Sys2Proof

/-- A result with flags for a destination register. -/
def State.alu (s : State) (st : Nat) (rd : RegN) (x : Alu) : State := s.plain st (fun s => (s.setReg st rd x.r).setFlags st x)

/-- Flags only. -/
def State.aluFlags (s : State) (st : Nat) (x : Alu) : State := s.plain st (fun s => s.setFlags st x)

/-- A result without flags. -/
def State.load (s : State) (st : Nat) (rd : RegN) (v : Word) : State := s.plain st (fun s => s.setReg st rd v)

/-- The amount of a register shift (R190). -/
def shiftBy (b : Word) : Nat := b.toNat % 256

/-- A shift by an immediate, ILLEGAL with bits 13:5 set (R169). -/
def State.aluImm (s : State) (st : Nat) (rd : RegN) (imm : BitVec 14) (f : Nat → Alu) : State :=
  s.unlessFault st (32 ≤ imm.toNat) [] (fun s => ((s.setReg st rd (f imm.toNat).r).setFlags st (f imm.toNat)).retire st)

def opAdd (st : Stl) (rd ra rb : RegN) (s : State) : State := s.alu st rd (aluAdd (s.reg st ra) (s.reg st rb))
/-- ADD (R189). -/
def execTAdd (st : Stl) (rd ra rb : RegN) (s : State) : Out := tar st s (opAdd st rd ra rb)

def opSub (st : Stl) (rd ra rb : RegN) (s : State) : State := s.alu st rd (aluSub (s.reg st ra) (s.reg st rb))
/-- SUB (R189). -/
def execTSub (st : Stl) (rd ra rb : RegN) (s : State) : Out := tar st s (opSub st rd ra rb)

def opAnd (st : Stl) (rd ra rb : RegN) (s : State) : State := s.alu st rd (aluBits (s.reg st ra &&& s.reg st rb))
/-- AND (R189). -/
def execTAnd (st : Stl) (rd ra rb : RegN) (s : State) : Out := tar st s (opAnd st rd ra rb)

def opOr (st : Stl) (rd ra rb : RegN) (s : State) : State := s.alu st rd (aluBits (s.reg st ra ||| s.reg st rb))
/-- OR (R189). -/
def execTOr (st : Stl) (rd ra rb : RegN) (s : State) : Out := tar st s (opOr st rd ra rb)

def opXor (st : Stl) (rd ra rb : RegN) (s : State) : State := s.alu st rd (aluBits (s.reg st ra ^^^ s.reg st rb))
/-- XOR (R189). -/
def execTXor (st : Stl) (rd ra rb : RegN) (s : State) : Out := tar st s (opXor st rd ra rb)

def opShl (st : Stl) (rd ra rb : RegN) (s : State) : State := s.alu st rd (aluShl (s.reg st ra) (shiftBy (s.reg st rb)))
/-- SHL (R190). -/
def execTShl (st : Stl) (rd ra rb : RegN) (s : State) : Out := tar st s (opShl st rd ra rb)

def opShr (st : Stl) (rd ra rb : RegN) (s : State) : State := s.alu st rd (aluShr (s.reg st ra) (shiftBy (s.reg st rb)))
/-- SHR (R190). -/
def execTShr (st : Stl) (rd ra rb : RegN) (s : State) : Out := tar st s (opShr st rd ra rb)

def opAsr (st : Stl) (rd ra rb : RegN) (s : State) : State := s.alu st rd (aluAsr (s.reg st ra) (shiftBy (s.reg st rb)))
/-- ASR (R190). -/
def execTAsr (st : Stl) (rd ra rb : RegN) (s : State) : Out := tar st s (opAsr st rd ra rb)

def opMul16 (st : Stl) (rd ra rb : RegN) (s : State) : State := s.alu st rd (aluBits (mul16 (s.reg st ra) (s.reg st rb)))
/-- MUL16 (R191). -/
def execTMul16 (st : Stl) (rd ra rb : RegN) (s : State) : Out := tar st s (opMul16 st rd ra rb)

def opCmp (st : Stl) (ra rb : RegN) (s : State) : State := s.aluFlags st (aluSub (s.reg st ra) (s.reg st rb))
/-- CMP (R189). -/
def execTCmp (st : Stl) (ra rb : RegN) (s : State) : Out := tar st s (opCmp st ra rb)

def opAddi (st : Stl) (rd ra : RegN) (imm : BitVec 14) (s : State) : State := s.alu st rd (aluAdd (s.reg st ra) (sext14 imm))
/-- ADDI (R189). -/
def execTAddi (st : Stl) (rd ra : RegN) (imm : BitVec 14) (s : State) : Out := tar st s (opAddi st rd ra imm)

def opAndi (st : Stl) (rd ra : RegN) (imm : BitVec 14) (s : State) : State := s.alu st rd (aluBits (s.reg st ra &&& zext14 imm))
/-- ANDI (R189). -/
def execTAndi (st : Stl) (rd ra : RegN) (imm : BitVec 14) (s : State) : Out := tar st s (opAndi st rd ra imm)

def opOri (st : Stl) (rd ra : RegN) (imm : BitVec 14) (s : State) : State := s.alu st rd (aluBits (s.reg st ra ||| zext14 imm))
/-- ORI (R189). -/
def execTOri (st : Stl) (rd ra : RegN) (imm : BitVec 14) (s : State) : Out := tar st s (opOri st rd ra imm)

def opXori (st : Stl) (rd ra : RegN) (imm : BitVec 14) (s : State) : State := s.alu st rd (aluBits (s.reg st ra ^^^ zext14 imm))
/-- XORI (R189). -/
def execTXori (st : Stl) (rd ra : RegN) (imm : BitVec 14) (s : State) : Out := tar st s (opXori st rd ra imm)

def opShli (st : Stl) (rd ra : RegN) (imm : BitVec 14) (s : State) : State := s.aluImm st rd imm (aluShl (s.reg st ra))
/-- SHLI (R190). -/
def execTShli (st : Stl) (rd ra : RegN) (imm : BitVec 14) (s : State) : Out := tar st s (opShli st rd ra imm)

def opShri (st : Stl) (rd ra : RegN) (imm : BitVec 14) (s : State) : State := s.aluImm st rd imm (aluShr (s.reg st ra))
/-- SHRI (R190). -/
def execTShri (st : Stl) (rd ra : RegN) (imm : BitVec 14) (s : State) : Out := tar st s (opShri st rd ra imm)

def opAsri (st : Stl) (rd ra : RegN) (imm : BitVec 14) (s : State) : State := s.aluImm st rd imm (aluAsr (s.reg st ra))
/-- ASRI (R190). -/
def execTAsri (st : Stl) (rd ra : RegN) (imm : BitVec 14) (s : State) : Out := tar st s (opAsri st rd ra imm)

def opCmpi (st : Stl) (ra : RegN) (imm : BitVec 14) (s : State) : State := s.aluFlags st (aluSub (s.reg st ra) (sext14 imm))
/-- CMPI (R189). -/
def execTCmpi (st : Stl) (ra : RegN) (imm : BitVec 14) (s : State) : Out := tar st s (opCmpi st ra imm)

def opLdi (st : Stl) (rd : RegN) (imm : BitVec 20) (s : State) : State := s.load st rd (imm.setWidth 32)
/-- LDI (R192). -/
def execTLdi (st : Stl) (rd : RegN) (imm : BitVec 20) (s : State) : Out := tar st s (opLdi st rd imm)

def opLui (st : Stl) (rd : RegN) (imm : BitVec 20) (s : State) : State := s.load st rd (imm.setWidth 32 <<< 12)
/-- LUI (R192). -/
def execTLui (st : Stl) (rd : RegN) (imm : BitVec 20) (s : State) : Out := tar st s (opLui st rd imm)

def opRdt (st : Stl) (rd : RegN) (s : State) : State := s.load st rd (BitVec.ofNat 32 s.tnow)
/-- RDT (R166). -/
def execTRdt (st : Stl) (rd : RegN) (s : State) : Out := tar st s (opRdt st rd)

end Sys2Proof.Machine
end

