-- ==== Sys2Proof/Machine/TarMem.lean ====
section
/-! DEFINITION. The memory, port, branch and measurement instructions (R163 to R165, R193 to R197, R201 to R203, R212). -/

namespace Sys2Proof.Machine
open Sys2Proof

/- Shared data (R193, R194). -/

def opLd (st : Stl) (rd ra : RegN) (imm : BitVec 14) (s : State) : State :=
  let a := s.addr14 st ra imm
  s.unlessFault st false [(misaligned a, 3), (outside a 1, 4)] (fun s => (s.setReg st rd (wordAt s.sdata a)).retire st)
/-- LD (R193). -/
def execTLd (st : Stl) (rd ra : RegN) (imm : BitVec 14) (s : State) : Out := tar st s (opLd st rd ra imm)

/-- A word stored as the instruction retires: one that ends in a forced mismatch does not retire and stores nothing (R193, R400). -/
def opSt (st : Stl) (rd ra : RegN) (imm : BitVec 14) (s : State) : State :=
  let a := s.addr14 st ra imm
  s.unlessFault st false [(misaligned a, 3), (outside a 1, 4)] (fun s =>
    { s with sdata := if s.mmArmed st then s.sdata else storeWord s.sdata a (s.reg st rd) }.retire st)
/-- ST (R193). -/
def execTSt (st : Stl) (rd ra : RegN) (imm : BitVec 14) (s : State) : Out := tar st s (opSt st rd ra imm)

/-- The blocks of n words at two addresses overlap (R194). -/
def overlap (a b n : Nat) : Bool := a < b + 4 * n && b < a + 4 * n

/-- Words copied one by one in ascending order (R194). -/
def copyWords (m : List Host.Cell) (dst src n : Nat) : List Host.Cell :=
  (List.range n).foldl (fun m i => storeWord m (dst + 4 * i) (wordAt m (src + 4 * i))) m

/-- The faults of COPYB, in the order in which they are found (R194, R186). -/
def copyFaults (dst src n : Nat) : List (Bool × Nat) :=
  [(misaligned dst || misaligned src, 3), (outside dst n || outside src n, 4), (16384 < n || overlap dst src n, 7)]

def opCopyb (st : Stl) (rd ra rb : RegN) (s : State) : State :=
  let dst := (s.reg st rd).toNat
  let src := (s.reg st ra).toNat
  let n := (s.reg st rb).toNat
  if n == 0 then s.plain st id
  else s.unlessFault st false (copyFaults dst src n) (fun s => { s with sdata := copyWords s.sdata dst src n }.retire st)
/-- COPYB (R194, R212). -/
def execTCopyb (st : Stl) (rd ra rb : RegN) (s : State) : Out := tar st s (opCopyb st rd ra rb)

/- Ports (R165, R195, R196). -/

/-- The port address of an instruction: the low 16 bits of the sum, the two lowest ignored (R4, R169). -/
def State.portAddr (s : State) (st : Nat) (ra : RegN) (imm : BitVec 14) : Nat := s.addr14 st ra imm % 2 ^ 16 / 4 * 4

/-- The registers that act on read (R405). -/
def actsOnRead (a : Nat) : Bool := (0x5540 ≤ a && a < 0x555C) || (0xC000 ≤ a && a % 0x400 == 0x3FC)

/-- A PIN of a register that acts on read carries an issue number, and is never refused (R175). -/
def opPin (st : Stl) (rd ra : RegN) (imm : BitVec 14) (s : State) : State :=
  let a := s.portAddr st ra imm
  s.unlessFault st false [] (fun s =>
    if actsOnRead a then
      let r := (s.retire st).complete1 st 1 (fun s => let r := s.busRead (.stl st) a; { refused := false, data := r.1, after := r.2 })
      r.after.setReg st rd (BitVec.ofNat 32 r.data)
    else
      let r := s.busRead (.stl st) a
      (r.2.setReg st rd (BitVec.ofNat 32 r.1)).retire st)
/-- PIN (R195). -/
def execTPin (st : Stl) (rd ra : RegN) (imm : BitVec 14) (s : State) : Out := tar st s (opPin st rd ra imm)

def opPout (st : Stl) (rd ra : RegN) (imm : BitVec 14) (s : State) : State :=
  let a := s.portAddr st ra imm
  let v := (s.reg st rd).toNat
  s.unlessFault st false [] (fun s =>
    s.sideEffect st 1 (fun s => let r := s.busWrite (.stl st) a v; { refused := r.1, data := 0, after := r.2 }) (fun _ _ s => s))
/-- POUT (R196); a refused write is reported by the fabric (R393). -/
def execTPout (st : Stl) (rd ra : RegN) (imm : BitVec 14) (s : State) : Out := tar st s (opPout st rd ra imm)

/- Branches and calls (R197). -/

/-- A branch: to its target where it is taken; where it is not, on to the next instruction. -/
def State.branchTo (s : State) (st : Nat) (taken : Bool) (t : Int) (l : List (Bool × Nat)) (f : State → State) : State :=
  match firstWhy ((if taken then badTarget t else s.atLast st, 2) :: if taken then l else []) with
  | 0 => if taken then (f s).retireAt st t.toNat else s.retire st
  | code => s.progFault st code

def opBr (st : Stl) (cond : BitVec 4) (off : BitVec 20) (s : State) : State :=
  s.branchTo st (s.condNow st cond) (s.target st off) [] id
/-- BR (R197). -/
def execTBr (st : Stl) (cond : BitVec 4) (off : BitVec 20) (s : State) : Out := tar st s (opBr st cond off)

/-- The depth of the call stack. -/
def State.depth (s : State) (st : Nat) : Nat := s.get Hid.S_CSD st

/-- A return address is pushed. -/
def State.pushCall (s : State) (st a : Nat) : State := (s.put Hid.S_CS (8 * st + s.depth st) a).put Hid.S_CSD st (s.depth st + 1)

def opCall (st : Stl) (cond : BitVec 4) (off : BitVec 20) (s : State) : State :=
  s.branchTo st (s.condNow st cond) (s.target st off) [(s.depth st == 8, 5)] (fun s => s.pushCall st (s.pc st + 1))
/-- CALL (R197). -/
def execTCall (st : Stl) (cond : BitVec 4) (off : BitVec 20) (s : State) : Out := tar st s (opCall st cond off)

def opRet (st : Stl) (s : State) : State :=
  let d := s.depth st
  if d == 0 then s.progFault st 6 else (s.put Hid.S_CSD st (d - 1)).retireAt st (s.get Hid.S_CS (8 * st + (d - 1)))
/-- RET (R197). -/
def execTRet (st : Stl) (s : State) : Out := tar st s (opRet st)

def opJr (st : Stl) (ra : RegN) (s : State) : State := s.branchTo st true ((s.reg st ra).toNat : Nat) [] id
/-- JR (R197). -/
def execTJr (st : Stl) (ra : RegN) (s : State) : Out := tar st s (opJr st ra)

/- Measurement (R201 to R203). -/

def opMeas (st : Stl) (rd ra : RegN) (imm : BitVec 14) (s : State) : State :=
  let c := s.sum14 st ra imm
  s.unlessFault st false [(191 < c, 7)] (fun s => (s.setReg st rd (s.word Reg.CH_DATA_VALUE c)).retire st)
/-- MEAS (R201). -/
def execTMeas (st : Stl) (rd ra : RegN) (imm : BitVec 14) (s : State) : Out := tar st s (opMeas st rd ra imm)

/-- Channel words stored one by one in ascending order (R202). -/
def State.measWords (s : State) (dst c n : Nat) : List Host.Cell :=
  (List.range n).foldl (fun m i => storeWord m (dst + 4 * i) (s.chData (c + i))) s.sdata

/-- The faults of MEASB, in the order in which they are found (R202, R186). -/
def measFaults (dst c n : Nat) : List (Bool × Nat) := [(misaligned dst, 3), (outside dst n, 4), (192 < n || 192 < c + n, 7)]

def opMeasb (st : Stl) (rd ra rb : RegN) (s : State) : State :=
  let dst := (s.reg st rd).toNat
  let c := (s.reg st ra).toNat
  let n := (s.reg st rb).toNat
  if n == 0 then s.plain st id
  else s.unlessFault st false (measFaults dst c n) (fun s => { s with sdata := s.measWords dst c n }.retire st)
/-- MEASB (R202, R212). -/
def execTMeasb (st : Stl) (rd ra rb : RegN) (s : State) : Out := tar st s (opMeasb st rd ra rb)

/-- The flags of JUDGE (R203). -/
def State.zoneFlags (s : State) (st zone : Nat) : State :=
  let f := judgeFlags zone
  ((s.mark Hid.S_Z st f.1).mark Hid.S_N st f.2.1).mark Hid.S_C st f.2.2

def opJudge (st : Stl) (rd ra : RegN) (imm : BitVec 14) (s : State) : State :=
  let c := s.sum14 st ra imm
  s.unlessFault st false [(191 < c, 7)] (fun s =>
    ((s.setReg st rd (s.chData c)).zoneFlags st (s.get Reg.CH_DATA_ZONE c)).retire st)
/-- JUDGE (R203). -/
def execTJudge (st : Stl) (rd ra : RegN) (imm : BitVec 14) (s : State) : Out := tar st s (opJudge st rd ra imm)

end Sys2Proof.Machine
end

