-- ==== Sys2Proof/Machine/TarRail.lean ====
section
/-! DEFINITION. The rail, log, Ledger, mailbox and seal instructions (R172 to R177, R198 to R200, R204 to R212). -/

namespace Sys2Proof.Machine
open Sys2Proof

/- Rails and units (R198, R199). -/

/-- The Keeper confirms a rail action, or refuses it with its reason and rail (R139). -/
def State.keeperDoes (s : State) (why : Nat) (r : Option Nat) (f : State → State) : Answer :=
  if why == 0 then confirm (f s)
  else ((s.put Reg.KPR_STAT_REF_WHY 0 why).put Reg.KPR_STAT_REF_RAIL 0 (r.getD 255)).refuse 79

/-- A rail action of a class that R172 lists. -/
def State.railAction (s : State) (st : Nat) (cls : BitVec 4) (f : State → Answer) : State :=
  s.unlessFault st (!classOk cls.toNat) [] (fun s => s.sideEffect st 0 f (fun _ _ s => s))

/-- An action on the output that a class and unit name; one that they do not name is refused with REF_WHY 1 (R172). -/
def State.onOutput (s : State) (u : Option (Nat × Nat)) (why : State → Nat → Nat → Nat) (f : Nat → Nat → State → State) : Answer :=
  match u with
  | none => s.keeperDoes 1 none id
  | some o => s.keeperDoes (why s o.1 o.2) (s.railOf o.1 o.2) (f o.1 o.2)

/-- An action on the unit that a class and unit name. -/
def State.onUnit (s : State) (u : Option Nat) (why : State → Nat → Nat) (f : Nat → State → State) : Answer :=
  match u with
  | none => s.keeperDoes 1 none id
  | some n => s.keeperDoes (why s n) (s.unitRail n) (f n)

def opRamp (st : Stl) (cls : BitVec 4) (unit : BitVec 8) (rp : RegN) (s : State) : State :=
  let p := (s.reg st rp).toNat
  s.railAction st cls (fun s => s.onOutput (if cls == 1 then railUnit cls unit else none)
    (fun s _ n => s.whyRamp st n p) (fun _ n s => s.doRamp n p))
/-- RAMP (R78, R198). -/
def execTRamp (st : Stl) (cls : BitVec 4) (unit : BitVec 8) (rp : RegN) (s : State) : Out := tar st s (opRamp st cls unit rp)

def opEnab (st : Stl) (cls : BitVec 4) (unit : BitVec 8) (s : State) : State :=
  s.railAction st cls (fun s => s.onOutput (railUnit cls unit) (fun s k n => s.whyEnab st k n) (fun k n s => s.doEnab k n))
/-- ENAB (R198). -/
def execTEnab (st : Stl) (cls : BitVec 4) (unit : BitVec 8) (s : State) : Out := tar st s (opEnab st cls unit)

def opDisb (st : Stl) (cls : BitVec 4) (unit : BitVec 8) (s : State) : State :=
  s.railAction st cls (fun s => s.onOutput (railUnit cls unit) (fun s k n => s.whyDisb st k n) (fun k n s => s.doDisb k n))
/-- DISB (R198). -/
def execTDisb (st : Stl) (cls : BitVec 4) (unit : BitVec 8) (s : State) : Out := tar st s (opDisb st cls unit)

def opFence (st : Stl) (cls : BitVec 4) (unit : BitVec 8) (s : State) : State :=
  s.railAction st cls (fun s => s.onUnit (fenceUnitOf cls unit) (fun s n => s.whyFence st n) (fun n s => s.doFence n))
/-- FENCE (R198 to R200). -/
def execTFence (st : Stl) (cls : BitVec 4) (unit : BitVec 8) (s : State) : Out := tar st s (opFence st cls unit)

def opAdmit (st : Stl) (cls : BitVec 4) (unit : BitVec 8) (s : State) : State :=
  s.railAction st cls (fun s => s.onUnit (fenceUnitOf cls unit) (fun s n => s.whyAdmit st n) (fun n s => s.doAdmit n))
/-- ADMIT (R198 to R200, R328). -/
def execTAdmit (st : Stl) (cls : BitVec 4) (unit : BitVec 8) (s : State) : Out := tar st s (opAdmit st cls unit)

/- Logging (R204 to R206). -/

/-- The mask of a record: DBK_MASK for s0, or six words of shared data (R206). -/
def State.logMask (s : State) (st : Nat) (ra : RegN) : Nat :=
  if ra = 0 then s.dbkMask else leAt s.sdata (s.reg st ra).toNat 24

/-- The faults of a mask address (R206). -/
def State.maskFaults (s : State) (st : Nat) (ra : RegN) : Bool × Bool :=
  let a := (s.reg st ra).toNat
  (ra != 0 && misaligned a, ra != 0 && outside a 6)

/-- A PROG record staged, counted as a repeat, or refused (R204, R206). -/
def State.logRecord (s : State) (st id mask : Nat) (user : List (BitVec 8)) : Answer :=
  let r := s.stageOther (some (256 + 65536 * st + id)) (s.build tyProg (1 + s.phys st) mask 255 255 (leBytes 2 id) user)
  if r.1 == .dropped then r.2.refuse 80 else confirm r.2

def opLog (st : Stl) (rd ra : RegN) (imm : BitVec 14) (s : State) : State :=
  let user := leBytes 4 (s.reg st rd).toNat
  let mask := s.logMask st ra
  let bad := s.maskFaults st ra
  s.unlessFault st false [(bad.1, 3), (bad.2, 4)] (fun s =>
    s.sideEffect st 2 (fun s => s.logRecord st imm.toNat mask user) (fun _ _ s => s))
/-- LOG (R204, R206). -/
def execTLog (st : Stl) (rd ra : RegN) (imm : BitVec 14) (s : State) : Out := tar st s (opLog st rd ra imm)

def opLogb (st : Stl) (rd ra rb : RegN) (s : State) : State :=
  let a := (s.reg st rd).toNat
  let n := (s.reg st rb).toNat
  let mask := s.logMask st ra
  let bad := s.maskFaults st ra
  if n == 0 then s.plain st id
  else s.unlessFault st false [(bad.1 || misaligned a, 3), (bad.2 || outside a n, 4), (30 < n, 7)] (fun s =>
    s.sideEffect st 2 (fun s => s.logRecord st (leAt s.sdata a 2) mask (bytesAt s.sdata a (4 * n))) (fun _ _ s => s))
/-- LOGB (R205, R206, R212). -/
def execTLogb (st : Stl) (rd ra rb : RegN) (s : State) : Out := tar st s (opLogb st rd ra rb)

/- Ledger, mailboxes and the seal (R207 to R210). -/

/-- A source that programs may raise (R207). -/
def State.raisable (s : State) (n : Nat) : Bool := n < 128 && s.is Reg.LS_CFG_RAISABLE n

def opRaise (st : Stl) (ra : RegN) (imm : BitVec 14) (s : State) : State :=
  let n := s.sum14 st ra imm
  s.unlessFault st false [] (fun s =>
    s.sideEffect st 3 (fun s => if s.raisable n then confirm (s.raise n) else s.refuse 80) (fun _ _ s => s))
/-- RAISE (R207). -/
def execTRaise (st : Stl) (ra : RegN) (imm : BitVec 14) (s : State) : Out := tar st s (opRaise st ra imm)

/-- A SEND is refused (R208, R223): no such target, the issuer's own mailbox, an absent identity, or a full mailbox. -/
def State.sendBad (s : State) (st t : Nat) : Bool := 4 < t || t == st || (t < 4 && s.sl t == slAbsent) || s.mboxFull t

def opSend (st : Stl) (rd ra : RegN) (imm : BitVec 14) (s : State) : State :=
  let t := s.sum14 st ra imm
  let v := s.reg st rd
  s.unlessFault st false [] (fun s =>
    s.sideEffect st 4 (fun s => if s.sendBad st t then s.refuse 80 else confirm (s.mboxPut t v)) (fun _ _ s => s))
/-- SEND (R208). -/
def execTSend (st : Stl) (rd ra : RegN) (imm : BitVec 14) (s : State) : Out := tar st s (opSend st rd ra imm)

/-- The oldest word of the issuer's mailbox, taken or left (R209): the word, and 2^32 for an empty mailbox. -/
def State.receive (s : State) (st k : Nat) : Answer :=
  match s.mbox st with
  | [] => { refused := false, data := 2 ^ 32, after := s }
  | v :: _ => { refused := false, data := v.toNat, after := s.ifDo (k == 0) (fun s => s.mboxDrop st) }

def opRecv (st : Stl) (rd : RegN) (imm : BitVec 14) (s : State) : State :=
  s.unlessFault st false [] (fun s =>
    s.sideEffect st 4 (fun s => if 1 < imm.toNat then s.refuse 80 else s.receive st imm.toNat) (fun refused d s =>
      if refused then s else (s.setReg st rd (BitVec.ofNat 32 d)).mark Hid.S_Z st (d == 2 ^ 32)))
/-- RECV (R209). -/
def execTRecv (st : Stl) (rd : RegN) (imm : BitVec 14) (s : State) : Out := tar st s (opRecv st rd imm)

def opSeal (st : Stl) (s : State) : State :=
  s.unlessFault st false [] (fun s =>
    s.sideEffect st 5 (fun s => if st.val == 0 && s.is Hid.BOOTWIN 0 then confirm s.closeWindow else s.refuse 80) (fun _ _ s => s))
/-- SEAL (R210). -/
def execTSeal (st : Stl) (s : State) : Out := tar st s (opSeal st)

end Sys2Proof.Machine
end

