-- ==== Sys2Proof/Machine/TarRun.lean ====
section
/-! DEFINITION. Waiting and halting (R178 to R185), words that are no instruction, the debug step, and the lockstep mismatch. -/

namespace Sys2Proof.Machine
open Sys2Proof

/- Conditions (R181). -/

/-- An interrupt source at priority p or above is presentable to an identity (R167, R355). -/
def State.irqFor (s : State) (st p : Nat) : Bool :=
  (List.range 256).any (fun n => p ≤ s.isPri n && (s.presentable (2 + st) n || (s.phys st == 4 && s.presentable 6 n)))

/-- The condition of a selector with its parameter; `scn` is SCN_COUNT at the first evaluation. -/
def State.waitCond (s : State) (st sel p scn : Nat) : Bool :=
  match sel with
  | 1 => s.is Reg.LP_STAT_PG p
  | 2 => s.rail p == rsGood
  | 3 => s.rail p == rsOff
  | 4 => s.kp == kpOn
  | 5 => s.kp == kpOff
  | 6 => s.kp == kpRising
  | 7 => s.hold
  | 8 => s.active
  | 9 => !s.onBatt
  | 10 => s.is Reg.GG_STAT_RSV_ENTER 0
  | 11 => s.is Reg.GG_STAT_RSV_LOW 0
  | 12 => s.is Reg.GG_STAT_EMPTY 0
  | 13 => s.get Reg.CH_DATA_ZONE (p % 256) == p / 256
  | 14 => s.get Reg.SCN_COUNT_COUNT 0 != scn
  | 15 => s.is Reg.SCN_STAT_BLIND 0
  | 16 => s.is Reg.KPR_LATCH_SEQ_LATCH 0
  | 17 => s.irqFor st p
  | 18 => !(s.mbox st).isEmpty
  | 19 => s.sqIn p == 1
  | 20 => s.is Reg.TM_STAT_MATCH_F p
  | _ => false

/-- The wait in progress of an identity is to end by its condition: 1 WAIT and 2 WAITT by their selector, 3 YIELD. -/
def State.waitOver (s : State) (st : Nat) : Bool :=
  if s.get Hid.S_WKIND st == 3 then s.irqFor st 0 || !(s.mbox st).isEmpty
  else s.waitCond st (s.get Hid.S_WSEL st) (s.get Hid.S_WPAR st) (s.get Hid.S_WSCN st) != s.is Hid.S_WINV st

/-- The wait in progress is set up (R178). -/
def State.setWait (s : State) (st kind sel : Nat) (inv : Bool) (p : Nat) (dl : Option Nat) : State :=
  let s := ((s.put Hid.S_WKIND st kind).put Hid.S_WSEL st sel).mark Hid.S_WINV st inv
  let s := (s.put Hid.S_WPAR st p).put Hid.S_WSCN st (s.get Reg.SCN_COUNT_COUNT 0)
  match dl with
  | some d => (s.put Hid.S_WDL st d).put Hid.S_WDLV st 1
  | none => s.put Hid.S_WDLV st 0

/-- The wait ends (R178, R183): Z tells a timeout, but YIELD writes no flag; WAIT_DL is no longer valid; in STANDBY the stall runs on FCLK (R184). -/
def State.endWait (s : State) (st : Nat) (z : Bool) : State :=
  let s := s.ifDo (s.get Hid.S_WKIND st != 3) (fun s => s.mark Hid.S_Z st z)
  (((s.put Hid.S_WKIND st 0).put Hid.S_WDLV st 0).stallGo st).retire st

/-- The first evaluation of a wait that has been set up (R178, R179): it ends at once by its condition or by its time, or the stall waits. -/
def State.firstLook (s : State) (st : Nat) (timeUp : Bool) : State :=
  if s.waitOver st then s.endWait st false else if timeUp then s.endWait st true else s.setSl st slWait

def opWait (st : Stl) (inv : Bool) (sel : BitVec 5) (ra : RegN) (tmo : BitVec 16) (s : State) : State :=
  let p := (s.reg st ra).toNat
  s.unlessFault st (!selOk sel.toNat) [(paramBad sel.toNat p, 7)] (fun s =>
    (s.setWait st 1 sel.toNat inv p (if tmo == 0xFFFF then none else some (s.tnow + tmo.toNat))).firstLook st (tmo == 0))
/-- WAIT (R178, R179). -/
def execTWait (st : Stl) (inv : Bool) (sel : BitVec 5) (ra : RegN) (tmo : BitVec 16) (s : State) : Out := tar st s (opWait st inv sel ra tmo)

def opWaitt (st : Stl) (inv : Bool) (sel : BitVec 5) (ra : RegN) (imm : BitVec 16) (s : State) : State :=
  let dl := (s.reg st ra).toNat
  s.unlessFault st (!selOk sel.toNat) [(paramBad sel.toNat imm.toNat, 7)] (fun s =>
    (s.setWait st 2 sel.toNat inv imm.toNat (some dl)).firstLook st (reached s.tnow dl))
/-- WAITT (R178, R179). -/
def execTWaitt (st : Stl) (inv : Bool) (sel : BitVec 5) (ra : RegN) (imm : BitVec 16) (s : State) : Out := tar st s (opWaitt st inv sel ra imm)

def opYield (st : Stl) (s : State) : State := s.unlessFault st false [] (fun s => (s.setWait st 3 0 false 0 none).firstLook st false)
/-- YIELD (R183). -/
def execTYield (st : Stl) (s : State) : Out := tar st s (opYield st)

def opHalt (st : Stl) (s : State) : State := s.plain st (fun s => s.setSl st slHalt)
/-- HALT (R185). -/
def execTHalt (st : Stl) (s : State) : Out := tar st s (opHalt st)

/-- An identity waits, and nothing halts it (R178, R398, R399). -/
def State.waits (s : State) (st : Nat) : Bool := s.runs && s.sl st == slWait && !s.is Hid.S_HALT st && !s.is Hid.EXT 0

/-- WAIT_RESUME (R178): the condition has become true. -/
def execWaitResume (st : Stl) (s : State) : Out :=
  if s.waits st && s.waitOver st then ended (s.runOne st (fun s => s.endWait st false)) else done s

/-- The time at which the wait in progress ends without its condition (R178): once TNOW exceeds the WAIT's WAIT_DL, or reaches the WAITT's. -/
def State.waitDue (s : State) (st : Nat) : Nat := (s.get Hid.S_WDL st + (if s.get Hid.S_WKIND st == 1 then 1 else 0)) % 2 ^ 32

/-- WAIT_TIMEOUT (R178): TNOW is at or past the time, and the condition wins over it; a watchdog that expires
on the way resets the part first (R232). -/
def execWaitTimeout (st : Stl) (s : State) : Out :=
  if s.waits st && s.is Hid.S_WDLV st then
    let s := s.advanceTo (s.waitDue st)
    ended (s.ifDo (s.waits st) (fun s => s.runOne st (fun s => s.endWait st (!s.waitOver st))))
  else done s

/- Words met by the decoder. -/

/-- What an identity does with an instruction; other commands are none. -/
def opOf (i : Instr) (s : State) : State :=
  match i with
  | .tAdd st rd ra rb => opAdd st rd ra rb s
  | .tSub st rd ra rb => opSub st rd ra rb s
  | .tAnd st rd ra rb => opAnd st rd ra rb s
  | .tOr st rd ra rb => opOr st rd ra rb s
  | .tXor st rd ra rb => opXor st rd ra rb s
  | .tShl st rd ra rb => opShl st rd ra rb s
  | .tShr st rd ra rb => opShr st rd ra rb s
  | .tAsr st rd ra rb => opAsr st rd ra rb s
  | .tMul16 st rd ra rb => opMul16 st rd ra rb s
  | .tCmp st ra rb => opCmp st ra rb s
  | .tJr st ra => opJr st ra s
  | .tAddi st rd ra imm => opAddi st rd ra imm s
  | .tAndi st rd ra imm => opAndi st rd ra imm s
  | .tOri st rd ra imm => opOri st rd ra imm s
  | .tXori st rd ra imm => opXori st rd ra imm s
  | .tShli st rd ra imm => opShli st rd ra imm s
  | .tShri st rd ra imm => opShri st rd ra imm s
  | .tAsri st rd ra imm => opAsri st rd ra imm s
  | .tCmpi st ra imm => opCmpi st ra imm s
  | .tLdi st rd imm => opLdi st rd imm s
  | .tLui st rd imm => opLui st rd imm s
  | .tLd st rd ra imm => opLd st rd ra imm s
  | .tSt st rd ra imm => opSt st rd ra imm s
  | .tPin st rd ra imm => opPin st rd ra imm s
  | .tPout st rd ra imm => opPout st rd ra imm s
  | .tBr st cond off => opBr st cond off s
  | .tCall st cond off => opCall st cond off s
  | .tRet st => opRet st s
  | .tWait st inv sel ra tmo => opWait st inv sel ra tmo s
  | .tWaitt st inv sel ra imm => opWaitt st inv sel ra imm s
  | .tRdt st rd => opRdt st rd s
  | .tRamp st cls unit rp => opRamp st cls unit rp s
  | .tEnab st cls unit => opEnab st cls unit s
  | .tDisb st cls unit => opDisb st cls unit s
  | .tFence st cls unit => opFence st cls unit s
  | .tAdmit st cls unit => opAdmit st cls unit s
  | .tMeas st rd ra imm => opMeas st rd ra imm s
  | .tMeasb st rd ra rb => opMeasb st rd ra rb s
  | .tJudge st rd ra imm => opJudge st rd ra imm s
  | .tLog st rd ra imm => opLog st rd ra imm s
  | .tLogb st rd ra rb => opLogb st rd ra rb s
  | .tRaise st ra imm => opRaise st ra imm s
  | .tSend st rd ra imm => opSend st rd ra imm s
  | .tRecv st rd imm => opRecv st rd imm s
  | .tSeal st => opSeal st s
  | .tYield st => opYield st s
  | .tHalt st => opHalt st s
  | .tCopyb st rd ra rb => opCopyb st rd ra rb s
  | _ => s

/-- A word run by an identity: an instruction, or an ILLEGAL fault (R168, R186). -/
def State.runWord (s : State) (st : Stl) (w : Word) : State :=
  match decode st w with
  | some i => opOf i s
  | none => s.progFault st 1

/-- UNASSIGNED_OPCODE (R186): the identity meets a word that is no instruction. -/
def execUnassignedOpcode (st : Stl) (word : Word) (s : State) : Out :=
  if (decode st word).isNone then tar st s (fun s => s.runWord st word) else done s

/-- The word at PC (R163, R213). -/
def State.fetch (s : State) (st : Nat) : Word := s.imem.look (8192 * s.phys st + s.pc st)

/-- One step of an identity: its next instruction, or, of a wait in progress, whether it ends. -/
def State.stepOne (s : State) (st : Stl) : State :=
  if s.sl st == slRun then s.runOne st (fun s => s.runWord st (s.fetch st))
  else if s.waitOver st then s.runOne st (fun s => s.endWait st false)
  else if s.is Hid.S_WDLV st && reached s.tnow (s.waitDue st) then s.runOne st (fun s => s.endWait st true) else s

/-- DEBUG_STEP (R396, R398): of an identity halted by debug, which is halted again while the session lasts. -/
def execDebugStep (st : Stl) (s : State) : Out :=
  if s.runs && s.session != 0 then
    let s := s.tapDbg
    if s.dbgFull && s.is Hid.S_HALT st && (s.sl st == slRun || s.sl st == slWait) then
      ended (((s.put Hid.S_HALT st 0).stepOne st).ifDo (s.session != 0) (fun t => t.ifDo (t.session != 0) (fun t => t.put Hid.S_HALT st 1)))
    else ended s
  else done s

/- The lockstep mismatch (R215, R219, R223, R225). -/

/-- A word that issues a side effect (R173), or reads a register that acts on read (R175), as the identity stands. -/
def State.issues (s : State) (st : Nat) (t : State) : Bool := t.get Hid.S_ISN st != s.get Hid.S_ISN st

/-- A COPYB or MEASB in progress has written its first `moved` words, and does not retire (R194, R202, R220). -/
def State.partWords (s : State) (st : Stl) (w : Word) (moved : Nat) : State :=
  match decode st w with
  | some (.tCopyb _ rd ra rb) =>
    let dst := (s.reg st rd).toNat
    let src := (s.reg st ra).toNat
    let n := (s.reg st rb).toNat
    if (copyFaults dst src n).any Prod.fst then s else { s with sdata := copyWords s.sdata dst src (min moved n) }
  | some (.tMeasb _ rd ra rb) =>
    let dst := (s.reg st rd).toNat
    let c := (s.reg st ra).toNat
    let n := (s.reg st rb).toNat
    if (measFaults dst c n).any Prod.fst then s else { s with sdata := s.measWords dst c (min moved n) }
  | _ => s

/-- What the instruction in progress has done outside its pair, which is all that it does: it does not retire (R162, R176, R220). Its side effect
completes, words that it has written stay, and a reset that it brought about is taken (R222). -/
def State.issueOnly (s : State) (st : Stl) (w : Word) (moved : Nat) : State × Bool :=
  let t := s.runWord st w
  if !s.executes st then (s, false)
  else if !t.runs then (t, true)
  else if s.issues st t then (t.keepArch s st, true)
  else (s.partWords st w moved, false)

/-- LOCKSTEP_MISMATCH: of a pair, with what it had done of the instruction in progress. -/
def execLockstepMismatch (pair : PairN) (issue : CoreIssue) (s : State) : Out :=
  if !s.vao then done s
  else
    let r := match issue.word, s.carried pair with
      | some w, some st => s.issueOnly (Fin.ofNat 4 st) w issue.moved
      | _, _ => (s, false)
    ended (r.1.mismatch pair r.2)

end Sys2Proof.Machine
end

