-- ==== Sys2Proof/Machine/Dispatch.lean ====
section
/-! DEFINITION. The meaning of each command, one arm per constructor. -/

namespace Sys2Proof.Machine
open Sys2Proof

def exec (i : Instr) (s : State) : Host.Outcome State Fault Refusal :=
  match i with
  | .vbkupRise => Sys2Proof.Machine.execVbkupRise s
  | .vaoRise raiser also coreExt anaExt => Sys2Proof.Machine.execVaoRise raiser also coreExt anaExt s
  | .vcollapse => Sys2Proof.Machine.execVcollapse s
  | .supplyBrownout src => Sys2Proof.Machine.execSupplyBrownout src s
  | .hostioLow => Sys2Proof.Machine.execHostioLow s
  | .hostioResume => Sys2Proof.Machine.execHostioResume s
  | .orderViolDetect rule => Sys2Proof.Machine.execOrderViolDetect rule s
  | .orderViolClear w => Sys2Proof.Machine.execOrderViolClear w s
  | .resetHoldEnd viohMode viopMode rel => Sys2Proof.Machine.execResetHoldEnd viohMode viopMode rel s
  | .pinReset => Sys2Proof.Machine.execPinReset s
  | .hostReset w => Sys2Proof.Machine.execHostReset w s
  | .softRstKeyBad w key => Sys2Proof.Machine.execSoftRstKeyBad w key s
  | .warmTmoExpiry => Sys2Proof.Machine.execWarmTmoExpiry s
  | .romBootStage => Sys2Proof.Machine.execRomBootStage s
  | .bootWindowTimeout => Sys2Proof.Machine.execBootWindowTimeout s
  | .pwrReqStandby w => Sys2Proof.Machine.execPwrReqStandby w s
  | .standbyEntryDone => Sys2Proof.Machine.execStandbyEntryDone s
  | .pwrReqRun w => Sys2Proof.Machine.execPwrReqRun w s
  | .runTransitionEnd => Sys2Proof.Machine.execRunTransitionEnd s
  | .pwrReqShip w => Sys2Proof.Machine.execPwrReqShip w s
  | .pwrReqCancel w => Sys2Proof.Machine.execPwrReqCancel w s
  | .pwrReqUndefined w req => Sys2Proof.Machine.execPwrReqUndefined w req s
  | .shipPendInputRemoved => Sys2Proof.Machine.execShipPendInputRemoved s
  | .stbyCfgWrite w v => Sys2Proof.Machine.execStbyCfgWrite w v s
  | .standbyBurst => Sys2Proof.Machine.execStandbyBurst s
  | .fclkUsable => Sys2Proof.Machine.execFclkUsable s
  | .fclkLock => Sys2Proof.Machine.execFclkLock s
  | .clkFault => Sys2Proof.Machine.execClkFault s
  | .fclkStop => Sys2Proof.Machine.execFclkStop s
  | .vbatLegWindowEnd => Sys2Proof.Machine.execVbatLegWindowEnd s
  | .holdDwellEnd => Sys2Proof.Machine.execHoldDwellEnd s
  | .phaseCurrentLimit p => Sys2Proof.Machine.execPhaseCurrentLimit p s
  | .highSideShort n m => Sys2Proof.Machine.execHighSideShort n m s
  | .prestartCheckPass n m => Sys2Proof.Machine.execPrestartCheckPass n m s
  | .softStartEnd n => Sys2Proof.Machine.execSoftStartEnd n s
  | .loopStopComplete n => Sys2Proof.Machine.execLoopStopComplete n s
  | .rushStart l => Sys2Proof.Machine.execRushStart l s
  | .rushEnd l => Sys2Proof.Machine.execRushEnd l s
  | .brakeStart l => Sys2Proof.Machine.execBrakeStart l s
  | .brakeEnd l => Sys2Proof.Machine.execBrakeEnd l s
  | .pgAssert l => Sys2Proof.Machine.execPgAssert l s
  | .pgDeassert l => Sys2Proof.Machine.execPgDeassert l s
  | .phaseFaultDetect k m => Sys2Proof.Machine.execPhaseFaultDetect k m s
  | .phaseReadmit k => Sys2Proof.Machine.execPhaseReadmit k s
  | .readmitCheckEnd k visen => Sys2Proof.Machine.execReadmitCheckEnd k visen s
  | .hssClear w n => Sys2Proof.Machine.execHssClear w n s
  | .syncLoss => Sys2Proof.Machine.execSyncLoss s
  | .syncLock khz => Sys2Proof.Machine.execSyncLock khz s
  | .scanEnd sample => Sys2Proof.Machine.execScanEnd sample s
  | .chnCfgWrite w n v => Sys2Proof.Machine.execChnCfgWrite w n v s
  | .chnThresholdWrite w n uv v => Sys2Proof.Machine.execChnThresholdWrite w n uv v s
  | .crierTrip c side => Sys2Proof.Machine.execCrierTrip c side s
  | .crierRelease c side => Sys2Proof.Machine.execCrierRelease c side s
  | .crierCfgWrite w c thr v => Sys2Proof.Machine.execCrierCfgWrite w c thr v s
  | .crierBlankEnd c uv ns => Sys2Proof.Machine.execCrierBlankEnd c uv ns s
  | .keeperOnRequest w => Sys2Proof.Machine.execKeeperOnRequest w s
  | .keeperOffRequest w => Sys2Proof.Machine.execKeeperOffRequest w s
  | .toffMinExpiry => Sys2Proof.Machine.execToffMinExpiry s
  | .shutdownStep => Sys2Proof.Machine.execShutdownStep s
  | .shutdownTimeout => Sys2Proof.Machine.execShutdownTimeout s
  | .upTimeout r => Sys2Proof.Machine.execUpTimeout r s
  | .blindTimeout => Sys2Proof.Machine.execBlindTimeout s
  | .sqPgFilter p level => Sys2Proof.Machine.execSqPgFilter p level s
  | .sqRailGoodDelay p => Sys2Proof.Machine.execSqRailGoodDelay p s
  | .latchClear w => Sys2Proof.Machine.execLatchClear w s
  | .daybookAck w => Sys2Proof.Machine.execDaybookAck w s
  | .daybookUnitWriteDone ok => Sys2Proof.Machine.execDaybookUnitWriteDone ok s
  | .daybookToken => Sys2Proof.Machine.execDaybookToken s
  | .timedRecord => Sys2Proof.Machine.execTimedRecord s
  | .dbkCfgWrite w v => Sys2Proof.Machine.execDbkCfgWrite w v s
  | .hostSnapshot w => Sys2Proof.Machine.execHostSnapshot w s
  | .daybookCrcRead w rec => Sys2Proof.Machine.execDaybookCrcRead w rec s
  | .tAdd st rd ra rb => Sys2Proof.Machine.execTAdd st rd ra rb s
  | .tSub st rd ra rb => Sys2Proof.Machine.execTSub st rd ra rb s
  | .tAnd st rd ra rb => Sys2Proof.Machine.execTAnd st rd ra rb s
  | .tOr st rd ra rb => Sys2Proof.Machine.execTOr st rd ra rb s
  | .tXor st rd ra rb => Sys2Proof.Machine.execTXor st rd ra rb s
  | .tShl st rd ra rb => Sys2Proof.Machine.execTShl st rd ra rb s
  | .tShr st rd ra rb => Sys2Proof.Machine.execTShr st rd ra rb s
  | .tAsr st rd ra rb => Sys2Proof.Machine.execTAsr st rd ra rb s
  | .tMul16 st rd ra rb => Sys2Proof.Machine.execTMul16 st rd ra rb s
  | .tCmp st ra rb => Sys2Proof.Machine.execTCmp st ra rb s
  | .tJr st ra => Sys2Proof.Machine.execTJr st ra s
  | .tAddi st rd ra imm => Sys2Proof.Machine.execTAddi st rd ra imm s
  | .tAndi st rd ra imm => Sys2Proof.Machine.execTAndi st rd ra imm s
  | .tOri st rd ra imm => Sys2Proof.Machine.execTOri st rd ra imm s
  | .tXori st rd ra imm => Sys2Proof.Machine.execTXori st rd ra imm s
  | .tShli st rd ra imm => Sys2Proof.Machine.execTShli st rd ra imm s
  | .tShri st rd ra imm => Sys2Proof.Machine.execTShri st rd ra imm s
  | .tAsri st rd ra imm => Sys2Proof.Machine.execTAsri st rd ra imm s
  | .tCmpi st ra imm => Sys2Proof.Machine.execTCmpi st ra imm s
  | .tLdi st rd imm => Sys2Proof.Machine.execTLdi st rd imm s
  | .tLui st rd imm => Sys2Proof.Machine.execTLui st rd imm s
  | .tLd st rd ra imm => Sys2Proof.Machine.execTLd st rd ra imm s
  | .tSt st rd ra imm => Sys2Proof.Machine.execTSt st rd ra imm s
  | .tPin st rd ra imm => Sys2Proof.Machine.execTPin st rd ra imm s
  | .tPout st rd ra imm => Sys2Proof.Machine.execTPout st rd ra imm s
  | .tBr st cond off => Sys2Proof.Machine.execTBr st cond off s
  | .tCall st cond off => Sys2Proof.Machine.execTCall st cond off s
  | .tRet st => Sys2Proof.Machine.execTRet st s
  | .tWait st inv sel ra tmo => Sys2Proof.Machine.execTWait st inv sel ra tmo s
  | .tWaitt st inv sel ra imm => Sys2Proof.Machine.execTWaitt st inv sel ra imm s
  | .waitResume st => Sys2Proof.Machine.execWaitResume st s
  | .waitTimeout st => Sys2Proof.Machine.execWaitTimeout st s
  | .tRdt st rd => Sys2Proof.Machine.execTRdt st rd s
  | .tRamp st cls unit rp => Sys2Proof.Machine.execTRamp st cls unit rp s
  | .tEnab st cls unit => Sys2Proof.Machine.execTEnab st cls unit s
  | .tDisb st cls unit => Sys2Proof.Machine.execTDisb st cls unit s
  | .tFence st cls unit => Sys2Proof.Machine.execTFence st cls unit s
  | .tAdmit st cls unit => Sys2Proof.Machine.execTAdmit st cls unit s
  | .tMeas st rd ra imm => Sys2Proof.Machine.execTMeas st rd ra imm s
  | .tMeasb st rd ra rb => Sys2Proof.Machine.execTMeasb st rd ra rb s
  | .tJudge st rd ra imm => Sys2Proof.Machine.execTJudge st rd ra imm s
  | .tLog st rd ra imm => Sys2Proof.Machine.execTLog st rd ra imm s
  | .tLogb st rd ra rb => Sys2Proof.Machine.execTLogb st rd ra rb s
  | .tRaise st ra imm => Sys2Proof.Machine.execTRaise st ra imm s
  | .tSend st rd ra imm => Sys2Proof.Machine.execTSend st rd ra imm s
  | .tRecv st rd imm => Sys2Proof.Machine.execTRecv st rd imm s
  | .tSeal st => Sys2Proof.Machine.execTSeal st s
  | .tYield st => Sys2Proof.Machine.execTYield st s
  | .tHalt st => Sys2Proof.Machine.execTHalt st s
  | .tCopyb st rd ra rb => Sys2Proof.Machine.execTCopyb st rd ra rb s
  | .unassignedOpcode st word => Sys2Proof.Machine.execUnassignedOpcode st word s
  | .lockstepMismatch pair issue => Sys2Proof.Machine.execLockstepMismatch pair issue s
  | .takeoverComplete dur => Sys2Proof.Machine.execTakeoverComplete dur s
  | .spareSelfTest ok => Sys2Proof.Machine.execSpareSelfTest ok s
  | .shadowBankError st => Sys2Proof.Machine.execShadowBankError st s
  | .stallStart w st => Sys2Proof.Machine.execStallStart w st s
  | .stallRestart w st => Sys2Proof.Machine.execStallRestart w st s
  | .watchdogKick w st v => Sys2Proof.Machine.execWatchdogKick w st v s
  | .watchdogEarly st => Sys2Proof.Machine.execWatchdogEarly st s
  | .watchdogExpiry st => Sys2Proof.Machine.execWatchdogExpiry st s
  | .hostMailboxPost w st v => Sys2Proof.Machine.execHostMailboxPost w st v s
  | .mailboxPop w => Sys2Proof.Machine.execMailboxPop w s
  | .mailboxFlushHost w => Sys2Proof.Machine.execMailboxFlushHost w s
  | .mailboxFlushRx w st => Sys2Proof.Machine.execMailboxFlushRx w st s
  | .inputInRange k => Sys2Proof.Machine.execInputInRange k s
  | .inputOutOfRange out => Sys2Proof.Machine.execInputOutOfRange out s
  | .inputDebounceEnd ready => Sys2Proof.Machine.execInputDebounceEnd ready s
  | .inputUpgrade k => Sys2Proof.Machine.execInputUpgrade k s
  | .inputLoss cause => Sys2Proof.Machine.execInputLoss cause s
  | .inputSwitchFail k => Sys2Proof.Machine.execInputSwitchFail k s
  | .searchStep vin0 vin reg => Sys2Proof.Machine.execSearchStep vin0 vin reg s
  | .searchRestart w => Sys2Proof.Machine.execSearchRestart w s
  | .supplementStart => Sys2Proof.Machine.execSupplementStart s
  | .supplementEnd => Sys2Proof.Machine.execSupplementEnd s
  | .batGo w => Sys2Proof.Machine.execBatGo w s
  | .batfetSoftstartEnd => Sys2Proof.Machine.execBatfetSoftstartEnd s
  | .batfetSoftstartFail => Sys2Proof.Machine.execBatfetSoftstartFail s
  | .chargerPhaseChange vbat => Sys2Proof.Machine.execChargerPhaseChange vbat s
  | .chargeTermination => Sys2Proof.Machine.execChargeTermination s
  | .recharge => Sys2Proof.Machine.execRecharge s
  | .preTmoExpiry => Sys2Proof.Machine.execPreTmoExpiry s
  | .safeTmoExpiry => Sys2Proof.Machine.execSafeTmoExpiry s
  | .chargeOvercurrent => Sys2Proof.Machine.execChargeOvercurrent s
  | .chgClr w now => Sys2Proof.Machine.execChgClr w now s
  | .chgNeed => Sys2Proof.Machine.execChgNeed s
  | .presenceTestPeriod => Sys2Proof.Machine.execPresenceTestPeriod s
  | .retest w => Sys2Proof.Machine.execRetest w s
  | .presenceTestEnd r => Sys2Proof.Machine.execPresenceTestEnd r s
  | .batteryRemoval => Sys2Proof.Machine.execBatteryRemoval s
  | .batteryUndervoltage => Sys2Proof.Machine.execBatteryUndervoltage s
  | .dischargeOvercurrent => Sys2Proof.Machine.execDischargeOvercurrent s
  | .dischargeShort => Sys2Proof.Machine.execDischargeShort s
  | .converterRestart => Sys2Proof.Machine.execConverterRestart s
  | .typecAttach x a => Sys2Proof.Machine.execTypecAttach x a s
  | .typecDetach x => Sys2Proof.Machine.execTypecDetach x s
  | .drpToggle x => Sys2Proof.Machine.execDrpToggle x s
  | .rpLevelChange x lvl => Sys2Proof.Machine.execRpLevelChange x lvl s
  | .sourceCapTimeout x => Sys2Proof.Machine.execSourceCapTimeout x s
  | .sourceCapabilities x rev3 epr pdos => Sys2Proof.Machine.execSourceCapabilities x rev3 epr pdos s
  | .acceptMessage x => Sys2Proof.Machine.execAcceptMessage x s
  | .rejectMessage x => Sys2Proof.Machine.execRejectMessage x s
  | .waitMessage x => Sys2Proof.Machine.execWaitMessage x s
  | .waitRetry x => Sys2Proof.Machine.execWaitRetry x s
  | .psRdy x => Sys2Proof.Machine.execPsRdy x s
  | .requestMessage x rev3 epr rdo => Sys2Proof.Machine.execRequestMessage x rev3 epr rdo s
  | .getSourceCap x => Sys2Proof.Machine.execGetSourceCap x s
  | .getSinkCap x => Sys2Proof.Machine.execGetSinkCap x s
  | .prSwap x => Sys2Proof.Machine.execPrSwap x s
  | .drSwap x => Sys2Proof.Machine.execDrSwap x s
  | .vconnSwap x => Sys2Proof.Machine.execVconnSwap x s
  | .softResetMessage x => Sys2Proof.Machine.execSoftResetMessage x s
  | .pingMessage x => Sys2Proof.Machine.execPingMessage x s
  | .hardResetReceived x => Sys2Proof.Machine.execHardResetReceived x s
  | .sourceHardResetRestore x => Sys2Proof.Machine.execSourceHardResetRestore x s
  | .eprModeMessage x action => Sys2Proof.Machine.execEprModeMessage x action s
  | .eprKeepaliveTimer x => Sys2Proof.Machine.execEprKeepaliveTimer x s
  | .eprExit w x => Sys2Proof.Machine.execEprExit w x s
  | .ppsRefresh x => Sys2Proof.Machine.execPpsRefresh x s
  | .ppsWrite w x v => Sys2Proof.Machine.execPpsWrite w x v s
  | .bistMessage x carrier => Sys2Proof.Machine.execBistMessage x carrier s
  | .discoverIdentityReply x ack eprCap icap vmax => Sys2Proof.Machine.execDiscoverIdentityReply x ack eprCap icap vmax s
  | .unsupportedMessage x => Sys2Proof.Machine.execUnsupportedMessage x s
  | .sourceSupplyReady x => Sys2Proof.Machine.execSourceSupplyReady x s
  | .sourceSettled x => Sys2Proof.Machine.execSourceSettled x s
  | .sourceSettleTimeout x => Sys2Proof.Machine.execSourceSettleTimeout x s
  | .vbusSinkOv x => Sys2Proof.Machine.execVbusSinkOv x s
  | .sourceOvercurrent x => Sys2Proof.Machine.execSourceOvercurrent x s
  | .sourceShort x => Sys2Proof.Machine.execSourceShort x s
  | .sourceOvervoltage x => Sys2Proof.Machine.execSourceOvervoltage x s
  | .sourceReverseCurrent x => Sys2Proof.Machine.execSourceReverseCurrent x s
  | .errorRecoveryEnd x => Sys2Proof.Machine.execErrorRecoveryEnd x s
  | .ccOvervoltage x => Sys2Proof.Machine.execCcOvervoltage x s
  | .ccOvRecovery x => Sys2Proof.Machine.execCcOvRecovery x s
  | .vconnOvercurrent x => Sys2Proof.Machine.execVconnOvercurrent x s
  | .swapRetry x => Sys2Proof.Machine.execSwapRetry x s
  | .dischargeTimeout x => Sys2Proof.Machine.execDischargeTimeout x s
  | .cmdRenegotiate w x => Sys2Proof.Machine.execCmdRenegotiate w x s
  | .cmdPrSwap w x => Sys2Proof.Machine.execCmdPrSwap w x s
  | .cmdDrSwap w x => Sys2Proof.Machine.execCmdDrSwap w x s
  | .cmdHardReset w x => Sys2Proof.Machine.execCmdHardReset w x s
  | .cmdClrLatch w x => Sys2Proof.Machine.execCmdClrLatch w x s
  | .portCommandRelease x => Sys2Proof.Machine.execPortCommandRelease x s
  | .gaugeUpdate m => Sys2Proof.Machine.execGaugeUpdate m s
  | .relaxedReference rest => Sys2Proof.Machine.execRelaxedReference rest s
  | .refStaleSet => Sys2Proof.Machine.execRefStaleSet s
  | .newPack w => Sys2Proof.Machine.execNewPack w s
  | .journalWriteDone ok => Sys2Proof.Machine.execJournalWriteDone ok s
  | .gaugeStartEstimate v shunt => Sys2Proof.Machine.execGaugeStartEstimate v shunt s
  | .ledgerWindowExpiry n => Sys2Proof.Machine.execLedgerWindowExpiry n s
  | .quietPeriodEnd n => Sys2Proof.Machine.execQuietPeriodEnd n s
  | .hostAdmit w n => Sys2Proof.Machine.execHostAdmit w n s
  | .rcvClr w n => Sys2Proof.Machine.execRcvClr w n s
  | .stickyClear w j v => Sys2Proof.Machine.execStickyClear w j v s
  | .fltbusIn => Sys2Proof.Machine.execFltbusIn s
  | .backupDomainReset => Sys2Proof.Machine.execBackupDomainReset s
  | .supplyChangeover toBackup => Sys2Proof.Machine.execSupplyChangeover toBackup s
  | .vbkupLow => Sys2Proof.Machine.execVbkupLow s
  | .crystalLoss => Sys2Proof.Machine.execCrystalLoss s
  | .crystalReturn => Sys2Proof.Machine.execCrystalReturn s
  | .trimWindow temp => Sys2Proof.Machine.execTrimWindow temp s
  | .backupWriteSync => Sys2Proof.Machine.execBackupWriteSync s
  | .rtcSet w hi => Sys2Proof.Machine.execRtcSet w hi s
  | .rtcTimeLoad => Sys2Proof.Machine.execRtcTimeLoad s
  | .alarmFire => Sys2Proof.Machine.execAlarmFire s
  | .pwrbtnPress => Sys2Proof.Machine.execPwrbtnPress s
  | .softwarePend w j v => Sys2Proof.Machine.execSoftwarePend w j v s
  | .softwareClear w j v => Sys2Proof.Machine.execSoftwareClear w j v s
  | .irqClaim w t => Sys2Proof.Machine.execIrqClaim w t s
  | .irqComplete w t v => Sys2Proof.Machine.execIrqComplete w t v s
  | .timerMatch n => Sys2Proof.Machine.execTimerMatch n s
  | .timerOverflow n => Sys2Proof.Machine.execTimerOverflow n s
  | .timerStart w n => Sys2Proof.Machine.execTimerStart w n s
  | .timerStop w n => Sys2Proof.Machine.execTimerStop w n s
  | .gstart w => Sys2Proof.Machine.execGstart w s
  | .gstop w => Sys2Proof.Machine.execGstop w s
  | .timerMatHiWrite w n v => Sys2Proof.Machine.execTimerMatHiWrite w n v s
  | .timerCountRead w n hi => Sys2Proof.Machine.execTimerCountRead w n hi s
  | .spiReadFrame addr burst hdrCrc early => Sys2Proof.Machine.execSpiReadFrame addr burst hdrCrc early s
  | .spiWriteFrame addr burst words crc => Sys2Proof.Machine.execSpiWriteFrame addr burst words crc s
  | .spiStatusFrame hdrCrc early => Sys2Proof.Machine.execSpiStatusFrame hdrCrc early s
  | .spiFrameBad kind => Sys2Proof.Machine.execSpiFrameBad kind s
  | .mfrRegPtr wr pec => Sys2Proof.Machine.execMfrRegPtr wr pec s
  | .mfrRegDataWrite data pec => Sys2Proof.Machine.execMfrRegDataWrite data pec s
  | .mfrRegDataRead => Sys2Proof.Machine.execMfrRegDataRead s
  | .mfrRegLen wr pec => Sys2Proof.Machine.execMfrRegLen wr pec s
  | .smbusTimeout => Sys2Proof.Machine.execSmbusTimeout s
  | .page wr pec => Sys2Proof.Machine.execPage wr pec s
  | .clearFaults pec => Sys2Proof.Machine.execClearFaults pec s
  | .capability => Sys2Proof.Machine.execCapability s
  | .voutMode => Sys2Proof.Machine.execVoutMode s
  | .voutCommand wr => Sys2Proof.Machine.execVoutCommand wr s
  | .voutOvFaultLimit wr => Sys2Proof.Machine.execVoutOvFaultLimit wr s
  | .voutOvWarnLimit wr => Sys2Proof.Machine.execVoutOvWarnLimit wr s
  | .voutUvWarnLimit wr => Sys2Proof.Machine.execVoutUvWarnLimit wr s
  | .voutUvFaultLimit wr => Sys2Proof.Machine.execVoutUvFaultLimit wr s
  | .statusByte => Sys2Proof.Machine.execStatusByte s
  | .statusWord => Sys2Proof.Machine.execStatusWord s
  | .statusVout wr pec => Sys2Proof.Machine.execStatusVout wr pec s
  | .statusIout wr pec => Sys2Proof.Machine.execStatusIout wr pec s
  | .statusTemperature wr pec => Sys2Proof.Machine.execStatusTemperature wr pec s
  | .statusCml wr pec => Sys2Proof.Machine.execStatusCml wr pec s
  | .readVout => Sys2Proof.Machine.execReadVout s
  | .readIout => Sys2Proof.Machine.execReadIout s
  | .pmbusRevision => Sys2Proof.Machine.execPmbusRevision s
  | .mfrId => Sys2Proof.Machine.execMfrId s
  | .mfrModel => Sys2Proof.Machine.execMfrModel s
  | .mfrRevision => Sys2Proof.Machine.execMfrRevision s
  | .mfrReadRaw => Sys2Proof.Machine.execMfrReadRaw s
  | .pmbusInvalidCommand code => Sys2Proof.Machine.execPmbusInvalidCommand code s
  | .alertResponse win => Sys2Proof.Machine.execAlertResponse win s
  | .lifecycleRequest w v => Sys2Proof.Machine.execLifecycleRequest w v s
  | .lifecycleOtpDone => Sys2Proof.Machine.execLifecycleOtpDone s
  | .otpHashProgram w v => Sys2Proof.Machine.execOtpHashProgram w v s
  | .otpHashDone => Sys2Proof.Machine.execOtpHashDone s
  | .debugOpen => Sys2Proof.Machine.execDebugOpen s
  | .debugChallenge => Sys2Proof.Machine.execDebugChallenge s
  | .debugResponse scope key sig => Sys2Proof.Machine.execDebugResponse scope key sig s
  | .debugResponseVerified => Sys2Proof.Machine.execDebugResponseVerified s
  | .nonceExpiry => Sys2Proof.Machine.execNonceExpiry s
  | .debugClose => Sys2Proof.Machine.execDebugClose s
  | .trstLow => Sys2Proof.Machine.execTrstLow s
  | .debugHalt st => Sys2Proof.Machine.execDebugHalt st s
  | .debugStep st => Sys2Proof.Machine.execDebugStep st s
  | .idcode => Sys2Proof.Machine.execIdcode s
  | .extest => Sys2Proof.Machine.execExtest s
  | .tpertApply w addr v => Sys2Proof.Machine.execTpertApply w addr v s
  | .tpertLockstepOneshot w v => Sys2Proof.Machine.execTpertLockstepOneshot w v s
  | .tpertRefFail w v => Sys2Proof.Machine.execTpertRefFail w v s
  | .nvmWindowWrite w off v => Sys2Proof.Machine.execNvmWindowWrite w off v s
  | .nvmUnitWriteDone ok => Sys2Proof.Machine.execNvmUnitWriteDone ok s
  | .bootCfgWrite w v => Sys2Proof.Machine.execBootCfgWrite w v s
  | .registerWrite w addr v => Sys2Proof.Machine.execRegisterWrite w addr v s
  | .portFeedEntry x => Sys2Proof.Machine.execPortFeedEntry x s
  | .vbusDischarged x => Sys2Proof.Machine.execVbusDischarged x s
  | .fltbusNHigh => Sys2Proof.Machine.execFltbusNHigh s
  | .vbkupLowClear => Sys2Proof.Machine.execVbkupLowClear s
  | .timerMatchCommit n => Sys2Proof.Machine.execTimerMatchCommit n s
  | .debugLockoutEnd => Sys2Proof.Machine.execDebugLockoutEnd s
  | .extendedControlMessage x kind => Sys2Proof.Machine.execExtendedControlMessage x kind s
  | .sinkCapabilitiesMessage x pdos => Sys2Proof.Machine.execSinkCapabilitiesMessage x pdos s
  | .notSupportedMessage x => Sys2Proof.Machine.execNotSupportedMessage x s

end Sys2Proof.Machine
end

