-- ==== Sys2Proof/Machine/Idle.lean ====
section
/-! DEFINITION. The passing of a microsecond, which is what a step does while no command waits: the timebase, the slow clock with what it counts,
ramps, timers and watchdogs. -/

namespace Sys2Proof.Machine
open Sys2Proof

/-- TNOW advances by 30 or 31 µs on a slow-clock tick while FCLK is stopped: the accumulator adds 265 of 512 (R21). -/
def State.slowTnow (s : State) : State :=
  let acc := s.get Hid.TFRAC 0 + 265
  (s.put Hid.TFRAC 0 (acc % 512)).passTnow (30 + acc / 512)

/-- The rate bucket gains a token each second of the tick count (R156). -/
def State.tokenTick (s : State) : State := s.ifDo (s.tick % 2 ^ 15 == 0) (fun s => s.sat Reg.DBK_STAT_TOKENS 0 64)

/-- TIMED records fall due by the tick count (R157). -/
def State.timedTick (s : State) : State := s.ifDo s.timedIsDue State.timedDue

/-- One period of the slow clock, for all that it counts: an alarm that is reached fires, and a write under way reaches the domain (R343, R345); of
the two on one tick EN ends armed by the write, and ALM_FLAG ends set (R349). -/
def State.slowPeriod (s : State) : State :=
  let s := s.slowTick
  let fires := s.almDue
  let s := s.ifDo fires State.almFire
  if !s.vao then s
  else
    let s := s.bkDrain.ifDo fires (fun s => s.put Reg.BK_STAT_ALM_FLAG 0 1)
    let s := s.ifDo (!s.fclk) State.slowTnow
    ((s.forEach (s.tmOn true) State.tmTick).tokenTick).timedTick

/-- The slow clock over one microsecond: 32768 periods in 10^6 µs (R17). -/
def State.slowUs (s : State) : State :=
  let f := s.get Hid.USFRAC 0 + 32768
  let s := s.put Hid.USFRAC 0 (f % 1000000)
  s.ifDo (1000000 ≤ f) State.slowPeriod

/-- What runs from FCLK over one microsecond: TNOW, 1 MHz timers, and the loops (R21, R75 to R93, R359). -/
def State.fastUs (s : State) : State :=
  (s.passTnow 1).forEach (List.range 8) State.loopUs

/-- The criers are powered again 20 µs after the exit from STANDBY (R129). -/
def State.criersBack (s : State) : State :=
  s.ifDo (!s.standby && s.get Hid.RUN_T 0 + 20 ≤ s.usec) (fun s =>
    s.forEach (below 16 (fun c => s.is Hid.CR_OFF c)) (fun s c => s.put Hid.CR_OFF c 0))

/-- Blanks of criers that have lasted 5 µs end (R128). -/
def State.blanksEnd (s : State) : State :=
  s.forEach (below 16 (fun c => s.is Hid.CR_BLANK c && s.get Hid.CR_BLANK_T c + 5 ≤ s.usec)) State.blankEnds

/-- One microsecond passes. -/
def State.idle (s : State) : State :=
  let s := s.ifDo s.domain State.slowUs
  if !s.vao then s else ((s.ifDo s.fclk State.fastUs).criersBack).blanksEnd

end Sys2Proof.Machine
end

