-- ==== Sys2Proof/Machine/Step.lean ====
section
/-! DEFINITION. One step: the command at the front of the queue; on an empty queue one microsecond passes. -/

namespace Sys2Proof.Machine
open Sys2Proof

/-- One step of the part: the front command of the queue acts on the state with the rest of the queue; with no command waiting, a microsecond
passes. -/
def step (s : State) : Out :=
  match s.pending with
  | [] => ended s.idle
  | c :: rest => exec c { s with pending := rest }

/-- The state with the command that a table word spells put at the front of its queue; unchanged where the word spells none. -/
def State.withFetchWord (s : State) (nbits w : Nat) : State :=
  match decodeTableWord nbits w with
  | some c => { s with pending := c :: s.pending }
  | none => s

end Sys2Proof.Machine
end

