-- ==== Sys2Proof/WellFormed.lean ====
section
/-! DEFINITION. Which commands are well formed: operands that the command's rule allows, or that spell what the command is for. A meaning stands for
every command, ill-formed ones too: an ill-formed instruction word faults, an ill-formed announcement changes nothing that its rule does not give. -/

namespace Sys2Proof

/-- A shift by an immediate uses bits 4:0 only (R169). -/
def wfShift (imm : BitVec 14) : Bool := imm.toNat < 32

/-- A scan sample names channels and converters that exist, with a TREF reading of each group and a REF_C result of each converter (R105, R108, R118). -/
def ScanSample.wf (x : ScanSample) : Bool :=
  x.chans.all (fun c => c.1 < 192) && x.tref.length == 12 && x.refc.length == 4 && x.notReady.all (fun c => c < 4) && x.zero.length ≤ 4

/-- A voltage at a sense input of the MLC, in µV, that the part can stand: below 4.19 V (R104 gives 3.60 V and 3.30 V as the ranges). -/
def wfVolt (v : Nat) : Bool := v < 2 ^ 22

/-- The levels of a loop's sense inputs name phases that exist, at most once. -/
def LoopSense.wf (m : LoopSense) : Bool :=
  wfVolt m.vsen && m.isen.all (fun x => x.1 < 24 && wfVolt x.2) && decide (m.isen.map Prod.fst).Nodup

/-- A gauge sample has a voltage for each of at most eight cells (R298). -/
def GaugeSample.wf (x : GaugeSample) : Bool := x.cells.length ≤ 8

/-- A key of SOFT_RST that sets KEY_BAD (R56). -/
def wfBadKey (key : BitVec 8) : Bool := key != 0 && key != 0xA5

/-- A code of PWR_REQ that R23 does not define. -/
def wfUndefinedReq (req : BitVec 4) : Bool := req != 0 && req != 1 && req != 2 && req != 5 && req != 6

/-- An address of the TPERT block (R400). -/
def wfTpert (a : BitVec 16) : Bool := 0x7800 ≤ a.toNat && a.toNat < 0x8000

/-- A command is well formed. -/
def WellFormed (i : Instr) : Bool :=
  match i with
  | .tShli _ _ _ imm => wfShift imm
  | .tShri _ _ _ imm => wfShift imm
  | .tAsri _ _ _ imm => wfShift imm
  | .tRamp _ cls _ _ => classOk cls.toNat
  | .tEnab _ cls _ => classOk cls.toNat
  | .tDisb _ cls _ => classOk cls.toNat
  | .tFence _ cls _ => classOk cls.toNat
  | .tAdmit _ cls _ => classOk cls.toNat
  | .tWait _ _ sel _ _ => selOk sel.toNat
  | .tWaitt _ _ sel _ _ => selOk sel.toNat
  | .unassignedOpcode st w => (decode st w).isNone
  | .phaseCurrentLimit p => wfVolt p.visen
  | .highSideShort _ m => wfVolt m.v0 && m.m.wf
  | .prestartCheckPass _ m => wfVolt m.v0 && m.m.wf
  | .rushStart l => l.m.wf
  | .rushEnd l => l.m.wf
  | .brakeStart l => l.m.wf
  | .brakeEnd l => l.m.wf
  | .pgAssert l => l.m.wf
  | .pgDeassert l => l.m.wf
  | .phaseFaultDetect _ m => m.m.wf
  | .readmitCheckEnd _ v => wfVolt v
  | .scanEnd x => x.wf
  | .gaugeUpdate x => x.wf
  | .softRstKeyBad _ key => wfBadKey key
  | .pwrReqUndefined _ req => wfUndefinedReq req
  | .orderViolDetect rule => rule == 1 || rule == 2
  | .spiWriteFrame _ burst words _ => words.length == burst.toNat + 1
  | .mfrRegDataWrite data _ => data.length < 256
  | .tpertApply _ a _ => wfTpert a
  | _ => true

end Sys2Proof
end

