-- ==== Sys2Proof/Safety.lean ====
section
/-! DEFINITION. What the statements speak of: the canonical form that every state keeps, what a command changes and what it leaves, and how far what
follows it by itself can reach. -/

namespace Sys2Proof.Machine
open Sys2Proof

/-- The canonical form of a state's stores: the field store, the instruction memories, the shared data and NVM. -/
def State.Inv (s : State) : Prop :=
  Pages.wf s.fld = true ∧ Cells.wf s.imem = true ∧ Cells.wf s.sdata = true ∧ Cells.wf s.nvm = true

/-- Every part of the state but the stores for which the list names keys is as before: `u` differs from `s` in its field store only, and there
at those keys only. -/
def Changes (s u : State) (l : List Nat) : Prop :=
  (∀ f n, f.key n ∉ l → u.get f n = s.get f n) ∧ u = { s with fld := u.fld }

/-- The fields that what follows a command by itself can write (`State.finish`): the registration of Ledger events and the Keeper's answers, the NVM
writes that start, the steps of a power transition, and what waited at a port. -/
def followA : List Fld := [
  Reg.BK_STAT_EMPTY, Reg.BK_STAT_SHIP, Reg.CHG_STAT_FLT_WHY, Reg.CHG_STAT_PHASE, Reg.CH_DATA_ARMED, Reg.CR_STAT_FENCED, Reg.CR_STAT_OUT_HI,
  Reg.CR_STAT_OUT_LO, Reg.DBK_STAT_CRIT_LOST, Reg.DBK_STAT_DROPPED, Reg.DBK_STAT_TOKENS, Reg.GG_STAT_LEARN_PEND, Reg.GG_STAT_WR_SKIP,
  Reg.IS_RLAT_RLAT, Reg.KPR_LATCH_CAUSE, Reg.KPR_LATCH_RAIL, Reg.KPR_LATCH_REC_LOST, Reg.KPR_LATCH_REC_SEQ, Reg.KPR_LATCH_SEQ_LATCH,
  Reg.KPR_STAT_PEND_ON, Reg.KPR_STAT_REQ_MERGED, Reg.KPR_STAT_STATE, Reg.LG_STAT_GRAVE, Reg.LG_STAT_GRAVE_SRC, Reg.LG_STAT_LAST_CLASS,
  Reg.LG_STAT_LAST_SRC, Reg.LG_STICKY_STICKY, Reg.LP_REF_VREF_NOW, Reg.LP_STAT_PG, Reg.LP_STAT_STATE, Reg.LS_STAT_COUNT,
  Reg.LS_STAT_CUR_CLASS, Reg.LS_STAT_ESC, Reg.LS_STAT_QUIET, Reg.PH_STAT_FENCED, Reg.PORT_CABLE_EPR_CAP, Reg.PORT_CABLE_ICAP,
  Reg.PORT_CABLE_VALID, Reg.PORT_CABLE_VMAX, Reg.PORT_CFG_DEF_ILIM, Reg.PORT_CFG_DRS_EN, Reg.PORT_CFG_EPR_EN, Reg.PORT_CFG_HOLD_SRC,
  Reg.PORT_CFG_PD_EN, Reg.PORT_CFG_PPS_EN, Reg.PORT_CFG_PRS_POL, Reg.PORT_CFG_ROLE, Reg.PORT_CFG_RP_LVL, Reg.PORT_CFG_TRY_SNK,
  Reg.PORT_CFG_VCONN_EN, Reg.PORT_CONTRACT_I, Reg.PORT_CONTRACT_OBJ, Reg.PORT_CONTRACT_V, Reg.PORT_EVT_MISMATCH, Reg.PORT_RXPDO_PDO,
  Reg.PORT_STAT_CONTRACT, Reg.PORT_STAT_DROLE, Reg.PORT_STAT_EPR, Reg.PORT_STAT_NO_PD, Reg.PORT_STAT_ORIENT, Reg.PORT_STAT_PROLE,
  Reg.PORT_STAT_REV, Reg.PORT_STAT_TC, Reg.PORT_STAT_TC_LVL, Reg.PORT_STAT_VCONN, Reg.PP_STAT_BFET, Reg.PWR_STATE_BOOTING,
  Reg.PWR_STATE_CUR, Reg.PWR_STATE_REQ_REFUSED, Reg.PWR_STATE_RIDE_READY, Reg.SEC_PMAP_REGIONS, Reg.SEC_TLOCK_LOCK, Reg.SEQ_OUT_RSTATE,
  Hid.BF_LOCK, Hid.BURST_ANY, Hid.BURST_NOW, Hid.CHG_ONCE]

/-- The others of these fields. -/
def followB : List Fld := [
  Hid.CHG_PRE_T, Hid.CHG_SAFE_T, Hid.CONV_ON, Hid.CONV_REL, Hid.CR_BLANK, Hid.CR_FBY, Hid.CR_HHI, Hid.CR_HLO, Hid.CR_OFF, Hid.CR_WAIT,
  Hid.DBK_WR, Hid.DROPS, Hid.FCLK, Hid.GG_CUT, Hid.GG_CUT_T, Hid.HELDREQ, Hid.LATCH_SEQ, Hid.LP_ACC, Hid.LP_BRAKE, Hid.LP_BRK_U,
  Hid.LP_DIODE, Hid.LP_INSW, Hid.LP_PGD, Hid.LP_PGT, Hid.LP_RESTART, Hid.LP_RUSH, Hid.LP_RUSH_U, Hid.LS_QT, Hid.LS_WIN, Hid.LS_WIN_T,
  Hid.MAIN, Hid.NVM_JOB, Hid.PE_EXCH, Hid.PH_CHECK, Hid.PH_FBY, Hid.PH_LIM, Hid.PH_WAIT, Hid.PO_BIST, Hid.PO_CFGV, Hid.PO_DISC, Hid.PO_DSC,
  Hid.PO_ECAP, Hid.PO_EN, Hid.PO_EPR, Hid.PO_EPRF, Hid.PO_HDUE, Hid.PO_HR, Hid.PO_HRN, Hid.PO_NCAP, Hid.PO_PPSV, Hid.PO_RA, Hid.PO_RDO,
  Hid.PO_RED, Hid.PO_RETRY, Hid.PO_SEL, Hid.PO_STOP, Hid.PO_SW, Hid.PO_TX, Hid.PO_VCOCP, Hid.PO_VGIV, Hid.PO_WAITS, Hid.PT_PREV, Hid.PT_RE,
  Hid.PT_RUN, Hid.Q_CNT, Hid.RL_ARM, Hid.RL_CNT, Hid.RQ_I, Hid.RQ_KIND, Hid.RQ_MIS, Hid.RQ_OBJ, Hid.RQ_V, Hid.SD_RUN, Hid.SQ_DRV,
  Hid.TRANS, Hid.TSTEP, Hid.UNIT, Hid.WARM]

/-- All of them. -/
def follow : List Fld := followA ++ followB

/-- A field is one of those, or the mark beside one that a set of it waits for FCLK. -/
def follows (f : Fld) : Bool :=
  follow.any (fun g => (g.base == f.base || g.held.base == f.base) && g.stride == f.stride && g.count == f.count && g.lsb == f.lsb && g.kept == f.kept)

/-- A store key that belongs to none of those fields. -/
def aloof (k : Nat) : Prop := ∀ g ∈ follow, ∀ m, m < g.count → g.key m ≠ k ∧ g.held.key m ≠ k

/-- What follows a command by itself leads from `u` to `t`: every field that it cannot write is as in `u`, but for V and W fields, which an entry to
STANDBY resets (in a store of canonical form, which every step keeps); so are the memories, the mailboxes, the queues of writes and of commands, the words sent, and the count of free values. -/
def Settles (u t : State) : Prop :=
  t = u.finish ∧
  (Pages.wf u.fld = true → ∀ f n, aloof (f.key n) → f.kept ≠ .v → f.kept ≠ .w → t.get f n = u.get f n) ∧
  t = { u with fld := t.fld, stack := t.stack, branch := t.branch, staging := t.staging, gap := t.gap, evq := t.evq, gauge := t.gauge, bal := t.bal }

/-- An identity executes instructions, no forced lockstep mismatch is armed for it, and it does not stand at its last word. -/
def Ready (s : State) (st : Stl) : Prop := s.executes st = true ∧ s.mmArmed st = false ∧ s.pc st < 0x1FFF

/-- A write that is permitted: its writer makes accesses, and the map, the locks and the grave flag let it pass (R391 to R393, R329). -/
def Permitted (s : State) (w : Writer) (a v : Nat) : Prop := s.linked w = true ∧ s.denied w a v = false

/-- The state in which a writer's permitted write acts: a host access in STANDBY starts FCLK (R18), an SPI frame clears what the last frame left
(R372), and a debug access ends EXTEST (R399). -/
def State.arrive (s : State) (w : Writer) : State :=
  let s := s.spiFrame w
  let s := if isStall w then s else s.demand
  if w == .debug then s.tapDbg else s

/-- What a cold reset leaves (R60): every V, W, S and L field at its reset value but those that tell of the reset itself, of the supplies that stand, and
the BATFET's state and DCIN's debounce; the ports under the clamp alone (R67); and nothing that waited. -/
def Cold (u : State) : Prop :=
  (∀ f n, n < f.count → f.kept = .v ∨ f.kept = .w ∨ f.kept = .s ∨ f.kept = .l →
    f.key n ∉ [Reg.RTC_TRIM_SRC.key 0, Hid.MAIN.key 0, Hid.WARM.key 0, Hid.COLD.key 0, Reg.PP_STAT_BFET.key 0, Hid.BF_LOCK.key 0, Hid.IN_OK.key 0,
      Reg.PP_STAT_DCIN_ST.key 0, Hid.IN_PWR.key 0, Hid.IN_PWR.key 1, Hid.IN_PWR.key 2, Hid.PO_CLAMP.key 0, Hid.PO_CLAMP.key 1, Hid.PO_RD.key 0,
      Hid.PO_RD.key 1] →
    u.get f n = f.dflt n) ∧
  u.get Hid.MAIN 0 = 1 ∧ u.get Hid.COLD 0 = 1 ∧ u.get Hid.WARM 0 = 0 ∧
  (∀ x : PortN, u.is Hid.PO_CLAMP x = true ∧ u.is Hid.PO_RD x = false) ∧
  u.nvmq = [] ∧ u.mail = [] ∧ u.evq = [] ∧ u.out = [] ∧ u.staging = [] ∧ u.gauge = Gauge.reset

/-- A warm reset by a cause has begun in a part that was out of reset (R56 to R60): the part is in STANDBY and booting, held in reset while its rails are
shut down, its identities stopped, with no transition and no boot window. -/
def WarmBegun (cause : Fld) (u : State) : Prop :=
  u.get cause 0 = 1 ∧ u.get Hid.MAIN 0 = 1 ∧ u.is Hid.WARM 0 = true ∧ u.cur = 1 ∧ u.is Reg.PWR_STATE_BOOTING 0 = true ∧ u.trans = 0 ∧
  u.is Hid.BOOTWIN 0 = false ∧ u.evq = [] ∧ (∀ st : Stl, u.sl st = slStopped ∨ u.sl st = slAbsent)

/- The store keys of what an instruction of identity st writes. -/

/-- PC, and the mark that the shadow bank is invalid, which a retirement ends (R218). -/
def pcKeys (st : Stl) : List Nat := [Hid.S_PC.key st, Hid.S_SHBAD.key st]

/-- Z, N, C and V. -/
def flagKeys (st : Stl) : List Nat := [Hid.S_Z.key st, Hid.S_N.key st, Hid.S_C.key st, Hid.S_V.key st]

/-- A general register; s0 takes nothing (R161). -/
def regKeys (st : Stl) (rd : RegN) : List Nat := if rd = 0 then [] else [Hid.S_R.key (16 * st + rd)]

/-- What the destination register reads after a result: s0 reads 0. -/
def landed (rd : RegN) (v : Word) : Word := if rd = 0 then 0 else v

/-- An ALU instruction retired: its result, its flags, PC, and nothing else. -/
def AluDone (s : State) (st : Stl) (rd : RegN) (r : Word) (c v : Bool) (u : State) : Prop :=
  u.reg st rd = landed rd r ∧ u.is Hid.S_Z st = (r == 0) ∧ u.is Hid.S_N st = r.msb ∧ u.is Hid.S_C st = c ∧ u.is Hid.S_V st = v ∧
  u.pc st = s.pc st + 1 ∧ Changes s u (pcKeys st ++ flagKeys st ++ regKeys st rd)

/-- An instruction retired that writes a register and no flag. -/
def Loaded (s : State) (st : Stl) (rd : RegN) (v : Word) (u : State) : Prop :=
  u.reg st rd = landed rd v ∧ u.pc st = s.pc st + 1 ∧ Changes s u (pcKeys st ++ regKeys st rd)

/-- An instruction retired that writes bytes of shared data and nothing else: those of the n words at an address. -/
def Stored (s : State) (st : Stl) (a n : Nat) (u : State) : Prop :=
  u.pc st = s.pc st + 1 ∧ (∀ b, b < a ∨ a + 4 * n ≤ b → Cells.look u.sdata b = Cells.look s.sdata b) ∧
  Changes s { u with sdata := s.sdata } (pcKeys st)

/-- An instruction that faults (R186, R231): it does not retire; the identity is in FAULT with the code and PC, and PROG_FAULT is raised. -/
def Faulted (s : State) (st : Stl) (code : Nat) (u : State) : Prop :=
  u = (((s.put Reg.STL_STAT_FCODE st code).put Reg.STL_STAT_FPC st (s.pc st)).put Reg.STL_STAT_STATE st 4).raise 81

/-- An instruction retired that writes nothing but PC. -/
def Passed (s : State) (st : Stl) (pc : Nat) (u : State) : Prop := u.pc st = pc ∧ Changes s u (pcKeys st)

/-- A new side effect of an identity on its way to a completer (R175): REFUSED is 0 so far, PC is the next instruction's, ISN has counted up, and the
completer holds it as confirmed without data. -/
def State.issue (s : State) (st : Stl) (c : Nat) : State :=
  ((((s.put Hid.S_REF st 0).retire st).newRecord st c).put Hid.S_ISN st (s.nextIsn st))

/-- That side effect, refused by its completer (R174) with a Ledger source raised. -/
def State.refusedBy (s : State) (st : Stl) (c src : Nat) : State :=
  ((s.raise src).put Hid.CP_REF (4 * c + st) 1).put Hid.S_REF st 1

/-- The completer has not yet completed this issue (R175). -/
def New (s : State) (st : Stl) (c : Nat) : Prop := s.reissue st c = false

end Sys2Proof.Machine
end

