-- ==== Sys2Proof/Certificates/Slice0/Obligations.lean ====
section
/-! DEFINITION. The statements about the model, for the provers. -/

open Sys2Proof Sys2Proof.Machine

/- The whole machine. -/

/-- One step is the front command's effect on the state with the rest of the queue; with none waiting, a microsecond passes (log 12). -/
def Obligations.StepRunsTheFrontCommand : Prop :=
  (∀ (c : Instr) (s : State), step { s with pending := c :: s.pending } = exec c s) ∧
  (∀ s : State, s.pending = [] → step s = .next s.idle.finish)

/-- Every command completes in every state, and leaves the commands that wait as they are: the part has no fault and no refusal. The model's own readings in it: logs 10 and 56. -/
def Obligations.EveryCommandCompletes : Prop :=
  ∀ (c : Instr) (s : State), ∃ t, exec c s = .next t ∧ t.pending = s.pending

/-- Every step, of a command or of time, keeps the canonical form of the stores. -/
def Obligations.EveryStepKeepsTheCanonicalForm : Prop := ∀ s t : State, s.Inv → step s = .next t → t.Inv

/-- What follows a command by itself reaches the fields named in Safety.lean and no other, and no memory, mailbox or queue of commands or writes. The model's own readings in it: log 10. -/
def Obligations.SettlingReachesItsFieldsOnly : Prop := ∀ u : State, Settles u u.finish

/-- The mailboxes and the NVM write queue never hold more than their size (R234, R409), whatever the command. -/
def Obligations.QueuesNeverOverflow : Prop :=
  ∀ s t : State,
    ((∀ b, (s.mail.filter (fun e => e.1 == b)).length ≤ mboxSize b) ∧ s.nvmq.length ≤ 16) → step s = .next t →
    (∀ b, (t.mail.filter (fun e => e.1 == b)).length ≤ mboxSize b) ∧ t.nvmq.length ≤ 16

/-- After reset every field holds the value of its table (logs 1 to 5 for those the spec gives none), nothing waits or is stored, and the stores have
the canonical form. -/
def Obligations.ResetValues : Prop :=
  ((∀ (f : Fld) (n : Nat), n < f.count → State.reset.get f n = f.dflt n) ∧
  State.reset.get Reg.PWR_STATE_CUR 0 = 1 ∧ State.reset.get Reg.KPR_STAT_STATE 0 = 0 ∧ State.reset.get Reg.DEV_ID_PART_ID 0 = 0x4192 ∧
  State.reset.get Reg.PP_STAT_BFET 0 = 0 ∧ State.reset.get Reg.LG_STAT_GRAVE 0 = 0 ∧ State.reset.get Reg.SEC_DBG_SESSION 0 = 0 ∧
  (∀ n, n < 8 → State.reset.get Reg.LP_STAT_STATE n = 0) ∧ (∀ n, n < 4 → State.reset.get Reg.STL_STAT_STATE n = 0) ∧
  State.reset.pending = [] ∧ State.reset.imem = [] ∧ State.reset.sdata = [] ∧ State.reset.nvm = [] ∧ State.reset.staging = [] ∧
  State.reset.mail = [] ∧ State.reset.stack = [] ∧ State.reset.evq = []) ∧
  (State.reset.Inv)

/- Registers. -/

/-- A bit of a field after a write of its register, by the field's type (R9): RW takes the bit, RO and WO keep it, W1C and CLR clear it on a 1 (W1C not where a set without FCLK
has still to count, R7), SET sets it on a 1, and RWL takes it until the boot window closes. Nothing else changes, and a WO field reads 0. The model's own readings in it: log 23. -/
def Obligations.FieldsTakeWritesByType : Prop :=
  ∀ (s : State) (f : Fld) (n w i : Nat), n < f.count → i < f.width →
    let new := (s.fieldWrite f n w).bit f n i
    let old := s.bit f n i
    let one := w.testBit (f.lsb + i)
    (f.ty = .rw → new = one) ∧ (f.ty = .ro ∨ f.ty = .wo → new = old) ∧ (f.ty = .w1c → new = (old && (!one || s.bit f.held n i))) ∧
      (f.ty = .clr → new = (old && !one)) ∧
    (f.ty = .set → new = (old || one)) ∧ (f.ty = .rwl → new = (if s.get Hid.SEALED 0 = 0 then one else old)) ∧
    (f.ty = .wo → s.fieldRead f n = 0) ∧
    (∀ g m, g.key m ≠ f.key n → (s.fieldWrite f n w).get g m = s.get g m)

/-- A write at any address (R4 to R10, R391 to R393): by a writer that makes no access it is none; permitted, it acts on the word at the address
below it; refused, it has no effect but its report: WHO, ADDR and the count of SEC_PSTAT, and what its writer's link or stall keeps of it. The model's own readings in it: logs 25 and 38. -/
def Obligations.RegisterWritesActOrAreReported : Prop :=
  ∀ (s : State) (w : Writer) (addr : BitVec 16) (v : Word),
    let a := addr.toNat / 4 * 4
    (s.linked w = false → (∃ t, exec (.registerWrite w addr v) s = .next t ∧ Settles s t)) ∧
    (Permitted s w a v.toNat → (∃ t, exec (.registerWrite w addr v) s = .next t ∧ Settles ((s.arrive w).store w a v.toNat) t)) ∧
    (s.linked w = true → s.denied w a v.toNat = true →
      (∃ u t, exec (.registerWrite w addr v) s = .next t ∧ Settles u t ∧ (u.get Reg.SEC_PSTAT_WHO 0 = who w ∧ u.get Reg.SEC_PSTAT_ADDR 0 = a ∧
        (s.get Reg.SEC_PSTAT_COUNT 0 ≤ 255 → u.get Reg.SEC_PSTAT_COUNT 0 = min 255 (s.get Reg.SEC_PSTAT_COUNT 0 + 1)) ∧
        (w = .smbus → u.bit Hid.PM_CML 0 1 = true) ∧ (w = .spi → u.get Hid.SPI_LAST 0 = 4) ∧
        (∀ st, w = .stl st → u.is Hid.S_REF st = true) ∧
        (∀ f n, f.key n ∉ [Reg.SEC_PSTAT_WHO.key 0, Reg.SEC_PSTAT_ADDR.key 0, Reg.SEC_PSTAT_COUNT.key 0, Hid.PM_CML.key 0, Hid.SPI_LAST.key 0,
          Hid.FCLK.key 0, Hid.EXT.key 0, Hid.S_REF.key 0, Hid.S_REF.key 1, Hid.S_REF.key 2, Hid.S_REF.key 3] → u.get f n = s.get f n) ∧
        u = { s with fld := u.fld, evq := u.evq })))

/- Supplies, resets and power states. -/

/-- The supplies (R22, R36, R38, R47, R51, R52, R54): what rises, falls and goes on, and a breach of their order, which holds the part in reset; its
clear is on its way to the backup domain. The model's own readings in it: logs 10, 35 and 62. -/
def Obligations.SuppliesRiseAndFall : Prop :=
  ∀ s : State,
    exec .vbkupRise s = .next (if s.vao then (s.put Hid.VBKUP_OK 0 1).put Hid.DOM_ON 0 1 else ((s.put Hid.VBKUP_OK 0 1).put Hid.DOM_ON 0 1).put
      Hid.ON_VBKUP 0 1) ∧
    (∀ (r : Raiser) (also : List Raiser) (core ana : Bool), s.vao = false → (r = .vbat → s.legBlocked = false) →
      (∃ t, exec (.vaoRise r also core ana) s = .next t ∧
        t = s.vaoUp (raiserNum r) ((also.map raiserNum).filter (fun n => n != raiserNum r && !(n == 4 && s.legBlocked))) core ana ∧
        (r = .dcin ∨ r = .vbat → t.get Hid.MAIN 0 = 1 ∧ t.get Reg.RST_CAUSE_POR 0 = 1 ∧ t.get Reg.RST_CAUSE_PIN 0 = 0 ∧ t.get Hid.FCLK 0 = 1 ∧
          t.is Reg.SUP_STAT_CORE_EXT 0 = core ∧ t.is Reg.SUP_STAT_ANA_EXT 0 = ana ∧ t.is Reg.WAKE_CAUSE_DCIN 0 = (r == .dcin || also.contains .dcin)))) ∧
    (s.vao = true →
      (∃ t, exec .vcollapse s = .next t ∧ t = s.mainDown s.exitDone ∧ t.nvmq = [] ∧ t.mail = [] ∧ t.evq = [] ∧ t.sdata = [] ∧ t.imem = []) ∧
      (∀ x, (∃ t, exec (.supplyBrownout x) s = .next t ∧ Settles (s.coldReset (supplyNum x)) t))) ∧
    (s.carries = true → (∃ t, exec .hostioLow s = .next t ∧ Settles ((s.put Reg.SUP_STAT_HOSTIO_LOW 0 1).raise 99) t)) ∧
    (s.is Reg.SUP_STAT_HOSTIO_LOW 0 = true →
      (∃ t, exec .hostioResume s = .next t ∧ t.is Reg.SUP_STAT_HOSTIO_LOW 0 = false ∧ (∀ f ∈ linkFlds, t.get f 0 = f.dflt 0) ∧
        Changes s t (Reg.SUP_STAT_HOSTIO_LOW.key 0 :: linkFlds.map (fun f => f.key 0)))) ∧
    (∀ rule : BitVec 2, s.get Hid.MAIN 0 = 1 → rule.toNat = 1 ∨ rule.toNat = 2 →
      exec (.orderViolDetect rule) s = .next ((((s.put Reg.ORDER_STAT_ORDER_VIOL 0 1).put Reg.ORDER_STAT_RULE 0 rule.toNat).put Reg.ORDER_STAT_LOGGED 0
        0).put Hid.ORD_HOLD 0 1)) ∧
    (∀ w, (Permitted s w 0x10 1 → ∃ t, exec (.orderViolClear w) s = .next t ∧ Settles ({ (s.arrive w) with bkq := (s.arrive w).bkq ++ [(0x10, 1)] }) t))

/-- A cold reset, by a supply or by the pin (R52, R55, R60): its cause is recorded, every V, W, S and L field returns to its reset value but those that
tell of the reset itself, of the supplies, and the BATFET's state and DCIN's debounce, and what waited is gone (`Cold`). The model's own readings in it: logs 44 and 59. -/
def Obligations.ColdResetsReturnTheirFields : Prop :=
  ∀ s : State,
    (∀ x : Supply, s.vao = true →
      (∃ u t, exec (.supplyBrownout x) s = .next t ∧ Settles u t ∧ Cold u ∧ u.get Reg.RST_CAUSE_BOR 0 = 1 ∧ u.get Reg.RST_CAUSE_BOR_SRC 0 = supplyNum x)) ∧
    (s.up = true → (∃ u t, exec .pinReset s = .next t ∧ Settles u t ∧ Cold u ∧ u.get Reg.RST_CAUSE_PIN 0 = 1))

/-- The resets and the boot (R53, R55 to R57, R63, R66): each completes with its own effect, the new values of its registers given beside the operation
that makes them. The model's own readings in it: logs 4, 9, 39, 45, 52, 61 and 68. -/
def Obligations.ResetsAndBoot : Prop :=
  ∀ (s : State) (w : Writer),
    (s.get Hid.MAIN 0 = 1 → s.is Hid.WARM 0 = false → ∀ (h p : Bool) (a : BitVec 7) (again : Bool), again = true ∨ s.is Hid.ORD_HOLD 0 = false →
      (∃ t, exec (.resetHoldEnd h p ⟨a, again⟩) s = .next t ∧ t.is Reg.SUP_STAT_VIOH_MODE 0 = h ∧ t.is Reg.SUP_STAT_VIOP_MODE 0 = p ∧
        t.is Reg.SUP_STAT_HOSTIO_LOW 0 = false ∧
        t.get Reg.HL_SMB_CFG_ADDR 0 = 0x60 + a.toNat % 4 ∧ t.get Hid.MAIN 0 = 2 ∧ t.is Hid.ORD_HOLD 0 = false ∧
        t.is Hid.PO_RD 0 = true ∧ t.is Hid.PO_RD 1 = true ∧
        Changes s t [Reg.SUP_STAT_VIOH_MODE.key 0, Reg.SUP_STAT_VIOP_MODE.key 0, Reg.SUP_STAT_HOSTIO_LOW.key 0, Reg.HL_SMB_CFG_ADDR.key 0,
          Hid.MAIN.key 0, Hid.ORD_HOLD.key 0, Hid.PO_RD.key 0, Hid.PO_RD.key 1])) ∧
    (s.up = true → (∃ u t, exec .pinReset s = .next t ∧ Settles u t ∧ u = s.coldReset 0 ∧ u.get Hid.MAIN 0 = 1 ∧ u.get Hid.COLD 0 = 1 ∧
      u.get Reg.RST_CAUSE_PIN 0 = 1)) ∧
    (Permitted s w 0x4 0xA5 → (∃ u t, exec (.hostReset w) s = .next t ∧ Settles u t ∧ u = ((s.arrive w).regStore 0x4 0xA5).warmReset Reg.RST_CAUSE_HOST ∧
      WarmBegun Reg.RST_CAUSE_HOST u)) ∧
    (∀ key : BitVec 8, key ≠ 0xA5 → key ≠ 0 → Permitted s w 0x4 key.toNat →
      (∃ u t, exec (.softRstKeyBad w key) s = .next t ∧ Settles u t ∧ u = ((s.arrive w).regStore 0x4 key.toNat).put Reg.SOFT_RST_KEY_BAD 0 1 ∧
        u.get Reg.SOFT_RST_KEY_BAD 0 = 1 ∧ u.get Hid.MAIN 0 = s.get Hid.MAIN 0)) ∧
    (s.get Hid.MAIN 0 = 1 → s.is Hid.WARM 0 = true → (∃ u t, exec .warmTmoExpiry s = .next t ∧ Settles u t ∧
      (u = s.release false ∧ u.kp = 0 ∧ u.stack = [] ∧ u.branch = [] ∧ u.is Hid.SD_RUN 0 = false ∧ (∀ n : LoopN, u.lpEn n = false) ∧
      (∀ r : RailN, u.railOn r = false)))) ∧
    (s.get Hid.MAIN 0 = 2 → (∃ u t, exec .romBootStage s = .next t ∧ Settles u t ∧
      (u = s.romBoot ∧ u.get Hid.MAIN 0 = 3 ∧ u.get Hid.FCLK 0 = 2 ∧ u.get Hid.SEALED 0 = 0 ∧ u.get Hid.RECDUE 0 = 0 ∧
      u.get Reg.SEC_LC_LC 0 = lcOf (s.get Hid.LCBITS 0) ∧ u.is Hid.PO_CLAMP 0 = false ∧ u.is Hid.PO_CLAMP 1 = false ∧
      ((u.is Hid.BOOTWIN 0 = true ∧ u.is Reg.BOOT_STAT_IMAGE_BAD 0 = false ∧ u.is Hid.SAFE 0 = false ∧ (u.sl 0 = slRun ∨ u.sl 0 = slAbsent)) ∨
       (u.is Hid.BOOTWIN 0 = false ∧ u.is Reg.BOOT_STAT_IMAGE_BAD 0 = true ∧ u.is Hid.SAFE 0 = true))))) ∧
    (s.is Hid.BOOTWIN 0 = true → (∃ u t, exec .bootWindowTimeout s = .next t ∧ Settles u t ∧ u = ((s.put Reg.BOOT_STAT_SEAL_TMO 0 1).raise 102).closeWindow ∧
      u.is Hid.BOOTWIN 0 = false ∧ u.is Hid.SEALED 0 = true ∧
      u.is Reg.BOOT_STAT_SEAL_TMO 0 = true))

/-- Requests (R22, R23, R24): a request other than NONE, STANDBY, RUN, SHIP and CANCEL sets REQ_BAD; STANDBY with a loop enabled or a sequence in
progress is refused; RUN starts a transition from STANDBY, but not in the safe boot state; one that arrives during a transition is held. The model's own readings in it: log 35. -/
def Obligations.PowerRequests : Prop :=
  ∀ (s : State) (w : Writer),
    let b := s.arrive w
    (b.trans ≠ 0 → b.get Hid.HELDREQ 0 ≠ 14 →
      (Permitted s w 0x404 1 → ∃ t, exec (.pwrReqStandby w) s = .next t ∧ Settles ((s.arrive w).put Hid.HELDREQ 0 1) t) ∧
        (Permitted s w 0x404 2 → ∃ t, exec (.pwrReqRun w) s = .next t ∧ Settles ((s.arrive w).put Hid.HELDREQ 0 2) t) ∧
      (Permitted s w 0x404 5 → ∃ t, exec (.pwrReqShip w) s = .next t ∧ Settles ((s.arrive w).put Hid.HELDREQ 0 5) t) ∧
        (Permitted s w 0x404 6 → ∃ t, exec (.pwrReqCancel w) s = .next t ∧ Settles ((s.arrive w).put Hid.HELDREQ 0 6) t)) ∧
    (b.trans = 0 →
      (b.standby = true → b.is Hid.SAFE 0 = false → (Permitted s w 0x404 1 → ∃ t, exec (.pwrReqStandby w) s = .next t ∧
        Settles ((s.arrive w).put Reg.PWR_STATE_BOOTING 0 0) t)) ∧
      (b.standby = true → b.is Hid.SAFE 0 = true → (Permitted s w 0x404 1 → ∃ t, exec (.pwrReqStandby w) s = .next t ∧ Settles (s.arrive w) t)) ∧
      (b.standby = false → b.anyLoop = false → b.sequencing = false →
        (Permitted s w 0x404 1 → ∃ t, exec (.pwrReqStandby w) s = .next t ∧ Settles (((s.arrive w).put Reg.PWR_STATE_BOOTING 0 0).put Hid.TRANS 0 2) t)) ∧
      (b.standby = false → b.anyLoop = true ∨ b.sequencing = true →
        (Permitted s w 0x404 1 → ∃ t, exec (.pwrReqStandby w) s = .next t ∧ Settles (((s.arrive w).put Reg.PWR_STATE_REQ_REFUSED 0 1).irq 45) t)) ∧
      (b.cur = 1 → b.is Hid.SAFE 0 = false → b.anyInput = true ∨ b.batAvail = true →
        (Permitted s w 0x404 2 → ∃ t, exec (.pwrReqRun w) s = .next t ∧
          Settles (((((s.arrive w).put Reg.PWR_STATE_BOOTING 0 0).put Hid.TRANS 0 1).demand).reloadMap) t)) ∧
      (b.cur ≠ 1 ∨ b.is Hid.SAFE 0 = true ∨ (b.anyInput = false ∧ b.batAvail = false) →
        (Permitted s w 0x404 2 → ∃ t, exec (.pwrReqRun w) s = .next t ∧ Settles (((s.arrive w).put Reg.PWR_STATE_REQ_REFUSED 0 1).irq 45) t)) ∧
      (b.cur ≠ 4 → (Permitted s w 0x404 5 → ∃ t, exec (.pwrReqShip w) s = .next t ∧ Settles ((((s.arrive w).stopSource 0).stopSource 1).startSteps 3) t)) ∧
      (b.cur ≠ 4 → (Permitted s w 0x404 6 → ∃ t, exec (.pwrReqCancel w) s = .next t ∧ Settles (((s.arrive w).put Reg.PWR_STATE_REQ_REFUSED 0 1).irq 45) t)) ∧
      (b.cur = 4 → (Permitted s w 0x404 5 → ∃ t, exec (.pwrReqShip w) s = .next t ∧ Settles (s.arrive w) t)) ∧
      (b.cur = 4 → (Permitted s w 0x404 6 → ∃ t, exec (.pwrReqCancel w) s = .next t ∧
        Settles ((((s.arrive w).put Reg.BK_STAT_SHIP 0 0).put Reg.PWR_STATE_CUR 0 1).ptStart) t))) ∧
    (∀ req : BitVec 4, req.toNat ∉ [0, 1, 2, 5, 6] →
      (Permitted s w 0x404 req.toNat → ∃ t, exec (.pwrReqUndefined w req) s = .next t ∧ Settles ((s.arrive w).put Reg.PWR_STATE_REQ_BAD 0 1) t))

/-- The transitions and the states they lead to (R24, R26, R27, R34, R35, R37, R40). The fast clock (R18, R19): usable after its start, when the sets that
blocks made without it count, locked to a crystal that runs, CLK_FAULT while it runs unlocked, and stopped where no demand of R18 stands. The
model's own readings in it: logs 10, 11, 38 and 65. -/
def Obligations.PowerTransitionsAndClock : Prop :=
  (∀ (s : State) (w : Writer) (v : Word),
    (s.trans = 2 → (∃ u t, exec .standbyEntryDone s = .next t ∧ Settles u t ∧ u = s.rest 1 ∧ u.cur = 1 ∧ u.trans = 0)) ∧
    (s.trans = 1 → s.anyInput = true → (∃ u t, exec .runTransitionEnd s = .next t ∧ Settles u t ∧ u = s.runEnd ∧ u.cur = 2 ∧ u.trans = 0 ∧
      u.get Hid.FCLK 0 = 2 ∧ u.is Hid.BURST 0 = false)) ∧
    (s.trans = 1 → s.anyInput = false → s.batAvail = true → (∃ u t, exec .runTransitionEnd s = .next t ∧ Settles u t ∧ u = s.runEnd ∧ u.cur = 3 ∧
      u.trans = 0)) ∧
    (s.trans = 1 → s.anyInput = false → s.batAvail = false →
      (∃ t, exec .runTransitionEnd s = .next t ∧ Settles (((s.put Hid.TRANS 0 0).fclkOn.put Reg.PWR_STATE_REQ_REFUSED 0 1).irq 45) t)) ∧
    (s.vao = true → s.cur = 4 → (∃ t, exec .shipPendInputRemoved s = .next t ∧ t = s.mainDown true ∧ t.get Hid.MAIN 0 = 0 ∧
      t.is Reg.WAKE_CAUSE_COLLAPSE 0 = false)) ∧
    (Permitted s w 0x408 v.toNat → (∃ u t, exec (.stbyCfgWrite w v) s = .next t ∧ Settles u t ∧ u = (s.arrive w).stbyCfg v.toNat ∧
      u.get Reg.STBY_CFG_SCAN_P 0 = v.toNat % 2 ^ 14 ∧ u.get Reg.STBY_CFG_WAKE_PRI 0 = v.toNat / 2 ^ 16 % 16)) ∧
    (s.burstDue = true →
      (s.is Hid.BURST_ANY 0 = false ∨ s.is Hid.BURST_NOW 0 = true → (∃ u t, exec .standbyBurst s = .next t ∧ Settles u t ∧ u = s.burstStart ∧
        u.is Hid.BURST 0 = true)) ∧
      (s.is Hid.BURST_ANY 0 = true → s.is Hid.BURST_NOW 0 = false →
        let b := s.passTime (s.get Hid.BURST_T 0 + 1000 * s.scanP - s.usec)
        b.burstDue = true → (∃ u t, exec .standbyBurst s = .next t ∧ Settles u t ∧ u = b.burstStart ∧ u.is Hid.BURST 0 = true))) ∧
    (s.vao = false → s.get Hid.LEGWIN 0 = 1 → exec .vbatLegWindowEnd s = .next (s.put Hid.LEGWIN 0 0)) ∧
    (s.vao = false → s.get Hid.LEGWIN 0 = 2 →
      exec .vbatLegWindowEnd s = .next ((s.put Reg.WAKE_CAUSE_ALARM_NOSRC 0 1).put Hid.LEGWIN 0 0)) ∧
    (s.hold = true → s.is Hid.DWELL_DONE 0 = false →
      let b := (s.passTime (s.get Hid.HOLD_T0 0 + 200000 - s.usec)).put Hid.DWELL_DONE 0 1
      (b.hold = true → b.anyInput = false → (∃ t, exec .holdDwellEnd s = .next t ∧ Settles b t)) ∧
      (b.hold = true → b.anyInput = true → b.trans = 0 → (∃ u t, exec .holdDwellEnd s = .next t ∧ Settles u t ∧ u = b.backToActive ∧ u.cur = 2)))) ∧
  (∀ s : State,
    (s.get Hid.FCLK 0 = 1 → (∃ u t, exec .fclkUsable s = .next t ∧ Settles u t ∧ (u.get Hid.FCLK 0 = 2 ∧ u = { s with fld := u.fld } ∧
      (Pages.wf s.fld = true → ∀ f n, f.key n / 256 < 0x40000 → f.key n ≠ Hid.FCLK.key 0 → u.get f n = s.get f n)))) ∧
    (s.get Hid.FCLK 0 = 2 → s.is Reg.BK_STAT_ON_RC 0 = false → exec .fclkLock s = .next (s.put Hid.FLOCK 0 1)) ∧
    (s.is Hid.FCLK 0 = true → s.is Hid.FLOCK 0 = false → (∃ t, exec .clkFault s = .next t ∧ Settles (s.raise 104) t)) ∧
    (s.runs = true → s.fclkHeld = false → exec .fclkStop s = .next ((s.put Hid.FCLK 0 0).put Hid.FLOCK 0 0)) ∧
    (s.standby = false → s.runs = true → exec .fclkStop s = .next s))

/- Loops, phases, monitors. -/

/-- The loops (R74, R81, R83, R85, R86, R88, R89, R93, R102). The phases (R74, R95, R96, R98). What stands at the sense inputs comes with the command, and
an event that takes time completes when that time has passed. The model's own readings in it: logs 10, 11, 33, 63, 64 and 65. -/
def Obligations.LoopsAndPhases : Prop :=
  (∀ (s : State) (n : LoopN) (w : Writer) (v0 : Nat) (m : LoopSense), s.up = true →
    let b := s.sense n m
    (b.lp n = 1 →
      (b.shortSeen n v0 m.vsen = true → b.usec ≤ b.get Hid.LP_CHK_T n + 100 →
        (∃ u t, exec (.highSideShort n ⟨v0, m⟩) s = .next t ∧ Settles u t ∧
          u = ((((b.put Reg.LP_STAT_STATE n 5).put Reg.LP_STAT_HSS n 1).swOpen n).put Reg.LP_STAT_HSS_PH n (b.hssPhase n)).raise (24 + n) ∧
        u.lp n = 5 ∧ u.is Reg.LP_STAT_HSS n = true ∧ u.is Hid.LP_INSW n = false)) ∧
      (b.shortSeen n v0 m.vsen = false →
        let c := b.passTime (b.get Hid.LP_CHK_T n + 100 - b.usec)
        c.lp n = 1 → exec (.prestartCheckPass n ⟨v0, m⟩) s = .next ((((c.put Reg.LP_STAT_STATE n 2).put Reg.LP_REF_VREF_NOW n
          (min 3600 (m.vsen / 1000))).put Hid.LP_ACC n 0).put Hid.LP_DIODE n 1))) ∧
    (s.lp n = 2 →
      let c := s.passTime (s.rampLeft n (s.get Reg.LP_REF_TARGET n))
      c.lp n = 2 → (∃ t, exec (.softStartEnd n) s = .next t ∧
        Settles (((((c.put Reg.LP_STAT_STATE n 3).put Reg.LP_REF_VREF_NOW n (c.get Reg.LP_REF_TARGET n)).put Hid.LP_ACC n 0).put Hid.LP_PGT n 0).tryGoods
          (fun r => c.outKind r == 1 && c.outNum r == n)) t)) ∧
    (s.lp n = 4 →
      let c := s.passTime (s.rampLeft n 0)
      c.lp n = 4 → (∃ u t, exec (.loopStopComplete n) s = .next t ∧ Settles u t ∧
        (u = c.loopStopped n ∧ (c.is Hid.LP_RESTART n = false → u.lp n = 0 ∧ u.get Reg.LP_REF_VREF_NOW n = 0)))) ∧
    (b.lp n = 3 ∨ b.lp n = 4 → b.is Reg.LP_PROT_RUSH_TH n = true → b.inEvent n = false → b.rushLevel n 1 = true → b.get Hid.LP_RUSH_U n ≤ b.usec →
      exec (.rushStart ⟨n, m⟩) s = .next (((b.put Hid.LP_RUSH n 1).put Reg.LP_STAT_RUSH n 1).put Hid.LP_EVT_T n b.usec)) ∧
    (2 ≤ b.lp n → b.lp n ≤ 4 → b.is Reg.LP_PROT_BRAKE_TH n = true → b.inEvent n = false → b.brakeLevel n 1 = true → b.get Hid.LP_BRK_U n ≤ b.usec →
      exec (.brakeStart ⟨n, m⟩) s = .next (((b.put Hid.LP_BRAKE n 1).put Reg.LP_STAT_BRAKE n 1).put Hid.LP_EVT_T n b.usec)) ∧
    (b.is Hid.LP_RUSH n = true → b.rushLevel n (1 / 2) = false →
      exec (.rushEnd ⟨n, m⟩) s = .next ((b.put Hid.LP_RUSH n 0).put Hid.LP_RUSH_U n (b.usec + b.periods n 1))) ∧
    (b.is Hid.LP_RUSH n = true → b.rushLevel n (1 / 2) = true →
      (∃ t, exec (.rushEnd ⟨n, m⟩) s = .next t ∧ t = (b.passTime (b.rushLast n - b.usec)).rushEnd n ∧ t.is Hid.LP_RUSH n = false)) ∧
    (b.is Hid.LP_BRAKE n = true → b.brakeLevel n (1 / 2) = false →
      exec (.brakeEnd ⟨n, m⟩) s = .next ((b.put Hid.LP_BRAKE n 0).put Hid.LP_BRK_U n (b.usec + b.periods n 1))) ∧
    (b.is Hid.LP_BRAKE n = true → b.brakeLevel n (1 / 2) = true →
      (∃ t, exec (.brakeEnd ⟨n, m⟩) s = .next t ∧ t = (b.passTime (b.brakeLast n - b.usec)).brakeEnd n ∧ t.is Hid.LP_BRAKE n = false)) ∧
    (b.pgMay n = true → b.is Reg.LP_STAT_PG n = false →
      let c := b.passTime (b.pgOnDly n - b.get Hid.LP_PGT n)
      c.pgMay n = true → (∃ u t, exec (.pgAssert ⟨n, m⟩) s = .next t ∧ Settles u t ∧ u = (c.pgHigh n).put Hid.LP_PGT n 0 ∧ u.is Reg.LP_STAT_PG n = true)) ∧
    (b.is Reg.LP_STAT_PG n = true → b.inPgWin n = false →
      let c := b.passTime (b.pgOffFilt n - b.get Hid.LP_PGT n)
      (∃ u t, exec (.pgDeassert ⟨n, m⟩) s = .next t ∧ Settles u t ∧ u = c.pgLow n ∧ u.is Reg.LP_STAT_PG n = false)) ∧
    (s.is Reg.MLC_FRAME_SRC 0 = true →
      (s.is Reg.MLC_SYNC_STAT_HOLDING 0 = false →
        exec .syncLoss s = .next ((((s.put Reg.MLC_SYNC_STAT_LOSS 0 1).put Reg.MLC_SYNC_STAT_HOLDING 0 1).put Reg.MLC_SYNC_STAT_LOCK 0 0).irq 13)) ∧
      (∀ khz, 200 ≤ khz → khz ≤ 2000 → exec (.syncLock khz) s = .next (((s.put Reg.MLC_SYNC_STAT_LOCK 0 1).put Reg.MLC_SYNC_STAT_HOLDING 0 0).put
        Reg.MLC_SYNC_STAT_FRAME_NOW 0 khz))) ∧
    (Permitted s w (0x1228 + 64 * n) 16 → ∃ t, exec (.hssClear w n) s = .next t ∧ Settles ((s.arrive w).lpStat n 16) t)) ∧
  (∀ (s : State) (k : PhaseN) (m : LoopSense) (times : FaultTimes) (v : Nat), s.up = true →
    let n := s.get Reg.PH_CFG_LOOP k
    let b := s.put Hid.PH_VISEN k v
    let d := s.sense n m
    (b.faultLive k = true → b.overLimit k = true →
      exec (.phaseCurrentLimit ⟨k, v⟩) s = .next (((b.put Hid.PH_LIM k 1).put Reg.PH_STAT_ILIM k 1).put Reg.LP_STAT_ILIM n 1)) ∧
    (d.faultLive k = true → d.phaseCause k times ≠ 0 →
      (∃ t, exec (.phaseFaultDetect k ⟨m, times⟩) s = .next t ∧ Settles ((d.put Reg.PH_STAT_CAUSE k (d.phaseCause k times)).raise k) t)) ∧
    (s.is Hid.PH_WAIT k = true → s.is Reg.PH_STAT_FENCED k = true → s.is Reg.PH_CFG_ASSIGN k = true →
      (s.lp n = 3 → s.inEvent n = false →
        exec (.phaseReadmit k) s = .next (((s.put Hid.PH_CHECK k 1).put Hid.PH_WAIT k 0).put Hid.PH_CHK_T k s.usec)) ∧
      (s.switching n = false → (∃ t, exec (.phaseReadmit k) s = .next t ∧ t = s.phaseJoin k ∧ t.is Reg.PH_STAT_FENCED k = false ∧ t.balOf k = 0))) ∧
    (b.is Hid.PH_CHECK k = true →
      let c := b.passTime (b.get Hid.PH_CHK_T k + b.periods n 1 - b.usec)
      c.is Hid.PH_CHECK k = true →
      (ampsApart (c.amps k) 0 ≤ 2 → (∃ u t, exec (.readmitCheckEnd k v) s = .next t ∧ Settles u t ∧ u = c.phaseJoin k ∧ u.is Reg.PH_STAT_FENCED k = false ∧
        u.balOf k = 0)) ∧
      (2 < ampsApart (c.amps k) 0 → (∃ t, exec (.readmitCheckEnd k v) s = .next t ∧
        Settles ((((c.put Hid.PH_CHECK k 0).put Hid.PH_FBY k 1).put Reg.PH_STAT_CAUSE k 4).raise k) t))))

/-- The Scales and the criers (R109, R113, R126 to R128): a scan, the writes that configure channels and criers, a side that trips or releases by the voltage
at its input and the time that has stood, and the end of a blank. The model's own readings in it: logs 30, 31, 32, 65, 66 and 67. -/
def Obligations.ScalesAndCriers : Prop :=
  ∀ (s : State) (w : Writer) (n : ChanN) (c : CrierN) (v : Word) (hi : Bool) (uv ns : Nat),
    (∀ sample, s.up = true → s.fclk = true → s.standby = false ∨ s.is Hid.BURST 0 = true →
      (∃ t, exec (.scanEnd sample) s = .next t ∧ Settles (s.scanEnd sample) t)) ∧
    (Permitted s w (0x2000 + 16 * n) v.toNat → ∃ t, exec (.chnCfgWrite w n v) s = .next t ∧ Settles ((s.arrive w).chanCfg n v.toNat) t) ∧
    (Permitted s w (0x2004 + 16 * n) v.toNat → ∃ t, exec (.chnThresholdWrite w n false v) s = .next t ∧ Settles ((s.arrive w).chanThr n false v.toNat) t) ∧
    (Permitted s w (0x2008 + 16 * n) v.toNat → ∃ t, exec (.chnThresholdWrite w n true v) s = .next t ∧ Settles ((s.arrive w).chanThr n true v.toNat) t) ∧
    (Permitted s w (0x2C00 + 16 * c) v.toNat → ∃ t, exec (.crierCfgWrite w c false v) s = .next t ∧ Settles ((s.arrive w).crierWrite c false v.toNat) t) ∧
    (Permitted s w (0x2C04 + 16 * c) v.toNat → ∃ t, exec (.crierCfgWrite w c true v) s = .next t ∧ Settles ((s.arrive w).crierWrite c true v.toNat) t) ∧
    (s.vao = true → s.crierOn c = true →
      (s.crierSide c hi = true → s.crierOut c hi = false → s.crierTrips c hi uv ns = true →
        (∃ t, exec (.crierTrip c ⟨hi, uv, ns⟩) s = .next t ∧
          Settles (if s.is Hid.CR_BLANK c then s.crierMove c hi true else (s.crierMove c hi true).crierTake c hi true) t)) ∧
      (s.crierOut c hi = true → s.crierFrees c hi uv ns = true →
        (∃ u t, exec (.crierRelease c ⟨hi, uv, ns⟩) s = .next t ∧ Settles u t ∧
          (u = (if s.is Hid.CR_BLANK c then s.crierMove c hi false else (s.crierMove c hi false).crierTake c hi false) ∧
          u.crierOut c hi = false)))) ∧
    (s.vao = true → s.is Hid.CR_BLANK c = true →
      let b := s.passTime (s.get Hid.CR_BLANK_T c + 5 - s.usec)
      b.is Hid.CR_BLANK c = true → (b.crierOn c = true → (∃ t, exec (.crierBlankEnd c uv ns) s = .next t ∧
        Settles (((((b.crierSees c true uv ns).crierSees c false uv ns).put Hid.CR_BLANK c 0).blankSide c true).blankSide c false) t)) ∧
      (b.crierOn c = false → (∃ u t, exec (.crierBlankEnd c uv ns) s = .next t ∧ Settles u t ∧ u = b.put Hid.CR_BLANK c 0 ∧ u.is Hid.CR_BLANK c = false)))

/- The Keeper and the Daybook. -/

/-- The Keeper's requests, steps and times (R136, R141 to R143, R145, R146, R149 to R151). The model's own readings in it: logs 11, 40, 42 and 43. -/
def Obligations.KeeperSequences : Prop :=
  ∀ (s : State) (w : Writer) (r : RailN) (p : SqN) (level : Bool),
    (Permitted s w 0x800 1 → ∃ t, exec (.keeperOnRequest w) s = .next t ∧ Settles ((s.arrive w).requestOn) t) ∧
    (Permitted s w 0x800 2 → ∃ t, exec (.keeperOffRequest w) s = .next t ∧ Settles ((s.arrive w).requestOff) t) ∧
    (s.runs = true → s.kp = 0 → s.is Reg.KPR_STAT_PEND_ON 0 = true → s.is Hid.EXT 0 = false →
      (∃ t, exec .toffMinExpiry s = .next t ∧ Settles s.enterRising t)) ∧
    (s.vao = true → (∃ t, exec .shutdownStep s = .next t ∧ Settles s.shutdownStep t)) ∧
    (s.vao = true → s.is Hid.SD_RUN 0 = true → s.is Hid.WARM 0 = false → (∃ t, exec .shutdownTimeout s = .next t ∧ Settles ((s.release false).raise 77) t)) ∧
    (s.up = true → s.rail r = 1 → s.is Reg.SCN_STAT_BLIND 0 = false ∨ s.hasChan r = false →
      (∃ t, exec (.upTimeout r) s = .next t ∧ Settles (((s.setLatch 1 r 255).raise 76).shutdown) t)) ∧
    (s.up = true → s.is Reg.SCN_STAT_BLIND 0 = true → s.is Reg.KPR_CFG_BLIND_TMO 0 = true → s.is Hid.BLIND_SD 0 = false →
      (∃ t, exec .blindTimeout s = .next t ∧ Settles ((((s.put Hid.BLIND_SD 0 1).setLatch 3 255 255).record tyBlind 255 255
          (leBytes 4 ((s.put Hid.BLIND_SD 0 1).setLatch 3 255 255).blindFor)).shutdown) t)) ∧
    (s.up = true → s.sqMode p ≠ 3 → (∃ t, exec (.sqPgFilter p level) s = .next t ∧ Settles (s.mark Reg.SQ_CFG_IN p level) t)) ∧
    (s.up = true → s.sqMode p = 3 → s.is Hid.SQ_PG p ≠ level →
      (∃ t, exec (.sqPgFilter p level) s = .next t ∧ Settles (((s.mark Reg.SQ_CFG_IN p level).mark Hid.SQ_PG p level).pgChange p level) t)) ∧
    (∀ q, s.up = true → s.railOf 2 p = some q → s.rail q = 1 → s.hasChan q = false → s.hasPg q = false →
      (∃ t, exec (.sqRailGoodDelay p) s = .next t ∧ Settles (s.becomeGood q) t)) ∧
    (Permitted s w 0x80C 2 → ∃ t, exec (.latchClear w) s = .next t ∧ Settles ({ (s.arrive w) with bkq := (s.arrive w).bkq ++ [(0x80C, 2)] }) t) ∧
    (Permitted s w 0x80C 4 → ∃ t, exec (.daybookAck w) s = .next t ∧ Settles ({ (s.arrive w) with bkq := (s.arrive w).bkq ++ [(0x80C, 4)] }) t)

/-- The Daybook (R150, R155 to R157). The model's own readings in it: logs 3, 11, 17, 22, 40 and 41. -/
def Obligations.DaybookWritesAndReads : Prop :=
  ∀ (s : State) (w : Writer) (v : Word) (ok : Bool) (rec : Fin 16),
    (s.carries = true → s.get Hid.NVM_JOB 0 = 2 → (∃ t, exec (.daybookUnitWriteDone ok) s = .next t ∧ Settles ((s.daybookUnit ok).2) t)) ∧
    (s.vao = true → (∃ t, exec .daybookToken s = .next t ∧
      t.get Reg.DBK_STAT_TOKENS 0 = min 64 (s.get Reg.DBK_STAT_TOKENS 0 + 1) ∨ 64 < s.get Reg.DBK_STAT_TOKENS 0)) ∧
    (s.vao = true → s.timedIsDue = true → (∃ u t, exec .timedRecord s = .next t ∧ Settles u t ∧
      (let b := s.put Hid.TIMED_T 0 (s.get Hid.TIMED_T 0 + s.get Reg.DBK_CFG_TIMED_S 0 * 2 ^ 15)
      u = (b.demand.stageOther none (b.build tyTimed 0 b.dbkMask 255 255 [] [])).2))) ∧
    (Permitted s w 0x840 v.toNat → ∃ t, exec (.dbkCfgWrite w v) s = .next t ∧ Settles ((s.arrive w).storeKpr w 0x840 v.toNat) t) ∧
    (Permitted s w 0x84C 1 → ∃ t, exec (.hostSnapshot w) s = .next t ∧ Settles ((s.arrive w).snapGo w) t) ∧
    (s.linked w = true →
      (∃ t, exec (.daybookCrcRead w rec) s = .next t ∧
        Settles ({ (s.arrive w).dbkSeen (0xC3FC + 0x400 * rec) with out := [BitVec.ofNat 32 ((s.arrive w).dbkRead (0xC3FC + 0x400 * rec))] }) t))

/- Tarragon instructions. -/

/-- The ALU instructions (R189) and their shifts (R190): each gives its result, its flags and nothing else, s0 as destination included. -/
def Obligations.AluInstructionsFollowTheirTables : Prop :=
  ∀ (s : State) (st : Stl), Ready s st → ∀ (rd ra rb : RegN) (imm : BitVec 14),
    let a := s.reg st ra
    let b := s.reg st rb
    let i : Word := imm.signExtend 32
    let z : Word := imm.setWidth 32
    let c := s.is Hid.S_C st
    let v := s.is Hid.S_V st
    let ovf (x y : Word) : Bool := x.msb == y.msb && (x + y).msb != x.msb
    let unf (x y : Word) : Bool := x.msb != y.msb && (x - y).msb != x.msb
    let shl (k : Nat) (u : State) : Prop :=
      AluDone s st rd (BitVec.ofNat 32 (a.toNat * 2 ^ k)) (k != 0 && decide (k ≤ 32) && a.toNat.testBit (32 - k)) v u
    let shr (k : Nat) (u : State) : Prop := AluDone s st rd (BitVec.ofNat 32 (a.toNat / 2 ^ k)) (k != 0 && a.toNat.testBit (k - 1)) v u
    let asr (k : Nat) (u : State) : Prop :=
      AluDone s st rd (BitVec.ofInt 32 (a.toInt / 2 ^ k)) (k != 0 && a.toNat.testBit (if k ≤ 32 then k - 1 else 31)) v u
    (∃ u t, exec (.tAdd st rd ra rb) s = .next t ∧ Settles u t ∧ AluDone s st rd (a + b) (decide (2 ^ 32 ≤ a.toNat + b.toNat)) (ovf a b) u) ∧
    (∃ u t, exec (.tAddi st rd ra imm) s = .next t ∧ Settles u t ∧ AluDone s st rd (a + i) (decide (2 ^ 32 ≤ a.toNat + i.toNat)) (ovf a i) u) ∧
    (∃ u t, exec (.tSub st rd ra rb) s = .next t ∧ Settles u t ∧ AluDone s st rd (a - b) (decide (b.toNat ≤ a.toNat)) (unf a b) u) ∧
    (∃ u t, exec (.tCmp st ra rb) s = .next t ∧ Settles u t ∧ u.is Hid.S_Z st = (a - b == 0) ∧
      AluDone s st 0 (a - b) (decide (b.toNat ≤ a.toNat)) (unf a b) u) ∧
    (∃ u t, exec (.tCmpi st ra imm) s = .next t ∧ Settles u t ∧ AluDone s st 0 (a - i) (decide (i.toNat ≤ a.toNat)) (unf a i) u) ∧
    (∃ u t, exec (.tAnd st rd ra rb) s = .next t ∧ Settles u t ∧ AluDone s st rd (a &&& b) c v u) ∧
    (∃ u t, exec (.tOr st rd ra rb) s = .next t ∧ Settles u t ∧ AluDone s st rd (a ||| b) c v u) ∧
    (∃ u t, exec (.tXor st rd ra rb) s = .next t ∧ Settles u t ∧ AluDone s st rd (a ^^^ b) c v u) ∧
    (∃ u t, exec (.tAndi st rd ra imm) s = .next t ∧ Settles u t ∧ AluDone s st rd (a &&& z) c v u) ∧
    (∃ u t, exec (.tOri st rd ra imm) s = .next t ∧ Settles u t ∧ AluDone s st rd (a ||| z) c v u) ∧
    (∃ u t, exec (.tXori st rd ra imm) s = .next t ∧ Settles u t ∧ AluDone s st rd (a ^^^ z) c v u) ∧
    (∃ u t, exec (.tShl st rd ra rb) s = .next t ∧ Settles u t ∧ shl (b.toNat % 256) u) ∧
    (∃ u t, exec (.tShr st rd ra rb) s = .next t ∧ Settles u t ∧ shr (b.toNat % 256) u) ∧
    (∃ u t, exec (.tAsr st rd ra rb) s = .next t ∧ Settles u t ∧ asr (b.toNat % 256) u) ∧
    (imm.toNat < 32 →
      (∃ u t, exec (.tShli st rd ra imm) s = .next t ∧ Settles u t ∧ shl imm.toNat u) ∧
        (∃ u t, exec (.tShri st rd ra imm) s = .next t ∧ Settles u t ∧ shr imm.toNat u) ∧
          (∃ u t, exec (.tAsri st rd ra imm) s = .next t ∧ Settles u t ∧ asr imm.toNat u))

/-- MUL16, LDI and LUI (R191, R192), and RDT (R166). -/
def Obligations.ProductsConstantsAndTime : Prop :=
  ∀ (s : State) (st : Stl), Ready s st → ∀ (rd ra rb : RegN) (imm : BitVec 20),
    (∃ u t, exec (.tMul16 st rd ra rb) s = .next t ∧ Settles u t ∧ (∃ p : Word, p.toNat = (s.reg st ra).toNat % 2 ^ 16 * ((s.reg st rb).toNat % 2 ^ 16) ∧
      AluDone s st rd p (s.is Hid.S_C st) (s.is Hid.S_V st) u)) ∧
    (∃ u t, exec (.tLdi st rd imm) s = .next t ∧ Settles u t ∧ (∃ w : Word, w.toNat = imm.toNat ∧ Loaded s st rd w u)) ∧
    (∃ u t, exec (.tLui st rd imm) s = .next t ∧ Settles u t ∧ (∃ w : Word, w.toNat = imm.toNat * 4096 ∧ Loaded s st rd w u)) ∧
    (∃ u t, exec (.tRdt st rd) s = .next t ∧ Settles u t ∧ Loaded s st rd (BitVec.ofNat 32 s.tnow) u)

/-- LD and ST (R193): the word at ra + 4 × imm14, little-endian, an address that the exact sum gives; a misaligned one or one above 0xFFFC faults. -/
def Obligations.LoadAndStoreWords : Prop :=
  ∀ (s : State) (st : Stl), Ready s st → ∀ (rd ra : RegN) (imm : BitVec 14),
    let a := (s.reg st ra).toNat + 4 * imm.toNat
    (a % 4 = 0 → a ≤ 0xFFFC →
      (∃ u t, exec (.tLd st rd ra imm) s = .next t ∧ Settles u t ∧ Loaded s st rd (wordAt s.sdata a) u) ∧
      (∃ u t, exec (.tSt st rd ra imm) s = .next t ∧ Settles u t ∧ wordAt u.sdata a = s.reg st rd ∧ Stored s st a 1 u)) ∧
    (a % 4 ≠ 0 → (∃ u t, exec (.tLd st rd ra imm) s = .next t ∧ Settles u t ∧ Faulted s st 3 u) ∧
      (∃ u t, exec (.tSt st rd ra imm) s = .next t ∧ Settles u t ∧ Faulted s st 3 u)) ∧
    (a % 4 = 0 → 0xFFFC < a → (∃ u t, exec (.tLd st rd ra imm) s = .next t ∧ Settles u t ∧ Faulted s st 4 u) ∧
      (∃ u t, exec (.tSt st rd ra imm) s = .next t ∧ Settles u t ∧ Faulted s st 4 u))

/-- COPYB (R194) and MEASB (R202): n words, the source block or the channels in ascending order, and no byte outside the destination block. -/
def Obligations.BlocksCopiedAndMeasured : Prop :=
  ∀ (s : State) (st : Stl), Ready s st → ∀ (rd ra rb : RegN),
    let dst := (s.reg st rd).toNat
    let src := (s.reg st ra).toNat
    let n := (s.reg st rb).toNat
    (0 < n → dst % 4 = 0 → src % 4 = 0 → dst + 4 * n ≤ 0x10000 → src + 4 * n ≤ 0x10000 → (dst + 4 * n ≤ src ∨ src + 4 * n ≤ dst) →
      (∃ u t, exec (.tCopyb st rd ra rb) s = .next t ∧ Settles u t ∧ ((∀ i, i < n → wordAt u.sdata (dst + 4 * i) = wordAt s.sdata (src + 4 * i)) ∧
        Stored s st dst n u))) ∧
    (0 < n → dst % 4 = 0 → dst + 4 * n ≤ 0x10000 → src + n ≤ 192 →
      (∃ u t, exec (.tMeasb st rd ra rb) s = .next t ∧ Settles u t ∧ ((∀ i, i < n → wordAt u.sdata (dst + 4 * i) = s.chData (src + i)) ∧
        Stored s st dst n u)))

/-- MEAS and JUDGE (R201, R203): the value of a channel, or its whole word with its zone in the flags; a channel above 191 faults. -/
def Obligations.ChannelsMeasuredAndJudged : Prop :=
  ∀ (s : State) (st : Stl), Ready s st → ∀ (rd ra : RegN) (imm : BitVec 14),
    let c := (s.reg st ra).toNat + imm.toNat
    let zone := s.get Reg.CH_DATA_ZONE c
    (c ≤ 191 →
      (∃ u t, exec (.tMeas st rd ra imm) s = .next t ∧ Settles u t ∧ Loaded s st rd (BitVec.ofNat 32 (s.get Reg.CH_DATA_VALUE c)) u) ∧
      (∃ u t, exec (.tJudge st rd ra imm) s = .next t ∧ Settles u t ∧ u.reg st rd = landed rd (s.chData c) ∧ u.is Hid.S_Z st = (zone == 0) ∧
        u.is Hid.S_N st = (zone == 2 || zone == 4) ∧
        u.is Hid.S_C st = (zone == 1 || zone == 2) ∧ u.pc st = s.pc st + 1 ∧
        Changes s u (pcKeys st ++ [Hid.S_Z.key st, Hid.S_N.key st, Hid.S_C.key st] ++ regKeys st rd))) ∧
    (191 < c → (∃ u t, exec (.tMeas st rd ra imm) s = .next t ∧ Settles u t ∧ Faulted s st 7 u) ∧
      (∃ u t, exec (.tJudge st rd ra imm) s = .next t ∧ Settles u t ∧ Faulted s st 7 u))

/-- BR, CALL, RET and JR (R197): the target is the instruction's own address and the offset; a return address goes onto the call stack and comes
back; a depth of 8 or 0, and a target outside the memory, fault. The model's own readings in it: log 15. -/
def Obligations.ControlTransfers : Prop :=
  ∀ (s : State) (st : Stl), s.executes st = true → s.mmArmed st = false → ∀ (cond : BitVec 4) (off : BitVec 20) (ra : RegN),
    let a := s.pc st
    let t : Int := (a : Int) + off.toInt
    let taken := condHolds (s.is Hid.S_Z st) (s.is Hid.S_N st) (s.is Hid.S_C st) (s.is Hid.S_V st) (s.is Hid.S_REF st) cond.toNat
    let d := s.get Hid.S_CSD st
    (taken = true → 0 ≤ t → t ≤ 0x1FFF →
      (∃ u t', exec (.tBr st cond off) s = .next t' ∧ Settles u t' ∧ Passed s st t.toNat u) ∧
      (d < 8 → a < 0x1FFF → (∃ u t', exec (.tCall st cond off) s = .next t' ∧ Settles u t' ∧ u.pc st = t.toNat ∧ u.get Hid.S_CSD st = d + 1 ∧
        u.get Hid.S_CS (8 * st + d) = a + 1 ∧
        Changes s u (pcKeys st ++ [Hid.S_CSD.key st, Hid.S_CS.key (8 * st + d)]))) ∧
      (d = 8 → (∃ u t, exec (.tCall st cond off) s = .next t ∧ Settles u t ∧ Faulted s st 5 u))) ∧
    (taken = true → (t < 0 ∨ 0x1FFF < t) → (∃ u t, exec (.tBr st cond off) s = .next t ∧ Settles u t ∧ Faulted s st 2 u) ∧
      (∃ u t, exec (.tCall st cond off) s = .next t ∧ Settles u t ∧ Faulted s st 2 u)) ∧
    (taken = false → a < 0x1FFF → (∃ u t, exec (.tBr st cond off) s = .next t ∧ Settles u t ∧ Passed s st (a + 1) u) ∧
      (∃ u t, exec (.tCall st cond off) s = .next t ∧ Settles u t ∧ Passed s st (a + 1) u)) ∧
    (0 < d → d ≤ 8 → s.get Hid.S_CS (8 * st + (d - 1)) ≤ 0x1FFF → (∃ u t, exec (.tRet st) s = .next t ∧ Settles u t ∧
      u.pc st = s.get Hid.S_CS (8 * st + (d - 1)) ∧ u.get Hid.S_CSD st = d - 1 ∧ Changes s u (pcKeys st ++ [Hid.S_CSD.key st]))) ∧
    (d = 0 → (∃ u t, exec (.tRet st) s = .next t ∧ Settles u t ∧ Faulted s st 6 u)) ∧
    ((s.reg st ra).toNat ≤ 0x1FFF → (∃ u t, exec (.tJr st ra) s = .next t ∧ Settles u t ∧ Passed s st (s.reg st ra).toNat u)) ∧
    (0x1FFF < (s.reg st ra).toNat → (∃ u t, exec (.tJr st ra) s = .next t ∧ Settles u t ∧ Faulted s st 2 u))

/-- A block count of zero (R212): MEASB, LOGB and COPYB write nothing but PC, whatever their other operands. HALT (R185): it retires, the identity halts, and nothing else changes. -/
def Obligations.ZeroCountsDoNothingAndHaltStops : Prop :=
  (∀ (s : State) (st : Stl), Ready s st → ∀ (rd ra rb : RegN), s.reg st rb = 0 →
    (∃ u t, exec (.tMeasb st rd ra rb) s = .next t ∧ Settles u t ∧ Passed s st (s.pc st + 1) u) ∧
    (∃ u t, exec (.tLogb st rd ra rb) s = .next t ∧ Settles u t ∧ Passed s st (s.pc st + 1) u) ∧
    (∃ u t, exec (.tCopyb st rd ra rb) s = .next t ∧ Settles u t ∧ Passed s st (s.pc st + 1) u)) ∧
  (∀ (s : State) (st : Stl), Ready s st →
    (∃ u t, exec (.tHalt st) s = .next t ∧ Settles u t ∧ u.sl st = slHalt ∧ u.pc st = s.pc st + 1 ∧ Changes s u (pcKeys st ++ [Reg.STL_STAT_STATE.key st])))

/-- The first evaluation of WAIT, WAITT and YIELD (R178, R179, R183): a condition that holds ends the wait with Z = 0; an imm16 of 0, or a deadline
reached, ends it with Z = 1; otherwise the identity waits, with WAIT_DL as the rule sets it. YIELD writes no flag. The model's own readings in it: log 18. -/
def Obligations.WaitsAtFirstEvaluation : Prop :=
  ∀ (s : State) (st : Stl), Ready s st → s.standby = false → ∀ (inv : Bool) (sel : BitVec 5) (ra : RegN) (imm : BitVec 16), sel.toNat ≤ 20 →
    let r := (s.reg st ra).toNat
    let now := s.get Reg.SCN_COUNT_COUNT 0 % 2 ^ 32
    let ends (z : Bool) (u : State) : Prop :=
      u.is Hid.S_Z st = z ∧ u.pc st = s.pc st + 1 ∧ u.sl st = slRun ∧ u.get Hid.S_WDLV st = 0 ∧
      Changes s u (pcKeys st ++ [Hid.S_Z.key st, Hid.S_WKIND.key st, Hid.S_WSEL.key st, Hid.S_WINV.key st, Hid.S_WPAR.key st, Hid.S_WSCN.key st,
        Hid.S_WDL.key st, Hid.S_WDLV.key st, Reg.STL_STAT_STATE.key st])
    let waits (dl : Option Nat) (u : State) : Prop :=
      u.sl st = slWait ∧ u.pc st = s.pc st ∧ u.get Hid.S_WDLV st = (if dl.isSome then 1 else 0) ∧
      (∀ d, dl = some d → u.get Hid.S_WDL st = d % 2 ^ 32) ∧
      Changes s u [Hid.S_WKIND.key st, Hid.S_WSEL.key st, Hid.S_WINV.key st, Hid.S_WPAR.key st, Hid.S_WSCN.key st, Hid.S_WDL.key st,
        Hid.S_WDLV.key st, Reg.STL_STAT_STATE.key st]
    (paramBad sel.toNat r = false →
      let holds := s.waitCond st sel.toNat r now != inv
      (holds = true → (∃ u t, exec (.tWait st inv sel ra imm) s = .next t ∧ Settles u t ∧ ends false u)) ∧
      (holds = false → imm.toNat = 0 → (∃ u t, exec (.tWait st inv sel ra imm) s = .next t ∧ Settles u t ∧ ends true u)) ∧
      (holds = false → imm.toNat ≠ 0 → (∃ u t, exec (.tWait st inv sel ra imm) s = .next t ∧ Settles u t ∧
        waits (if imm.toNat = 0xFFFF then none else some (s.tnow + imm.toNat)) u))) ∧
    (paramBad sel.toNat imm.toNat = false →
      let holds := s.waitCond st sel.toNat imm.toNat now != inv
      (holds = true → (∃ u t, exec (.tWaitt st inv sel ra imm) s = .next t ∧ Settles u t ∧ ends false u)) ∧
      (holds = false → reached s.tnow r = true → (∃ u t, exec (.tWaitt st inv sel ra imm) s = .next t ∧ Settles u t ∧ ends true u)) ∧
      (holds = false → reached s.tnow r = false → (∃ u t, exec (.tWaitt st inv sel ra imm) s = .next t ∧ Settles u t ∧ waits (some r) u))) ∧
    (let holds := (s.irqFor st 0 || !(s.mbox st).isEmpty)
     (holds = true → (∃ u t, exec (.tYield st) s = .next t ∧ Settles u t ∧ ends (s.is Hid.S_Z st) u)) ∧
     (holds = false → (∃ u t, exec (.tYield st) s = .next t ∧ Settles u t ∧ waits none u)))

/-- A wait that ends later (R178, R183): WAIT_RESUME by its condition, with Z = 0; WAIT_TIMEOUT once TNOW has passed WAIT_DL (WAIT) or reached it
(WAITT), with Z = 1 unless the condition holds; a YIELD's end writes no flag. The model's own readings in it: log 11. -/
def Obligations.WaitsEndLater : Prop :=
  ∀ (s : State) (st : Stl),
    let ends (b : State) (z : Bool) (u : State) : Prop :=
      u.is Hid.S_Z st = (if b.get Hid.S_WKIND st = 3 then b.is Hid.S_Z st else z) ∧ u.pc st = b.pc st + 1 ∧ u.sl st = slRun ∧
      u.get Hid.S_WDLV st = 0 ∧
      Changes b u (pcKeys st ++ [Hid.S_Z.key st, Hid.S_WKIND.key st, Hid.S_WDLV.key st, Reg.STL_STAT_STATE.key st])
    let ready (b : State) : Prop := b.waits st = true ∧ b.standby = false ∧ b.mmArmed st = false ∧ b.pc st < 0x1FFF
    (ready s → s.waitOver st = true → (∃ u t, exec (.waitResume st) s = .next t ∧ Settles u t ∧ ends s false u)) ∧
    (s.waits st = true → s.is Hid.S_WDLV st = true →
      let due := (s.get Hid.S_WDL st + (if s.get Hid.S_WKIND st = 1 then 1 else 0)) % 2 ^ 32
      let b := if reached s.tnow due then s else s.passTime (diff32 due s.tnow)
      ready b → (∃ u t, exec (.waitTimeout st) s = .next t ∧ Settles u t ∧ ends b (!b.waitOver st) u))

/-- A word that is no instruction (R186): it faults as ILLEGAL; a word that is one is none of this command's. Opcodes 0x00 and 0x31 to 0x3F are unassigned (R171): no word with one of them is an instruction, whatever its other bits. The model's own readings in it: log 14. -/
def Obligations.UnassignedWordsAreNoInstructions : Prop :=
  (∀ (s : State) (st : Stl) (w : Word),
    (decode st w = none → s.executes st = true → s.mmArmed st = false → (∃ u t, exec (.unassignedOpcode st w) s = .next t ∧ Settles u t ∧ Faulted s st 1 u)) ∧
    ((decode st w).isSome = true → exec (.unassignedOpcode st w) s = .next s)) ∧
  (∀ (st : Stl) (w : Word), w.toNat / 2 ^ 26 = 0 ∨ 0x30 < w.toNat / 2 ^ 26 → decode st w = none)

/-- An instruction at the last word of the memory (R163, R186): one that would be followed by the next faults as PC_RANGE, whatever else is wrong
with it but an ILLEGAL form. The model's own readings in it: log 15. -/
def Obligations.SteppingPastTheLastWordFaults : Prop :=
  ∀ (s : State) (st : Stl), s.executes st = true → s.mmArmed st = false → s.pc st = 0x1FFF →
    ∀ (rd ra rb : RegN) (imm : BitVec 14) (k : BitVec 20) (i : Instr),
      i ∈ [Instr.tAdd st rd ra rb, .tSub st rd ra rb, .tCmp st ra rb, .tMul16 st rd ra rb, .tLdi st rd k, .tLui st rd k, .tRdt st rd,
        .tLd st rd ra imm, .tSt st rd ra imm, .tCopyb st rd ra rb, .tMeas st rd ra imm, .tMeasb st rd ra rb, .tJudge st rd ra imm,
        .tPin st rd ra imm, .tPout st rd ra imm, .tLog st rd ra imm, .tLogb st rd ra rb, .tRaise st ra imm, .tSend st rd ra imm,
        .tRecv st rd imm, .tSeal st, .tYield st, .tHalt st] →
      (∃ u t, exec i s = .next t ∧ Settles u t ∧ Faulted s st 2 u)

/-- The other faults of R186, each the lowest code of what is wrong: a reserved class, selector or shift form is ILLEGAL; a misaligned block or mask
is DATA_ALIGN before it is DATA_RANGE, and a count, an overlap or a parameter is BAD_PARAM last. The model's own readings in it: log 15. -/
def Obligations.BadOperandsFault : Prop :=
  ∀ (s : State) (st : Stl), Ready s st → ∀ (rd ra rb : RegN) (imm : BitVec 14) (cls : BitVec 4) (unit : BitVec 8) (sel : BitVec 5) (inv : Bool)
      (t : BitVec 16),
    let dst := (s.reg st rd).toNat
    let src := (s.reg st ra).toNat
    let n := (s.reg st rb).toNat
    (32 ≤ imm.toNat → (∃ u t, exec (.tShli st rd ra imm) s = .next t ∧ Settles u t ∧ Faulted s st 1 u) ∧
      (∃ u t, exec (.tShri st rd ra imm) s = .next t ∧ Settles u t ∧ Faulted s st 1 u) ∧
      (∃ u t, exec (.tAsri st rd ra imm) s = .next t ∧ Settles u t ∧ Faulted s st 1 u)) ∧
    (cls.toNat = 0 ∨ 5 < cls.toNat → (∃ u t, exec (.tRamp st cls unit ra) s = .next t ∧ Settles u t ∧ Faulted s st 1 u) ∧
      (∃ u t, exec (.tEnab st cls unit) s = .next t ∧ Settles u t ∧ Faulted s st 1 u) ∧
      (∃ u t, exec (.tDisb st cls unit) s = .next t ∧ Settles u t ∧ Faulted s st 1 u) ∧
        (∃ u t, exec (.tFence st cls unit) s = .next t ∧ Settles u t ∧ Faulted s st 1 u) ∧
          (∃ u t, exec (.tAdmit st cls unit) s = .next t ∧ Settles u t ∧ Faulted s st 1 u)) ∧
    (20 < sel.toNat → (∃ u t', exec (.tWait st inv sel ra t) s = .next t' ∧ Settles u t' ∧ Faulted s st 1 u) ∧
      (∃ u t', exec (.tWaitt st inv sel ra t) s = .next t' ∧ Settles u t' ∧ Faulted s st 1 u)) ∧
    (sel.toNat ≤ 20 → paramBad sel.toNat src = true → (∃ u t', exec (.tWait st inv sel ra t) s = .next t' ∧ Settles u t' ∧ Faulted s st 7 u)) ∧
    (sel.toNat ≤ 20 → paramBad sel.toNat t.toNat = true → (∃ u t', exec (.tWaitt st inv sel ra t) s = .next t' ∧ Settles u t' ∧ Faulted s st 7 u)) ∧
    (0 < n → dst % 4 ≠ 0 → (∃ u t, exec (.tCopyb st rd ra rb) s = .next t ∧ Settles u t ∧ Faulted s st 3 u) ∧
      (∃ u t, exec (.tMeasb st rd ra rb) s = .next t ∧ Settles u t ∧ Faulted s st 3 u) ∧
      (∃ u t, exec (.tLogb st rd ra rb) s = .next t ∧ Settles u t ∧ Faulted s st 3 u)) ∧
    (0 < n → dst % 4 = 0 → 0x10000 < dst + 4 * n → (∃ u t, exec (.tMeasb st rd ra rb) s = .next t ∧ Settles u t ∧ Faulted s st 4 u) ∧
      (src % 4 = 0 → (∃ u t, exec (.tCopyb st rd ra rb) s = .next t ∧ Settles u t ∧ Faulted s st 4 u) ∧
        (∃ u t, exec (.tLogb st rd ra rb) s = .next t ∧ Settles u t ∧ Faulted s st 4 u))) ∧
    (0 < n → dst % 4 = 0 → src % 4 = 0 → dst + 4 * n ≤ 0x10000 → src + 4 * n ≤ 0x10000 → src < dst + 4 * n → dst < src + 4 * n →
      (∃ u t, exec (.tCopyb st rd ra rb) s = .next t ∧ Settles u t ∧ Faulted s st 7 u)) ∧
    (0 < n → dst % 4 = 0 → dst + 4 * n ≤ 0x10000 → 192 < src + n → (∃ u t, exec (.tMeasb st rd ra rb) s = .next t ∧ Settles u t ∧ Faulted s st 7 u)) ∧
    (ra = 0 → 30 < n → dst % 4 = 0 → dst + 4 * n ≤ 0x10000 → (∃ u t, exec (.tLogb st rd ra rb) s = .next t ∧ Settles u t ∧ Faulted s st 7 u)) ∧
    (ra ≠ 0 → src % 4 ≠ 0 → (∃ u t, exec (.tLog st rd ra imm) s = .next t ∧ Settles u t ∧ Faulted s st 3 u)) ∧
    (ra ≠ 0 → src % 4 = 0 → 0xFFE8 < src → (∃ u t, exec (.tLog st rd ra imm) s = .next t ∧ Settles u t ∧ Faulted s st 4 u))

/-- PIN (R195): the register as the fabric reads it lands in rd. One that does not act on read changes nothing else; the count of a running timer
reads all ones with RD_RUN_ERR (R363); one that acts on read carries a new issue number (R175) and acts once. POUT (R196, R165): a write that the protection map permits acts and is confirmed; one that it denies is refused, reported, and without effect. The model's own readings in it: logs 16, 17 and 24. -/
def Obligations.PortReadsAndWrites : Prop :=
  (∀ (s : State) (st : Stl), Ready s st → ∀ (rd ra : RegN) (imm : BitVec 14),
    let a := ((s.reg st ra).toNat + 4 * imm.toNat) % 2 ^ 16 / 4 * 4
    (actsOnRead a = false → (∀ n, cntTimer a = some n → s.tmRun n = false) →
      (∃ u t, exec (.tPin st rd ra imm) s = .next t ∧ Settles u t ∧ Loaded s st rd (BitVec.ofNat 32 (s.peek a)) u)) ∧
    (∀ n, cntTimer a = some n → s.tmRun n = true → (∃ t, exec (.tPin st rd ra imm) s = .next t ∧
      Settles (((s.put Reg.TM_STAT_RD_RUN_ERR n 1).setReg st rd 0xFFFFFFFF).retire st) t)) ∧
    (actsOnRead a = true → New s st 1 →
      let b := ((s.retire st).newRecord st 1).put Hid.S_ISN st (s.nextIsn st)
      let r := b.busRead (.stl st) a
      (∃ t, exec (.tPin st rd ra imm) s = .next t ∧
        Settles ((if r.1 = 0 then r.2 else r.2.put Hid.CP_DAT (4 + st) r.1).setReg st rd (BitVec.ofNat 32 r.1)) t))) ∧
  (∀ (s : State) (st : Stl), Ready s st → New s st 1 → ∀ (rd ra : RegN) (imm : BitVec 14),
    let a := ((s.reg st ra).toNat + 4 * imm.toNat) % 2 ^ 16 / 4 * 4
    let v := (s.reg st rd).toNat
    let b := s.issue st 1
    (b.denied (.stl st) a v = false →
      (∃ t, exec (.tPout st rd ra imm) s = .next t ∧ Settles (b.store (.stl st) a v) t)) ∧
    (b.denied (.stl st) a v = true →
      (∃ t, exec (.tPout st rd ra imm) s = .next t ∧ Settles (((b.reportRefused (.stl st) a).put Hid.CP_REF (4 + st) 1).put Hid.S_REF st 1) t)))

/-- The rail instructions confirmed (R198, R139): issued for the first time, with a class and unit that the table lists, and with no refusal case of
R139 or R199, each has its effect at the Keeper and retires with REFUSED 0. The model's own readings in it: logs 16, 33 and 42. -/
def Obligations.RailActionsConfirmed : Prop :=
  ∀ (s : State) (st : Stl), Ready s st → New s st 0 → ∀ (cls : BitVec 4) (unit : BitVec 8) (rp : RegN) (k n : Nat),
    let b := s.issue st 0
    let p := (s.reg st rp).toNat
    (cls = 1 → unit.toNat < 8 → b.whyRamp st unit.toNat p = 0 →
      (∃ t, exec (.tRamp st cls unit rp) s = .next t ∧ Settles (b.doRamp unit.toNat p) t)) ∧
    (railUnit cls unit = some (k, n) → b.whyEnab st k n = 0 → (∃ t, exec (.tEnab st cls unit) s = .next t ∧ Settles (b.doEnab k n) t)) ∧
    (railUnit cls unit = some (k, n) → b.whyDisb st k n = 0 → (∃ t, exec (.tDisb st cls unit) s = .next t ∧ Settles (b.doDisb k n) t)) ∧
    (fenceUnitOf cls unit = some n → b.whyFence st n = 0 → (∃ t, exec (.tFence st cls unit) s = .next t ∧ Settles (b.doFence n) t)) ∧
    (fenceUnitOf cls unit = some n → b.whyAdmit st n = 0 → (∃ t, exec (.tAdmit st cls unit) s = .next t ∧ Settles (b.doAdmit n) t))

/-- The rail instructions refused (R139, R172 to R174): the reason and the rail stand in KPR_STAT, RAIL_REFUSED is raised, REFUSED is 1, and nothing
outside the stall changes but these. A class or unit that the instruction does not name refuses with reason 1. The model's own readings in it: log 16. -/
def Obligations.RailActionsRefused : Prop :=
  ∀ (s : State) (st : Stl), Ready s st → New s st 0 → ∀ (cls : BitVec 4) (unit : BitVec 8) (rp : RegN) (k n : Nat), 1 ≤ cls.toNat → cls.toNat ≤ 5 →
    let b := s.issue st 0
    let p := (s.reg st rp).toNat
    let refused (why : Nat) (r : Option Nat) (u : State) : Prop :=
      u = ((b.put Reg.KPR_STAT_REF_WHY 0 why).put Reg.KPR_STAT_REF_RAIL 0 (r.getD 255)).refusedBy st 0 79
    (cls = 1 → unit.toNat < 8 → b.whyRamp st unit.toNat p ≠ 0 →
      (∃ u t, exec (.tRamp st cls unit rp) s = .next t ∧ Settles u t ∧ refused (b.whyRamp st unit.toNat p) (b.railOf 1 unit.toNat) u)) ∧
    (cls ≠ 1 ∨ 8 ≤ unit.toNat → (∃ u t, exec (.tRamp st cls unit rp) s = .next t ∧ Settles u t ∧ refused 1 none u)) ∧
    (railUnit cls unit = some (k, n) →
      (b.whyEnab st k n ≠ 0 → (∃ u t, exec (.tEnab st cls unit) s = .next t ∧ Settles u t ∧ refused (b.whyEnab st k n) (b.railOf k n) u)) ∧
      (b.whyDisb st k n ≠ 0 → (∃ u t, exec (.tDisb st cls unit) s = .next t ∧ Settles u t ∧ refused (b.whyDisb st k n) (b.railOf k n) u))) ∧
    (railUnit cls unit = none → (∃ u t, exec (.tEnab st cls unit) s = .next t ∧ Settles u t ∧ refused 1 none u) ∧
      (∃ u t, exec (.tDisb st cls unit) s = .next t ∧ Settles u t ∧ refused 1 none u)) ∧
    (fenceUnitOf cls unit = some n →
      (b.whyFence st n ≠ 0 → (∃ u t, exec (.tFence st cls unit) s = .next t ∧ Settles u t ∧ refused (b.whyFence st n) (b.unitRail n) u)) ∧
      (b.whyAdmit st n ≠ 0 → (∃ u t, exec (.tAdmit st cls unit) s = .next t ∧ Settles u t ∧ refused (b.whyAdmit st n) (b.unitRail n) u))) ∧
    (fenceUnitOf cls unit = none → (∃ u t, exec (.tFence st cls unit) s = .next t ∧ Settles u t ∧ refused 1 none u) ∧
      (∃ u t, exec (.tAdmit st cls unit) s = .next t ∧ Settles u t ∧ refused 1 none u))

/-- LOG and LOGB (R204 to R206): a PROG record is staged with the bytes of rd, or of the block, and its log id; inside SRC_GAP it counts as a repeat;
with fewer than five records free, or no token, it is refused, and PROG_REFUSED is raised. The model's own readings in it: log 20. -/
def Obligations.ProgramsLog : Prop :=
  ∀ (s : State) (st : Stl), Ready s st → New s st 2 → ∀ (rd ra rb : RegN) (imm : BitVec 14),
    let b := s.issue st 2
    let src := (s.reg st ra).toNat
    let dst := (s.reg st rd).toNat
    let n := (s.reg st rb).toNat
    let mask := if ra = 0 then s.dbkMask else leAt s.sdata src 24
    let staged (id : Nat) (user : List (BitVec 8)) (u : State) : Prop :=
      let r := b.build tyProg (1 + s.phys st) mask 255 255 (leBytes 2 id) user
      let key := 256 + 65536 * st.val + id
      (16 < s.staging.length + 5 ∨ s.get Reg.DBK_STAT_TOKENS 0 = 0 → u = (b.dropped).refusedBy st 2 80) ∧
      (s.staging.length + 5 ≤ 16 → s.get Reg.DBK_STAT_TOKENS 0 ≠ 0 →
        (∀ g, s.gapOf key = some g → s.inGap g = true → u = b.setGap { g with rep := g.rep + 1 }) ∧
        (∀ g, s.gapOf key = some g → s.inGap g = false →
          u = (b.setGap { src := key, last := s.tick, rep := 0 }).append { r with rep := min 0xFFFF g.rep }) ∧
        (s.gapOf key = none → u = (b.setGap { src := key, last := s.tick, rep := 0 }).append r))
    (ra = 0 ∨ (src % 4 = 0 ∧ src ≤ 0xFFE8)) →
      (∃ u t, exec (.tLog st rd ra imm) s = .next t ∧ Settles u t ∧ staged imm.toNat (leBytes 4 dst) u) ∧
      (0 < n → n ≤ 30 → dst % 4 = 0 → dst + 4 * n ≤ 0x10000 →
        (∃ u t, exec (.tLogb st rd ra rb) s = .next t ∧ Settles u t ∧ staged (leAt s.sdata dst 2) (bytesAt s.sdata dst (4 * n)) u))

/-- RAISE, SEND, RECV and SEAL (R207 to R210): what each does where it is confirmed, and its refusal, which raises PROG_REFUSED. The model's own readings in it: logs 16 and 20. -/
def Obligations.EventsMailboxesAndSeal : Prop :=
  ∀ (s : State) (st : Stl), Ready s st → ∀ (rd ra : RegN) (imm : BitVec 14),
    let n := (s.reg st ra).toNat + imm.toNat
    let m := (s.mail.filter (fun e => e.1 == st.val)).map Prod.snd
    (New s st 3 →
      (n ≤ 127 → s.is Reg.LS_CFG_RAISABLE n = true → (∃ t, exec (.tRaise st ra imm) s = .next t ∧ Settles ((s.issue st 3).raise n) t)) ∧
      (127 < n ∨ s.is Reg.LS_CFG_RAISABLE n = false → (∃ t, exec (.tRaise st ra imm) s = .next t ∧ Settles ((s.issue st 3).refusedBy st 3 80) t))) ∧
    (New s st 4 →
      let b := s.issue st 4
      (n ≤ 4 → n ≠ st.val → (n < 4 → s.sl n ≠ slAbsent) → (s.mail.filter (fun e => e.1 == n)).length < (if n = 4 then 16 else 8) →
        (∃ u t, exec (.tSend st rd ra imm) s = .next t ∧ Settles u t ∧ (u.mail = s.mail ++ [(n, s.reg st rd)] ∧ (n ≠ 4 → u = { b with mail := u.mail })))) ∧
      (4 < n ∨ n = st.val ∨ (s.mail.filter (fun e => e.1 == n)).length = (if n = 4 then 16 else 8) →
        (∃ t, exec (.tSend st rd ra imm) s = .next t ∧ Settles (b.refusedBy st 4 80) t)) ∧
      (m = [] → imm.toNat ≤ 1 →
        (∃ t, exec (.tRecv st rd imm) s = .next t ∧ Settles (((b.put Hid.CP_DAT (16 + st) (2 ^ 32)).setReg st rd 0).put Hid.S_Z st 1) t)) ∧
      (∀ v t, m = v :: t → imm.toNat ≤ 1 →
        (∃ u t, exec (.tRecv st rd imm) s = .next t ∧ Settles u t ∧ (u.reg st rd = landed rd v ∧ u.is Hid.S_Z st = false ∧ u.pc st = s.pc st + 1 ∧
          u.is Hid.S_REF st = false ∧
          u.mail = (if imm.toNat = 0 then s.mail.eraseP (fun e => e.1 == st.val) else s.mail)))) ∧
      (1 < imm.toNat → (∃ t, exec (.tRecv st rd imm) s = .next t ∧ Settles (b.refusedBy st 4 80) t))) ∧
    (New s st 5 →
      (st = 0 → s.is Hid.BOOTWIN 0 = true → (∃ t, exec (.tSeal st) s = .next t ∧ Settles ((s.issue st 5).closeWindow) t)) ∧
      (st ≠ 0 ∨ s.is Hid.BOOTWIN 0 = false → (∃ t, exec (.tSeal st) s = .next t ∧ Settles ((s.issue st 5).refusedBy st 5 80) t)))

/-- A side effect that its completer has already completed (R175): the recorded outcome is returned, and nothing is done a second time. The model's own readings in it: log 17. -/
def Obligations.ReissuedSideEffectsActOnce : Prop :=
  ∀ (s : State) (st : Stl), Ready s st → ∀ (rd ra : RegN) (imm : BitVec 14) (cls : BitVec 4) (unit : BitVec 8) (c : Nat) (i : Instr),
    ((c = 0 ∧ 1 ≤ cls.toNat ∧ cls.toNat ≤ 5 ∧
      i ∈ [Instr.tRamp st cls unit ra, .tEnab st cls unit, .tDisb st cls unit, .tFence st cls unit, .tAdmit st cls unit]) ∨
      (c = 1 ∧ i = .tPout st rd ra imm) ∨ (c = 2 ∧ i = .tLog st rd 0 imm) ∨ (c = 3 ∧ i = .tRaise st ra imm) ∨
      (c = 4 ∧ i = .tSend st rd ra imm) ∨ (c = 5 ∧ i = .tSeal st)) →
    s.reissue st c = true →
    (∃ u t, exec i s = .next t ∧ Settles u t ∧ u.pc st = s.pc st + 1 ∧ u.is Hid.S_REF st = s.is Hid.CP_REF (4 * c + st) ∧ u.get Hid.S_ISN st = s.nextIsn st ∧
      Changes s u (pcKeys st ++ [Hid.S_REF.key st, Hid.S_ISN.key st]))

/-- No bit of an encoding is dropped (R168 to R172): every well-formed instruction decodes from its word, with every operand at every value. -/
def Obligations.DecodeOfEncode : Prop :=
  ∀ (i : Instr) (st : Stl) (w : Word), WellFormed i = true → encode i = some (st, w) → decode st w = some i

/-- Words that the spec writes out (R168, R171; the examples of 07_tarragon_instructions.md) decode to what they stand for. -/
def Obligations.ExampleWordsDecode : Prop :=
  decode 1 0x7D400000#32 = some (.tRdt 1 5) ∧ decode 1 0x50400014#32 = some (.tLdi 1 1 20) ∧ decode 1 0x315403E8#32 = some (.tAddi 1 5 5 1000) ∧
  decode 1 0x9C840000#32 = some (.tJudge 1 2 1 0) ∧ decode 1 0x68400002#32 = some (.tBr 1 1 2) ∧ decode 1 0xA0800007#32 = some (.tLog 1 2 0 7) ∧
  decode 1 0x78050000#32 = some (.tWaitt 1 false 0 5 0) ∧ decode 1 0x680FFFFB#32 = some (.tBr 1 0 0xFFFFB) ∧
  decode 0 0x80408C00#32 = some (.tRamp 0 1 2 3) ∧ decode 0 0x84830000#32 = some (.tEnab 0 2 12) ∧ decode 0 0x88400000#32 = some (.tDisb 0 1 0) ∧
  decode 0 0x74412EE0#32 = some (.tWait 0 false 2 1 12000) ∧ decode 0 0x59040001#32 = some (.tLd 0 4 1 1) ∧
  decode 0 0x650C0000#32 = some (.tPout 0 4 3 0) ∧ decode 0 0xAD800004#32 = some (.tSend 0 6 0 4)

/- The stalls. -/

/-- Mismatch, takeover and the spare (R216, R218, R219, R222, R223, R225), and the start of identities (R230). The model's own readings in it: logs 14, 19
and 45. -/
def Obligations.StallsFailAndStart : Prop :=
  ∀ (s : State) (w : Writer) (st : Stl),
    (∀ (p : PairN) (moved : Nat), s.runs = true →
      (s.is Hid.BOOTWIN 0 = false → s.carried p = some st.val → s.sl st = slRun ∨ s.sl st = slWait →
        (s.get Reg.STL_SPARE_SPARE 0 = 0 → s.is Hid.S_SHBAD st = false →
          (∃ u t, exec (.lockstepMismatch p ⟨none, moved⟩) s = .next t ∧ Settles u t ∧ u = s.takeover st false ∧ u.sl st = slTakeover ∧
            u.get Reg.STL_STAT_PHYS st = 4 ∧ u.get Reg.STL_SPARE_FOR 0 = st)) ∧
        (s.get Reg.STL_SPARE_SPARE 0 ≠ 0 ∨ s.is Hid.S_SHBAD st = true →
          (∃ u t, exec (.lockstepMismatch p ⟨none, moved⟩) s = .next t ∧ Settles u t ∧ u = s.secondFailure st ∧ u.sl st = slAbsent ∧
            u.bit Reg.KPR_STAT_FROZEN 0 st = true))) ∧
      (s.is Hid.BOOTWIN 0 = true → s.carried p = some st.val → s.get Reg.STL_SPARE_SPARE 0 = 0 →
        (∃ u t, exec (.lockstepMismatch p ⟨none, moved⟩) s = .next t ∧ Settles u t ∧
          u = ((s.fencePair (s.phys st)).spareFor st).warmReset Reg.RST_CAUSE_STALL ∧ WarmBegun Reg.RST_CAUSE_STALL u)) ∧
      (s.carried p = none → p = 4 → s.get Reg.STL_SPARE_SPARE 0 = 0 → (∃ t, exec (.lockstepMismatch p ⟨none, moved⟩) s = .next t ∧ Settles s.spareLost t))) ∧
    (s.runs = true → s.get Reg.STL_SPARE_SPARE 0 = 0 →
      (∃ t, exec (.spareSelfTest false) s = .next t ∧ Settles (((s.setBit Reg.STL_SPARE_FENCED 0 4 true).put Reg.STL_SPARE_SPARE 0 2).raise 84) t) ∧
      (∃ t, exec (.shadowBankError st) s = .next t ∧ Settles (((s.put Hid.S_SHBAD st 1).put Reg.STL_SPARE_SHADOW_ERR 0 1).raise 86) t)) ∧
    (s.runs = true → s.get Reg.STL_SPARE_SPARE 0 ≠ 0 → s.get Reg.STL_SPARE_FOR 0 = st.val → s.sl st = slTakeover →
      (∃ u t, exec (.shadowBankError st) s = .next t ∧ Settles u t ∧
        u = (((s.put Hid.S_SHBAD st 1).put Reg.STL_SPARE_SHADOW_ERR 0 1).raise 86).secondFailure st ∧ u.sl st = slAbsent)) ∧
    (∀ dur : BitVec 12, s.runs = true → s.get Reg.STL_SPARE_FOR 0 = st.val → s.sl st = slTakeover →
      (∃ t, exec (.takeoverComplete dur) s = .next t ∧ Settles (s.takeoverEnd st dur.toNat) t)) ∧
    (Permitted s w 0x6000 (2 ^ st.val) → (∃ u t, exec (.stallStart w st) s = .next t ∧ Settles u t ∧
      (u = (s.arrive w).stallStart st ∧ (s.sl st = slStopped → s.is Hid.S_LEN st = true → u.sl st = slRun ∧ u.pc st = s.get Hid.S_ENT st)))) ∧
    (Permitted s w 0x6000 (2 ^ (8 + st.val)) → (∃ u t, exec (.stallRestart w st) s = .next t ∧ Settles u t ∧ (u = (s.arrive w).stallRestart st ∧
      (s.sl st ≠ slTakeover → s.sl st ≠ slAbsent → s.is Hid.S_LEN st = true → u.sl st = slRun ∧ u.pc st = s.get Hid.S_ENT st))))

/-- The watchdogs (R232, R233): each command lets the time pass up to its event, in which every watchdog counts. The mailboxes (R234, R235): a post joins a mailbox that is not full and is lost to a full one; POP takes the host mailbox's oldest word; a flush
empties its mailbox and no other. The model's own readings in it: logs 11, 45 and 65. -/
def Obligations.WatchdogsAndMailboxes : Prop :=
  (∀ (s : State) (w : Writer) (st : Stl) (v : Word),
    (w = .stl st → v.toNat % 256 = 0x5A →
      (Permitted s w (0x6040 + 4 * st) v.toNat → ∃ t, exec (.watchdogKick w st v) s = .next t ∧ Settles ((s.arrive w).put Hid.S_WDC st 0) t)) ∧
    (w ≠ .stl st ∨ v.toNat % 256 ≠ 0x5A →
      (Permitted s w (0x6040 + 4 * st) v.toNat → ∃ t, exec (.watchdogKick w st v) s = .next t ∧ Settles ((s.arrive w).put Reg.STL_STAT_KICK_BAD st 1) t)) ∧
    (s.wdRuns st = true →
      (let d := s.wdTop st / 2 - s.get Hid.S_WDC st
       0 < d → (∃ u t, exec (.watchdogEarly st) s = .next t ∧ Settles u t ∧ (u = s.passTime d ∧
        ((∀ k : Stl, s.wdRuns k = true → s.get Hid.S_WDC k + d < s.wdTop k) →
          u.is Reg.STL_STAT_WD_EARLY st = true ∧ u.get Hid.S_WDC st = 500 * s.get Reg.STL_WDCFG_TMO st)))) ∧
      (let d := s.wdTop st - s.get Hid.S_WDC st
       (∃ u t, exec (.watchdogExpiry st) s = .next t ∧ Settles u t ∧ (u = s.passTime d ∧ u.is Reg.STL_STAT_WD_EXP st = true ∧
        (s.is Reg.STL_WDCFG_RST st = true → u.get Reg.RST_CAUSE_WDT 0 = 1 ∧ u.get Hid.MAIN 0 = 1 ∧ u.is Hid.WARM 0 = true)))))) ∧
  (∀ (s : State) (w : Writer) (st : Stl) (v : Word),
    let size := (s.mail.filter (fun e => e.1 == st.val)).length
    (size < 8 → (Permitted s w (0x6050 + 4 * st) v.toNat → ∃ t, exec (.hostMailboxPost w st v) s = .next t ∧
      Settles ({ (s.arrive w) with mail := s.mail ++ [(st.val, v)] }) t)) ∧
    (8 ≤ size → (Permitted s w (0x6050 + 4 * st) v.toNat → ∃ t, exec (.hostMailboxPost w st v) s = .next t ∧
      Settles ((s.arrive w).put Reg.MBX_LEVEL_HOST_FULL 0 1) t)) ∧
    (Permitted s w 0x6068 1 → ∃ t, exec (.mailboxPop w) s = .next t ∧ Settles ({ (s.arrive w) with mail := s.mail.eraseP (fun e => e.1 == 4) }) t) ∧
    (Permitted s w 0x6068 2 → ∃ t, exec (.mailboxFlushHost w) s = .next t ∧ Settles ({ (s.arrive w) with mail := s.mail.filter (fun e => e.1 != 4) }) t) ∧
    (Permitted s w 0x6068 (2 ^ (4 + st.val)) → ∃ t, exec (.mailboxFlushRx w st) s = .next t ∧
      Settles ({ (s.arrive w) with mail := s.mail.filter (fun e => e.1 != st.val) }) t))

/- Power path, charger and battery. -/

/-- The inputs (R241 to R244, R247, R249 to R252). The model's own readings in it: logs 10, 11 and 36. -/
def Obligations.InputsComeAndGo : Prop :=
  ∀ (s : State) (w : Writer) (i : InputN), s.vao = true →
    (let b := (s.put Hid.IN_OK i 1).put Hid.IN_PWR i 1
     let c := if s.inSt i = 0 ∧ s.inEn i = true then b.setInSt i 1 else b
     s.canRange i = true →
      (s.get Hid.TSTEP 0 ≠ 5 → (∃ t, exec (.inputInRange i) s = .next t ∧ Settles c t)) ∧
      (s.get Hid.TSTEP 0 = 5 → s.trans = 3 → (∃ t, exec (.inputInRange i) s = .next t ∧ Settles (c.rest 4) t)) ∧
      (s.get Hid.TSTEP 0 = 5 → s.trans = 4 → (∃ t, exec (.inputInRange i) s = .next t ∧ Settles ((c.put Hid.RAISER 0 (i + 1)).rest 1) t))) ∧
    (∀ above, s.sel ≠ some i.val → above = false ∨ s.get Hid.TSTEP 0 ≠ 5 →
      let b := (((s.put Hid.IN_OK i 0).mark Hid.IN_PWR i above).setInSt i 0).notReady i
      (i = 0 → (∃ t, exec (.inputOutOfRange ⟨i, above⟩) s = .next t ∧ Settles b t)) ∧
      (∀ x : PortN, i.val = x.val + 1 →
        (s.moving x = false → (∃ t, exec (.inputOutOfRange ⟨i, above⟩) s = .next t ∧ Settles b t)) ∧
        (s.moving x = true → (∃ t, exec (.inputOutOfRange ⟨i, above⟩) s = .next t ∧ Settles (b.portAbort x) t)))) ∧
    (s.inSt i = 1 → s.is Hid.IN_OK i = true →
      (∃ t, exec (.inputDebounceEnd ⟨i, []⟩) s = .next t ∧ Settles ((s.setInSt i 2).selectNext) t) ∧
      (∀ same, (∃ u t, exec (.inputDebounceEnd ⟨i, same⟩) s = .next t ∧ Settles u t ∧
        (∀ j : InputN, j = i ∨ j ∈ same → s.inSt j = 1 → s.is Hid.IN_OK j = true → u.inSt j = 2 ∨ u.sel = some j.val)))) ∧
    (∀ j, s.sel = some j → s.mayUpgrade i = true →
      (s.inSt j = 3 → (∃ t, exec (.inputUpgrade i) s = .next t ∧ Settles (s.holdUpgrade i) t)) ∧
      (s.inSt j ≠ 3 → (∃ t, exec (.inputUpgrade i) s = .next t ∧ Settles (s.upgrade i) t))) ∧
    (s.sel = some 0 →
      (∀ above, (∃ t, exec (.inputLoss (.level above)) s = .next t ∧ Settles (((s.mark Hid.IN_PWR 0 above).put Hid.IN_OK 0 0).lostInput 0 0) t)) ∧
      (∃ t, exec (.inputLoss .ov) s = .next t ∧ Settles (((s.flag Reg.PP_EVT_OV 0 1).put Hid.IN_OK 0 0).lostInput 0 0) t)) ∧
    (∀ j r, s.sel = some j → (∃ t, exec (.inputLoss (.reverse r)) s = .next t ∧ Settles (s.reverse j r) t)) ∧
    (∀ x : PortN, s.sel = some (x.val + 1) →
      (∀ above, (∃ t, exec (.inputLoss (.level above)) s = .next t ∧ Settles ((s.mark Hid.IN_PWR (x + 1) above).sinkLow x) t)) ∧
      (∃ t, exec (.inputLoss .ov) s = .next t ∧ Settles (s.sinkOv x) t) ∧
      (s.inSt (x + 1) = 3 → s.convOn = true → (∃ t, exec (.portFeedEntry x) s = .next t ∧ Settles (s.feed (x + 1)) t))) ∧
    (s.sel = some i.val → (∃ t, exec (.inputSwitchFail i) s = .next t ∧
      Settles ((((s.flag Reg.PP_EVT_INSW_FAIL 0 1).raise 88).openInput i 5).afterLoss i (s.qualified i)) t)) ∧
    (∀ vin0 vin reg, s.sel = some 0 → s.convOn = true →
      let b := s.mark Hid.CHG_CUT 0 (50 ≤ reg)
      (s.inSt 0 = 3 → (∃ t, exec (.searchStep vin0 vin reg) s = .next t ∧ Settles (b.searchStep (s.dips vin0 vin) (50 ≤ reg)) t)) ∧
      (s.inSt 0 = 4 → (∃ t, exec (.searchStep vin0 vin reg) s = .next t ∧ Settles (b.searchBack (s.dips vin0 vin) (100 ≤ reg)) t))) ∧
    (s.get Reg.PP_CTRL_CHG_EN 0 ≤ 1 → (Permitted s w 0x3004 (s.ppWord 16) → ∃ t, exec (.searchRestart w) s = .next t ∧
      Settles (((s.arrive w).regStore 0x3004 (s.ppWord 16)).searchAgain) t)) ∧
    (s.sel.isSome = true → s.batAvail = true → s.is Reg.PP_STAT_SUPPL 0 = false →
      let b := ((s.put Reg.PP_STAT_SUPPL 0 1).flag Reg.PP_EVT_SUPPL_SEEN 0 1).irq 58
      (s.is Hid.CONV_REL 0 = false → (∃ t, exec .supplementStart s = .next t ∧ Settles b t)) ∧
      (s.is Hid.CONV_REL 0 = true → (∃ t, exec .supplementStart s = .next t ∧ Settles (b.put Reg.PP_STAT_BFET 0 3) t))) ∧
    exec .supplementEnd s = .next (s.put Reg.PP_STAT_SUPPL 0 0)

/-- The BATFET and the battery (R254, R260 to R265, R267). The model's own readings in it: logs 10 and 36. -/
def Obligations.BatteryAndBatfet : Prop :=
  ∀ (s : State) (w : Writer) (r : PresenceResult),
    (s.get Reg.PP_CTRL_CHG_EN 0 ≤ 1 →
      (Permitted s w 0x3004 (s.ppWord 2) → ∃ t, exec (.batGo w) s = .next t ∧ Settles (((s.arrive w).regStore 0x3004 (s.ppWord 2)).batGo) t) ∧
      (Permitted s w 0x3004 (s.ppWord 4) → ∃ t, exec (.retest w) s = .next t ∧ Settles (((s.arrive w).regStore 0x3004 (s.ppWord 4)).retest) t)) ∧
    (s.vao = true →
      (s.get Reg.PP_STAT_BFET 0 = 1 →
        (∃ t, exec .batfetSoftstartEnd s = .next t ∧ Settles ((s.put Reg.PP_STAT_BFET 0 2).bfetRefresh) t) ∧
        (∃ t, exec .batfetSoftstartFail s = .next t ∧
          Settles ((((s.put Reg.PP_STAT_BFET 0 0).put Hid.BF_LOCK 0 1).flag Reg.PP_EVT_BFET_SS_FAIL 0 1).raise 89) t)) ∧
      (s.is Reg.PP_STAT_BATT_ABSENT 0 = true ∨ (s.batPresent = true ∧ s.get Reg.CHG_TMR_PT_PERIOD 0 ≠ 0 ∧ s.charging = false) →
        s.onBatt = false → s.is Hid.PT_RUN 0 = false → s.cur ≠ 4 →
        (∃ t, exec .presenceTestPeriod s = .next t ∧
          Settles (((((s.put Hid.PT_PREV 0 (s.get Reg.PP_STAT_BFET 0)).put Hid.PT_RUN 0 1).put Hid.PT_RE 0 0).put Reg.PP_STAT_BFET 0 0).stepCut) t)) ∧
      (s.is Hid.PT_RUN 0 = true → (∃ t, exec (.presenceTestEnd r) s = .next t ∧ Settles (s.ptEnd (s.ptResult r)) t)) ∧
      (s.charging = true → (∃ t, exec .batteryRemoval s = .next t ∧ Settles ((s.batGone.flag Reg.PP_EVT_BAT_REMOVED 0 1).raise 89) t)) ∧
      (s.onBatt = true →
        (s.active = true → (∃ t, exec .batteryUndervoltage s = .next t ∧ Settles ((s.flag Reg.PP_EVT_BUV 0 1).raise 90) t)) ∧
        (s.hold = true ∨ s.standby = true →
          (∃ t, exec .batteryUndervoltage s = .next t ∧ Settles (((s.flag Reg.PP_EVT_BUV 0 1).raise 90).batteryEmpty) t))) ∧
      (∃ t, exec .dischargeOvercurrent s = .next t ∧ Settles ((s.flag Reg.PP_EVT_BOCP 0 1).raise 91) t) ∧
      (∃ t, exec .dischargeShort s = .next t ∧ Settles ((((s.put Reg.PP_STAT_BFET 0 0).put Hid.BF_SHORT 0 1).flag Reg.PP_EVT_BSCP 0 1).raise 89) t) ∧
      (s.is Hid.CONV_REL 0 = true → (∃ t, exec .converterRestart s = .next t ∧ Settles ((s.put Hid.CONV_REL 0 0).put Hid.CONV_ON 0 1) t)))

/-- The charger (R255, R258, R259): PRECHARGE to FAST to CV to DONE and back, and FAULT with its cause, which raises the charger's source. The model's own readings in it: logs 10, 36 and 37. -/
def Obligations.ChargerPhases : Prop :=
  ∀ (s : State) (w : Writer) (vbat : Nat), s.vao = true →
    let fault (why : Nat) (u : State) : Prop := u = (((s.put Reg.CHG_STAT_PHASE 0 5).put Reg.CHG_STAT_FLT_WHY 0 why).irq 59).raise 92
    let goes (b : State) (p : Nat) (u : State) : Prop := u = ((b.put Reg.CHG_STAT_PHASE 0 p).put Reg.CHG_STAT_FLT_WHY 0 0).irq 59
    (s.phase = 0 → s.inhibit = 0 → (∃ t, exec (.chargerPhaseChange vbat) s = .next t ∧ Settles (s.phaseFrom vbat) t)) ∧
    (s.phase = 1 → s.cells * (s.vpre + 100) ≤ vbat →
      (∃ u t, exec (.chargerPhaseChange vbat) s = .next t ∧ Settles u t ∧ goes (s.mark Hid.CHG_LIN 0 (vbat < s.vsysMin)) 2 u)) ∧
    (s.phase = 2 → s.cells * s.vregNow ≤ vbat →
      (∃ u t, exec (.chargerPhaseChange vbat) s = .next t ∧ Settles u t ∧ goes (s.mark Hid.CHG_LIN 0 (vbat < s.vsysMin)) 3 u)) ∧
    (s.phase = 3 → (∃ u t, exec .chargeTermination s = .next t ∧ Settles u t ∧ goes s 4 u)) ∧
    (s.phase = 4 → (∃ u t, exec .recharge s = .next t ∧ Settles u t ∧ goes (s.mark Hid.CHG_LIN 0 (s.cells * (s.vregNow - s.vrechg) ≤ s.vsysMin)) 2 u)) ∧
    (s.phase = 1 → (∃ t, exec .preTmoExpiry s = .next t ∧ Settles (s.passTime (s.preTmo - s.get Hid.CHG_PRE_T 0)) t)) ∧
    (s.phase = 2 ∨ s.phase = 3 → (∃ t, exec .safeTmoExpiry s = .next t ∧
      Settles (s.passTime ((s.safeTmo - s.get Hid.CHG_SAFE_T 0 + s.safeRate - 1) / s.safeRate)) t)) ∧
    (∀ d, (s.phase = 1 → s.preTmo ≤ s.get Hid.CHG_PRE_T 0 + d → s.chgTime d = (s.put Hid.CHG_PRE_T 0 (s.get Hid.CHG_PRE_T 0 + d)).chgFault 1) ∧
      (s.phase = 2 ∨ s.phase = 3 → s.safeTmo ≤ s.get Hid.CHG_SAFE_T 0 + s.safeRate * d →
        s.chgTime d = (s.put Hid.CHG_SAFE_T 0 (s.get Hid.CHG_SAFE_T 0 + s.safeRate * d)).chgFault 2)) ∧
    (s.phase ≠ 5 → (∃ u t, exec .chargeOvercurrent s = .next t ∧ Settles u t ∧ fault 4 u)) ∧
    (Permitted s w 0x3004 (s.ppWord 8) → s.get Reg.PP_CTRL_CHG_EN 0 ≤ 1 → s.phase ≠ 5 → s.phase ≠ 0 → ∀ high,
      (∃ t, exec (.chgClr w ⟨vbat, high⟩) s = .next t ∧ Settles ((s.arrive w).regStore 0x3004 (s.ppWord 8)) t)) ∧
    (s.standby = true → s.batPresent = true → s.anyInput = true → s.is Hid.CHG_ONCE 0 = false →
      (∃ t, exec .chgNeed s = .next t ∧ Settles ((s.put Hid.CHG_ONCE 0 1).irq 48) t))

/- The cable ports. -/

/-- Attach, detach and hard reset (R273, R276, R277, R286, R290, R292). The model's own readings in it: logs 8, 28 and 29. -/
def Obligations.PortsAttachAndDetach : Prop :=
  ∀ (s : State) (x : PortN) (cc2 ra : Bool) (lvl : RpLevel), s.vao = true →
    (∀ source, s.tc x = 0 → s.presents x source = true → (∃ t, exec (.typecAttach x (.wait source)) s = .next t ∧ Settles (s.put Reg.PORT_STAT_TC x 1) t)) ∧
    (s.tcFree x = true → s.presents x false = true →
      (∃ t, exec (.typecAttach x (.sink cc2 lvl)) s = .next t ∧ Settles (s.attached x 2 0 (rpCode lvl) cc2) t)) ∧
    (s.tcFree x = true → s.presents x true = true →
      (s.role x = 2 → s.is Reg.PORT_CFG_TRY_SNK x = true → s.tc x ≠ 4 →
        (∃ t, exec (.typecAttach x (.source cc2 ra)) s = .next t ∧ Settles ((s.put Reg.PORT_STAT_TC x 4).put Hid.PO_RP x 0) t)) ∧
      (s.role x ≠ 2 ∨ s.is Reg.PORT_CFG_TRY_SNK x = false ∨ s.tc x = 4 →
        (∃ t, exec (.typecAttach x (.source cc2 ra)) s = .next t ∧ Settles (((s.attached x 3 1 0 cc2).mark Hid.PO_RA x ra).sourceStart x) t))) ∧
    (s.tc x = 1 ∨ s.tc x = 4 → (∃ t, exec (.typecDetach x) s = .next t ∧ Settles (s.put Reg.PORT_STAT_TC x 0) t)) ∧
    (s.tc x ≠ 1 → s.tc x ≠ 4 → s.tc x ≠ 5 → s.tc x ≠ 0 ∨ s.sel = some (x.val + 1) → (∃ t, exec (.typecDetach x) s = .next t ∧ Settles (s.detach x) t)) ∧
    (s.terminates x = true → s.role x = 2 → s.tc x = 0 → exec (.drpToggle x) s = .next (s.put Hid.PO_RP x (1 - s.get Hid.PO_RP x))) ∧
    (s.sinkOn x = true → (∃ t, exec (.rpLevelChange x lvl) s = .next t ∧ Settles (s.put Reg.PORT_STAT_TC_LVL x (rpCode lvl)) t)) ∧
    (s.phy x = true → s.sinkOn x = true → s.get Reg.PORT_STAT_CONTRACT x = 0 → s.exch x = 0 ∨ s.exch x = 8 → s.is Reg.PORT_STAT_NO_PD x = false →
      let b := s.put Hid.PE_EXCH x 0
      (2 ≤ s.get Hid.PO_HRN x ∨ s.safeLoss x = false →
        (∃ t, exec (.sourceCapTimeout x) s = .next t ∧ Settles ((b.put Reg.PORT_STAT_NO_PD x 1).portFlag Reg.PORT_EVT_NO_PD x) t)) ∧
      (s.get Hid.PO_HRN x < 2 → s.safeLoss x = true →
        (∃ t, exec (.sourceCapTimeout x) s = .next t ∧ Settles ((b.put Hid.PO_HRN x (s.get Hid.PO_HRN x + 1)).sendHardReset x) t))) ∧
    (s.phy x = true → (∃ t, exec (.hardResetReceived x) s = .next t ∧ Settles (((s.bmc x).portFlag Reg.PORT_EVT_HRST_RX x).hardReset x) t)) ∧
    (s.sourceOn x = true → s.get Hid.PO_HR x = 2 →
      (∃ t, exec (.sourceHardResetRestore x) s = .next t ∧ Settles (((((s.put Hid.PO_HR x 0).sourceStart x).put Hid.PO_SW x 1).vconnOn x).sendCaps x) t)) ∧
    (s.is Hid.PO_DSC x = true →
      (s.get Hid.PO_HR x = 1 → s.exch x ≠ 7 → (∃ t, exec (.vbusDischarged x) s = .next t ∧ Settles ((s.put Hid.PO_DSC x 0).put Hid.PO_HR x 2) t)) ∧
      (s.get Hid.PO_HR x ≠ 1 → s.exch x ≠ 7 → (∃ t, exec (.vbusDischarged x) s = .next t ∧ Settles (s.put Hid.PO_DSC x 0) t)) ∧
      (s.get Hid.PO_HR x ≠ 1 → s.exch x = 7 → s.sourceOn x = true →
        (∃ t, exec (.vbusDischarged x) s = .next t ∧ Settles ((s.put Hid.PO_DSC x 0).tx x txPsRdy) t)) ∧
      (s.sourceOn x = false →
        (∃ t, exec (.dischargeTimeout x) s = .next t ∧ Settles ((s.portFlag Reg.PORT_EVT_SETTLE_FAIL x).raise (96 + x)) t)))

/-- What a port hears as a sink (R278 to R281, R289). The model's own readings in it: logs 8, 26 and 27. -/
def Obligations.SinkPolicyMessages : Prop :=
  ∀ (s : State) (x : PortN) (rev3 epr : Bool) (pdos : List Word) (w : Writer) (v : Word), s.hears x = true → s.sinkOn x = true →
    let b := s.bmc x
    (pdos ≠ [] → pdos.length ≤ (if epr then 11 else 7) →
      let c := ((b.rev x rev3).eprCut x).storeCaps x epr pdos
      (s.exch x ≠ 7 → (∃ t, exec (.sourceCapabilities x rev3 epr pdos) s = .next t ∧ Settles (c.requestNow x) t)) ∧
      (s.exch x = 7 → (∃ t, exec (.sourceCapabilities x rev3 epr pdos) s = .next t ∧ Settles c t))) ∧
    (pdos = [] ∨ (if epr then 11 else 7) < pdos.length → (∃ t, exec (.sourceCapabilities x rev3 epr pdos) s = .next t ∧ Settles (b.nsup x) t)) ∧
    (s.exch x = 1 →
      (∃ t, exec (.acceptMessage x) s = .next t ∧ Settles ((b.put Hid.PE_EXCH x 2).put Hid.PO_WAITS x 0) t) ∧
      (s.get Hid.PO_EPR x ≠ 4 →
        (∃ t, exec (.rejectMessage x) s = .next t ∧ Settles ((b.portFlag Reg.PORT_EVT_SWAP_REJ x).put Hid.PE_EXCH x 0) t) ∧
        (∃ t, exec (.notSupportedMessage x) s = .next t ∧ Settles ((b.portFlag Reg.PORT_EVT_SWAP_REJ x).put Hid.PE_EXCH x 0) t)) ∧
      (s.get Hid.PO_EPR x = 4 →
        (∃ t, exec (.rejectMessage x) s = .next t ∧ Settles (((b.portFlag Reg.PORT_EVT_SWAP_REJ x).put Hid.PE_EXCH x 0).put Hid.PO_EPR x 3) t) ∧
        (∃ t, exec (.notSupportedMessage x) s = .next t ∧ Settles (((b.portFlag Reg.PORT_EVT_SWAP_REJ x).put Hid.PE_EXCH x 0).put Hid.PO_EPR x 3) t)) ∧
      (let c := ((b.put Hid.PO_WAITS x (s.get Hid.PO_WAITS x + 1)).put Hid.PE_EXCH x 0).put Hid.PO_RETRY x 1
       (s.get Hid.PO_WAITS x < 2 → (∃ t, exec (.waitMessage x) s = .next t ∧ Settles c t)) ∧
       (s.get Hid.PO_WAITS x = 2 → (∃ t, exec (.waitMessage x) s = .next t ∧ Settles (c.portFlag Reg.PORT_EVT_SWAP_REJ x) t)))) ∧
    (s.get Hid.PO_RETRY x = 1 → s.mayStart x = true →
      (s.get Hid.PO_WAITS x ≠ 3 → (∃ t, exec (.waitRetry x) s = .next t ∧ Settles (s.requestNow x) t)) ∧
      (s.get Hid.PO_WAITS x = 3 → (∃ t, exec (.waitRetry x) s = .next t ∧ Settles (s.request x (s.askFive x false)) t))) ∧
    (s.exch x = 2 →
      (s.get Hid.PO_EPR x ≠ 4 → (∃ t, exec (.psRdy x) s = .next t ∧ Settles ((b.newContract x).eprEnter x) t)) ∧
      (s.get Hid.PO_EPR x = 4 → (∃ t, exec (.psRdy x) s = .next t ∧
        Settles ((((b.newContract x).put Hid.PO_EPR x 0).put Reg.PORT_STAT_EPR x 0).tx x txEprExit) t))) ∧
    (s.get Hid.PO_EPR x = 1 → (∃ t, exec (.eprModeMessage x 2) s = .next t ∧ Settles (b.put Hid.PO_EPR x 2) t)) ∧
    (s.exch x = 6 →
      (∃ t, exec (.eprModeMessage x 3) s = .next t ∧ Settles (((b.put Hid.PE_EXCH x 0).put Hid.PO_EPR x 3).put Reg.PORT_STAT_EPR x 1) t) ∧
      (∃ t, exec (.eprModeMessage x 4) s = .next t ∧ Settles (b.eprFail x) t)) ∧
    (s.is Reg.PORT_STAT_EPR x = true →
      exec (.eprKeepaliveTimer x) s = .next (s.tx x txKeepAlive) ∧
      (s.get Reg.PORT_STAT_CONTRACT x ≠ 3 →
        (∃ t, exec (.eprModeMessage x 5) s = .next t ∧ Settles (((b.put Reg.PORT_STAT_EPR x 0).put Hid.PO_EPR x 0).put Hid.PO_ECAP x 0) t)) ∧
      (s.get Reg.PORT_STAT_CONTRACT x = 3 → (∃ t, exec (.eprModeMessage x 5) s = .next t ∧ Settles (b.sendHardReset x) t))) ∧
    (s.get Reg.PORT_STAT_CONTRACT x = 2 → s.mayStart x = true → (∃ t, exec (.ppsRefresh x) s = .next t ∧
      Settles (s.request x { obj := s.get Reg.PORT_CONTRACT_OBJ x, v := s.get Reg.PORT_CONTRACT_V x, i := s.get Reg.PORT_CONTRACT_I x, kind := 2, mis
        := false }) t)) ∧
    (Permitted s w (0x3808 + 128 * x) v.toNat → ∃ t, exec (.ppsWrite w x v) s = .next t ∧ Settles ((s.arrive w).portPps x v.toNat) t) ∧
    (∃ t, exec (.getSinkCap x) s = .next t ∧ Settles (b.tx x txSinkCaps) t) ∧
    (∃ t, exec (.requestMessage x rev3 epr v) s = .next t ∧ Settles (b.nsup x) t) ∧
    (s.role x ≠ 2 → (∃ t, exec (.getSourceCap x) s = .next t ∧ Settles (b.nsup x) t) ∧
      (∃ t, exec (.extendedControlMessage x 1) s = .next t ∧ Settles (b.nsup x) t)) ∧
    (s.role x = 2 → (∃ t, exec (.getSourceCap x) s = .next t ∧ Settles (b.tx x txSourceCaps) t) ∧
      (∃ t, exec (.extendedControlMessage x 1) s = .next t ∧ Settles (b.tx x txSourceCaps) t)) ∧
    (∀ k : BitVec 8, k = 3 ∨ k = 4 → (∃ t, exec (.extendedControlMessage x k) s = .next t ∧ Settles b t)) ∧
    (∃ t, exec (.extendedControlMessage x 2) s = .next t ∧ Settles (b.tx x txEprSinkCaps) t)

/-- What a port hears as a source, and its supply (R282 to R285, R289). The model's own readings in it: logs 8, 26 and 27. -/
def Obligations.SourcePolicyAndSupply : Prop :=
  ∀ (s : State) (x : PortN) (rev3 : Bool) (rdo : Word), s.sourceOn x = true →
    (s.hears x = true →
      let b := s.bmc x
      (s.exch x = 0 → (∃ t, exec (.requestMessage x rev3 false rdo) s = .next t ∧ Settles ((b.rev x rev3).answerRequest x rdo.toNat) t)) ∧
      (s.exch x ≠ 0 → (∃ t, exec (.requestMessage x rev3 false rdo) s = .next t ∧ Settles ((b.rev x rev3).tx x txWait) t)) ∧
      (∃ t, exec (.requestMessage x rev3 true rdo) s = .next t ∧ Settles ((b.rev x rev3).tx x txReject) t) ∧
      (∃ t, exec (.getSourceCap x) s = .next t ∧ Settles (b.tx x txSourceCaps) t) ∧
      (∃ t, exec (.eprModeMessage x 1) s = .next t ∧ Settles (b.tx x txEprFailed) t) ∧
      (∃ t, exec (.softResetMessage x) s = .next t ∧ Settles ((((b.eprCut x).endExchange x).tx x txAccept).tx x txSourceCaps) t)) ∧
    (s.vao = true → s.is Hid.PO_EN x = true → s.is Hid.PO_SW x = false → s.get Hid.PO_HR x = 0 →
      (s.exch x ≠ 7 → (∃ t, exec (.sourceSupplyReady x) s = .next t ∧ Settles (((s.put Hid.PO_SW x 1).vconnOn x).sendCaps x) t)) ∧
      (s.exch x = 7 → (∃ t, exec (.sourceSupplyReady x) s = .next t ∧
        Settles (((((s.put Hid.PO_SW x 1).swapDone x).tx x txPsRdy).vconnOn x).sendCaps x) t))) ∧
    (s.vao = true → s.exch x = 5 →
      (∃ t, exec (.sourceSettleTimeout x) s = .next t ∧ Settles (((s.sendHardReset x).portFlag Reg.PORT_EVT_SETTLE_FAIL x).raise (96 + x)) t) ∧
      (s.phy x = false → (∃ t, exec (.sourceSettled x) s = .next t ∧ Settles ((s.put Hid.PO_DSC x 0).newContract x) t)) ∧
      (s.phy x = true → (∃ t, exec (.sourceSettled x) s = .next t ∧ Settles (((s.put Hid.PO_DSC x 0).newContract x).tx x txPsRdy) t))) ∧
    (s.vao = true → s.is Hid.PO_SW x = true →
      (∃ t, exec (.sourceOvercurrent x) s = .next t ∧ Settles (((s.portFlag Reg.PORT_EVT_OCP x).unattach x 5).raise (96 + x)) t) ∧
      (∃ t, exec (.sourceShort x) s = .next t ∧ Settles (((s.portFlag Reg.PORT_EVT_OCP x).unattach x 5).raise (96 + x)) t) ∧
      (∃ t, exec (.sourceOvervoltage x) s = .next t ∧ Settles (((s.portFlag Reg.PORT_EVT_OVP x).unattach x 5).raise (96 + x)) t) ∧
      (∃ t, exec (.sourceReverseCurrent x) s = .next t ∧ Settles (((s.portFlag Reg.PORT_EVT_RCP x).unattach x 5).raise (96 + x)) t))

/-- Swaps, VCONN, and what every attached port handles (R284, R287 to R289). The model's own readings in it: logs 8, 26 and 27. -/
def Obligations.SwapsAndOtherMessages : Prop :=
  ∀ (s : State) (x : PortN) (carrier eprCap : Bool) (icap vmax : BitVec 2) (pdos : List Word), s.hears x = true →
    let b := s.bmc x
    (s.exch x ≠ 0 → (∃ t, exec (.prSwap x) s = .next t ∧ Settles (b.tx x txWait) t) ∧ (∃ t, exec (.drSwap x) s = .next t ∧ Settles (b.tx x txWait) t) ∧
      (∃ t, exec (.vconnSwap x) s = .next t ∧ Settles (b.tx x txWait) t)) ∧
    (s.exch x = 0 →
      (s.prAllowed x = true → (∃ t, exec (.prSwap x) s = .next t ∧ Settles ((b.prStart x).tx x txAccept) t)) ∧
      (s.prAllowed x = false → (∃ t, exec (.prSwap x) s = .next t ∧ Settles (b.tx x txReject) t)) ∧
      (s.is Reg.PORT_CFG_DRS_EN x = true → (∃ t, exec (.drSwap x) s = .next t ∧
        Settles ((((b.put Reg.PORT_STAT_DROLE x (1 - s.get Reg.PORT_STAT_DROLE x)).portFlag Reg.PORT_EVT_SWAP_DONE x).put Hid.PE_EXCH x 0).tx x txAccept)
          t)) ∧
      (s.is Reg.PORT_CFG_DRS_EN x = false → (∃ t, exec (.drSwap x) s = .next t ∧ Settles (b.tx x txReject) t)) ∧
      (s.is Reg.PORT_STAT_VCONN x = true → (∃ t, exec (.vconnSwap x) s = .next t ∧ Settles ((b.put Hid.PE_EXCH x 9).tx x txAccept) t)) ∧
      (s.is Reg.PORT_STAT_VCONN x = false →
        (s.is Reg.PORT_CFG_VCONN_EN x = true → s.is Hid.PO_VCOCP x = false → (∃ t, exec (.vconnSwap x) s = .next t ∧ Settles (b.vconnTake x) t)) ∧
        (s.is Reg.PORT_CFG_VCONN_EN x = false ∨ s.is Hid.PO_VCOCP x = true → (∃ t, exec (.vconnSwap x) s = .next t ∧ Settles (b.tx x txReject) t)))) ∧
    (s.exch x = 9 → (∃ t, exec (.psRdy x) s = .next t ∧
      Settles ((((b.put Reg.PORT_STAT_VCONN x 0).put Hid.PO_VGIV x 1).portFlag Reg.PORT_EVT_SWAP_DONE x).put Hid.PE_EXCH x 0) t)) ∧
    (∃ t, exec (.pingMessage x) s = .next t ∧ Settles b t) ∧ (∃ t, exec (.sinkCapabilitiesMessage x pdos) s = .next t ∧ Settles b t) ∧
    (∃ t, exec (.bistMessage x carrier) s = .next t ∧ Settles (b.put Hid.PO_BIST x (if carrier then 1 else 2)) t) ∧
    (∃ t, exec (.unsupportedMessage x) s = .next t ∧ Settles ((b.tx x txNotSupported).portFlag Reg.PORT_EVT_NSUP x) t) ∧
    (s.is Hid.PO_DISC x = true → s.is Reg.PORT_STAT_VCONN x = true →
      (∃ t, exec (.discoverIdentityReply x true eprCap icap vmax) s = .next t ∧
        Settles ((((b.put Reg.PORT_CABLE_VALID x 1).mark Reg.PORT_CABLE_EPR_CAP x eprCap).put Reg.PORT_CABLE_ICAP x icap.toNat).put
          Reg.PORT_CABLE_VMAX x vmax.toNat) t)) ∧
    (∀ r, (r = 2 ∨ r = 3) → s.get Hid.PO_RETRY x = r → s.mayStart x = true →
      (∃ t, exec (.swapRetry x) s = .next t ∧ Settles ((s.put Hid.PO_RETRY x 0).portAct x r) t))

/-- Port protection and PORTx_CTRL (R281, R285, R286, R295). The model's own readings in it: logs 26 and 28. -/
def Obligations.PortProtectionAndCommands : Prop :=
  ∀ (s : State) (w : Writer) (x : PortN),
    (s.vao = true →
      (s.sinkOn x = true → (∃ t, exec (.vbusSinkOv x) s = .next t ∧ Settles (s.sinkOv x) t)) ∧
      (s.tc x = 5 → s.is Hid.PO_CCOV x = false → (∃ t, exec (.errorRecoveryEnd x) s = .next t ∧ Settles (s.put Reg.PORT_STAT_TC x 0) t)) ∧
      (let b := (s.portFlag Reg.PORT_EVT_CC_OVP x).raise (96 + x)
       (s.sinkOn x = false → s.tc x ≠ 6 → (∃ t, exec (.ccOvervoltage x) s = .next t ∧ Settles ((b.unattach x 5).put Hid.PO_CCOV x 1) t)) ∧
       (s.sinkOn x = true → (∃ t, exec (.ccOvervoltage x) s = .next t ∧ Settles (((b.portEnds x).unattach x 5).put Hid.PO_CCOV x 1) t)) ∧
       (s.tc x = 6 → (∃ t, exec (.ccOvervoltage x) s = .next t ∧ Settles ((b.unattach x 6).put Hid.PO_CCOV x 1) t))) ∧
      (s.is Hid.PO_CCOV x = true →
        (s.tc x = 5 → (∃ t, exec (.ccOvRecovery x) s = .next t ∧ Settles ((s.put Hid.PO_CCOV x 0).put Reg.PORT_STAT_TC x 0) t)) ∧
        (s.tc x ≠ 5 → (∃ t, exec (.ccOvRecovery x) s = .next t ∧ Settles (s.put Hid.PO_CCOV x 0) t))) ∧
      (s.is Reg.PORT_STAT_VCONN x = true → (∃ t, exec (.vconnOvercurrent x) s = .next t ∧
        Settles ((((s.put Reg.PORT_STAT_VCONN x 0).put Hid.PO_VCOCP x 1).portFlag Reg.PORT_EVT_VCONN_OCP x).raise (96 + x)) t))) ∧
    (s.exch x = 0 → s.is Hid.PO_CMD x = false →
      (s.txOk x = true →
        (Permitted s w (0x3814 + 128 * x) 1 → ∃ t, exec (.cmdRenegotiate w x) s = .next t ∧ Settles ((s.arrive w).portAct x 1) t) ∧
        (Permitted s w (0x3814 + 128 * x) 2 → ∃ t, exec (.cmdPrSwap w x) s = .next t ∧ Settles ((s.arrive w).portAct x 2) t) ∧
        (Permitted s w (0x3814 + 128 * x) 3 → ∃ t, exec (.cmdDrSwap w x) s = .next t ∧ Settles ((s.arrive w).portAct x 3) t)) ∧
      (Permitted s w (0x3814 + 128 * x) 4 → ∃ t, exec (.cmdHardReset w x) s = .next t ∧ Settles ((s.arrive w).portAct x 4) t) ∧
      (Permitted s w (0x3814 + 128 * x) 6 → ∃ t, exec (.cmdClrLatch w x) s = .next t ∧ Settles ((s.arrive w).portAct x 6) t)) ∧
    (s.exch x ≠ 0 →
      (Permitted s w (0x3814 + 128 * x) 1 → ∃ t, exec (.cmdRenegotiate w x) s = .next t ∧ Settles ((s.arrive w).put Hid.PO_CMD x 1) t) ∧
      (Permitted s w (0x3814 + 128 * x) 2 → ∃ t, exec (.cmdPrSwap w x) s = .next t ∧ Settles ((s.arrive w).put Hid.PO_CMD x 2) t) ∧
      (Permitted s w (0x3814 + 128 * x) 3 → ∃ t, exec (.cmdDrSwap w x) s = .next t ∧ Settles ((s.arrive w).put Hid.PO_CMD x 3) t) ∧
      (Permitted s w (0x3814 + 128 * x) 4 → ∃ t, exec (.cmdHardReset w x) s = .next t ∧ Settles ((s.arrive w).put Hid.PO_CMD x 4) t) ∧
      (Permitted s w (0x3814 + 128 * x) 6 → ∃ t, exec (.cmdClrLatch w x) s = .next t ∧ Settles ((s.arrive w).put Hid.PO_CMD x 6) t)) ∧
    (s.up = true → s.portWaits x (s.get Hid.PO_CMD x) = false → s.is Hid.PO_CMD x = true →
      (∃ t, exec (.portCommandRelease x) s = .next t ∧ Settles ((s.put Hid.PO_CMD x 0).portAct x (s.get Hid.PO_CMD x)) t)) ∧
    (Permitted s w (0x3800 + 128 * x) (s.peek (0x3800 + 128 * x) - s.get Reg.PORT_CFG_EPR_EN x * 2 ^ 17) → ∃ t, exec (.eprExit w x) s = .next t ∧
      Settles ((s.arrive w).portCfg x (s.peek (0x3800 + 128 * x) - s.get Reg.PORT_CFG_EPR_EN x * 2 ^ 17)) t)

/- Gauge, Ledger, backup domain. -/

/-- The gauge's commands (R299, R302, R310 to R312, R315). The model's own readings in it: logs 3, 5, 7 and 53. -/
def Obligations.GaugeCommands : Prop :=
  ∀ (s : State) (w : Writer) (m : GaugeSample) (v peak : Nat) (i : Int) (ok : Bool),
    (s.carries = true → ¬ (s.get Hid.CELLHI2 0 = 1 ∧ (s.gaugeUpdate m).get Hid.CELLHI2 0 = 2) →
      (∃ t, exec (.gaugeUpdate m) s = .next t ∧ Settles (s.gaugeUpdate m) t)) ∧
    (s.carries = true → s.get Hid.CELLHI2 0 = 1 → (s.gaugeUpdate m).get Hid.CELLHI2 0 = 2 →
      (∃ t, exec (.gaugeUpdate m) s = .next t ∧ Settles (((s.gaugeUpdate m).chgFault 3).raise 93) t)) ∧
    (s.gaugeLive = true → s.shuntAmps peak < (s.iRest : Nat) →
      (∃ t, exec (.relaxedReference ⟨v, peak⟩) s = .next t ∧ Settles (((s.gaugeRef true ((v : Rat) / 1000) 3 1).gaugeReport).levels) t)) ∧
    (s.carries = true → s.is Reg.GG_STAT_REF_STALE 0 = false →
      72 * 3600 * 32768 ≤ s.gauge.hrs0 * 3600 * 32768 + (s.tick + 2 ^ 48 - s.gauge.refTick) % 2 ^ 48 →
      exec .refStaleSet s = .next (((s.irq 62).put Reg.GG_STAT_REF_STALE 0 1).put Reg.GG_STAT_STEPS 0 0)) ∧
    (Permitted s w 0x401C (s.get Reg.GG_CTRL_SPREAD_MAX 0 * 256 + 1) → ∃ t, exec (.newPack w) s = .next t ∧
      Settles (((s.arrive w).regStore 0x401C (s.get Reg.GG_CTRL_SPREAD_MAX 0 * 256 + 1)).newPack) t) ∧
    (s.carries = true → s.get Hid.NVM_JOB 0 = 1 → (∃ t, exec (.journalWriteDone ok) s = .next t ∧ Settles (s.journalDone ok) t)) ∧
    (s.carries = true → s.gauge.startDue = true → s.is Reg.PP_STAT_BATT_ABSENT 0 = false →
      (∃ u t, exec (.gaugeStartEstimate v i) s = .next t ∧ Settles u t ∧ u = s.gaugeStart ((v : Rat) / 1000) (s.shuntAmps i) ∧
        u.is Reg.GG_STAT_VALID 0 = true))

/-- The Ledger's commands (R323, R324, R326, R327, R330). The model's own readings in it: logs 11, 33 and 51. -/
def Obligations.LedgerCommands : Prop :=
  ∀ (s : State) (w : Writer) (n : SrcN) (j : Fin 4) (v : Word),
    (s.up = true → s.is Hid.LS_WIN n = true → (∃ t, exec (.ledgerWindowExpiry n) s = .next t ∧
      Settles (((s.passTime (s.get Hid.LS_WIN_T n + s.winUs n - s.usec)).put Reg.LS_STAT_COUNT n 0).put Hid.LS_WIN n 0) t)) ∧
    (let b := s.passTime (s.get Hid.LS_QT n + s.quietUs n - s.usec)
     s.up = true → isUnit n = true → s.is Reg.LS_STAT_QUIET n = true → b.up = true →
      (b.get Reg.LS_STAT_RCV n < b.get Reg.LS_TIME_RCV_MAX n → (∃ t, exec (.quietPeriodEnd n) s = .next t ∧
        Settles ((b.sat Reg.LS_STAT_RCV n 255).admitUnit n) t)) ∧
      (b.get Reg.LS_TIME_RCV_MAX n ≤ b.get Reg.LS_STAT_RCV n →
        (∃ t, exec (.quietPeriodEnd n) s = .next t ∧ Settles ((b.put Reg.LS_STAT_QUIET n 0).put Reg.LS_STAT_WAIT_HOST n 1) t))) ∧
    (isLink w = true →
      (Permitted s w 0x4808 (n + 256) → ∃ t, exec (.hostAdmit w n) s = .next t ∧ Settles ((s.arrive w).hostAdmit (n + 256)) t) ∧
      (Permitted s w 0x4808 (n + 512) → ∃ t, exec (.rcvClr w n) s = .next t ∧ Settles ((s.arrive w).put Reg.LS_STAT_RCV n 0) t)) ∧
    (isLink w = false → (Permitted s w 0x4808 (n + 256) → ∃ t, exec (.hostAdmit w n) s = .next t ∧ Settles (s.arrive w) t) ∧
      (Permitted s w 0x4808 (n + 512) → ∃ t, exec (.rcvClr w n) s = .next t ∧ Settles (s.arrive w) t)) ∧
    (Permitted s w (0x4810 + 4 * j) v.toNat → ∃ t, exec (.stickyClear w j v) s = .next t ∧
      Settles ((s.arrive w).forEach (below 32 (fun i => v.toNat.testBit i)) (fun b i => b.clearSticky (32 * j + i))) t) ∧
    (s.up = true → s.busDrv = false →
      (s.is Hid.BUS_ARM 0 = true → (∃ t, exec .fltbusIn s = .next t ∧ Settles (((s.put Reg.LG_STAT_BUS_LOW 0 1).put Hid.BUS_ARM 0 0).raise 108) t)) ∧
      (s.is Hid.BUS_ARM 0 = false → (∃ t, exec .fltbusIn s = .next t ∧ Settles (s.put Reg.LG_STAT_BUS_LOW 0 1) t)) ∧
      exec .fltbusNHigh s = .next ((s.put Reg.LG_STAT_BUS_LOW 0 0).put Hid.BUS_ARM 0 1))

/-- One event registered (R322 to R324, R329): its sticky bit sets; the class is CLASS, or ESC_CLASS on escalation, with its floor; GRAVE sets the
grave flag and names its source once; and no other source's sticky bit, class or count changes. -/
def Obligations.LedgerClassifiesAnEvent : Prop :=
  ∀ (s : State) (n : SrcN),
    let e := (s.setArr Reg.LG_STICKY_STICKY n true).countEvent n
    let cls := classOf n (s.get (if e.1 then Reg.LS_CFG_ESC_CLASS else Reg.LS_CFG_CLASS) n)
    let u := (s.classify n).2
    (s.classify n).1.1 = cls ∧
    u.arr Reg.LG_STICKY_STICKY n = true ∧ u.get Reg.LG_STAT_LAST_SRC 0 = n ∧ u.get Reg.LG_STAT_LAST_CLASS 0 = cls ∧
    (s.get Reg.LS_STAT_CUR_CLASS n ≤ 4 → cls ≤ u.get Reg.LS_STAT_CUR_CLASS n) ∧
    u.grave = (s.grave || cls == 4) ∧ (s.grave = true → u.get Reg.LG_STAT_GRAVE_SRC 0 = s.get Reg.LG_STAT_GRAVE_SRC 0) ∧
    (s.grave = false → cls = 4 → u.get Reg.LG_STAT_GRAVE_SRC 0 = n) ∧
    (∀ m : SrcN, m ≠ n → u.arr Reg.LG_STICKY_STICKY m = s.arr Reg.LG_STICKY_STICKY m ∧
      u.get Reg.LS_STAT_CUR_CLASS m = s.get Reg.LS_STAT_CUR_CLASS m ∧ u.get Reg.LS_STAT_COUNT m = s.get Reg.LS_STAT_COUNT m)

/-- The backup domain (R333, R334, R336, R339, R343 to R347). The model's own readings in it: logs 11, 21, 34 and 52. -/
def Obligations.BackupDomain : Prop :=
  ∀ (s : State) (w : Writer) (temp : Int) (hi : BitVec 24),
    (s.vao = false → s.domain = true →
      (∃ t, exec .backupDomainReset s = .next t ∧ t.domain = false ∧ t.bkq = [] ∧
        (∀ f n, n < f.count → f.kept = .k → (∀ g ∈ [Hid.DOM_ON, Hid.ON_VBKUP, Hid.VBKUP_OK], f.key n ≠ g.key 0) → t.get f n = f.dflt n))) ∧
    (s.domain = true →
      (s.is Hid.VBKUP_OK 0 = true → exec (.supplyChangeover true) s = .next (s.put Hid.ON_VBKUP 0 1)) ∧
      (s.vao = true → exec (.supplyChangeover false) s = .next (s.put Hid.ON_VBKUP 0 0)) ∧
      (s.is Reg.BK_STAT_VBKUP_LOW 0 = false → s.runs = true → (∃ u t, exec .vbkupLow s = .next t ∧ Settles u t ∧ u.is Reg.BK_STAT_VBKUP_LOW 0 = true ∧
        107 ∈ u.evq)) ∧
      (s.is Reg.BK_STAT_ON_RC 0 = false → s.runs = true →
        (∃ u t, exec .crystalLoss s = .next t ∧ Settles u t ∧ u.is Reg.BK_STAT_ON_RC 0 = true ∧ u.is Reg.BK_STAT_RC_SEEN 0 = true ∧ 106 ∈ u.evq)) ∧
      exec .crystalReturn s = .next (s.put Reg.BK_STAT_ON_RC 0 0) ∧
      (s.tick % 2 ^ 20 = 0 → exec (.trimWindow temp) s = .next (s.trimStart temp)) ∧
      (s.is Hid.RTC_DUE 0 = true → s.bkUnder 0x5018 = false → s.bkUnder 0x501C = false →
        (∃ t, exec .rtcTimeLoad s = .next t ∧ t = s.slowTick ∧ t.is Hid.RTC_DUE 0 = false ∧ t.is Reg.BK_STAT_UNSET 0 = false ∧
          t.tick = (s.tick + 1) % 2 ^ 48)) ∧
      (∃ t, exec .pwrbtnPress s = .next t ∧ Settles s.button t) ∧
      exec .vbkupLowClear s = .next ((s.put Reg.BK_STAT_VBKUP_LOW 0 0).put Hid.VBKUP_OK 0 1)) ∧
    (∀ a v rest, s.vao = true → s.domain = true → s.bkq = (a, v) :: rest →
      exec .backupWriteSync s = .next ({ s with bkq := rest }.bkApply a v.toNat)) ∧
    (Permitted s w 0x501C (hi.toNat + 2 ^ 31) → ∃ t, exec (.rtcSet w hi) s = .next t ∧
      Settles ({ (s.arrive w) with bkq := s.bkq ++ [(0x501C, BitVec.ofNat 32 (hi.toNat + 2 ^ 31))] }) t) ∧
    (s.almDue = true → (∃ t, exec .alarmFire s = .next t ∧ Settles s.almFire t))

/- Interrupts and timers. -/

/-- Interrupts (R353, R354, R356, R357). -/
def Obligations.InterruptsPendAndAreServed : Prop :=
  ∀ (s : State) (w : Writer) (t : Target) (j : Fin 8) (v : Word),
    (Permitted s w (0x54C0 + 4 * j) v.toNat → ∃ t, exec (.softwarePend w j v) s = .next t ∧ Settles ((s.arrive w).softPend j v.toNat) t) ∧
    (Permitted s w (0x54E0 + 4 * j) v.toNat → ∃ t, exec (.softwareClear w j v) s = .next t ∧
      Settles ((s.arrive w).put Hid.IS_SOFT j ((s.arrive w).get Hid.IS_SOFT j - ((s.arrive w).get Hid.IS_SOFT j &&& v.toNat))) t) ∧
    (s.linked w = true → s.grave = false ∨ isStall w = true → s.serves w t = true →
      (∀ n, (s.arrive w).claimPick t = some n →
        (∃ t', exec (.irqClaim w t) s = .next t' ∧ Settles ({ (s.arrive w).claimTake t n with out := [BitVec.ofNat 32 n] }) t')) ∧
      ((s.arrive w).claimPick t = none → (∃ t', exec (.irqClaim w t) s = .next t' ∧ Settles ({ s.arrive w with out := [0x1FF] }) t'))) ∧
    (s.linked w = true → s.grave = true → isStall w = false → s.serves w t = true →
      (∃ t', exec (.irqClaim w t) s = .next t' ∧ Settles ({ s.arrive w with out := [BitVec.ofNat 32 (((s.arrive w).claimPick t).getD 0x1FF)] }) t')) ∧
    (s.linked w = true → s.grave = false ∨ isStall w = true → s.serves w t = false →
      (∃ t', exec (.irqClaim w t) s = .next t' ∧ Settles ({ (s.arrive w).put Reg.IC_STAT_CLAIM_BAD 0 1 with out := [0x1FF] }) t')) ∧
    (v.toNat % 512 = 0x1FF → (Permitted s w (0x5560 + 4 * t) v.toNat → ∃ t', exec (.irqComplete w t v) s = .next t' ∧ Settles (s.arrive w) t')) ∧
    (∀ n, v.toNat % 512 = n → n < 256 → s.arr Reg.IS_ACT_ACT n = true → s.get Hid.IS_CLM n = t →
      (Permitted s w (0x5560 + 4 * t) v.toNat → ∃ t', exec (.irqComplete w t v) s = .next t' ∧
        Settles (((s.arrive w).setArr Reg.IS_ACT_ACT n false).wake n) t')) ∧
    (∀ n, v.toNat % 512 = n → n ≠ 0x1FF → (256 ≤ n ∨ s.arr Reg.IS_ACT_ACT n = false ∨ s.get Hid.IS_CLM n ≠ t) →
      (Permitted s w (0x5560 + 4 * t) v.toNat → ∃ t', exec (.irqComplete w t v) s = .next t' ∧
        Settles ((s.arrive w).setBit Reg.IC_STAT_COMP_BAD 0 t true) t'))

/-- The source a claim takes is presentable, none of the others has a higher priority, and none of its priority a lower number (R356). -/
def Obligations.ClaimTakesTheHighestPriority : Prop :=
  ∀ (s : State) (t : Target),
    (s.claimPick t = none → ∀ n, n < 256 → s.presentable t n = false) ∧
    (∀ n, s.claimPick t = some n → n < 256 ∧ s.presentable t n = true ∧
      ∀ m, m < 256 → s.presentable t m = true → s.isPri m < s.isPri n ∨ (s.isPri m = s.isPri n ∧ n ≤ m))

/-- The timers (R359, R360, R362 to R364). The model's own readings in it: logs 11 and 24. -/
def Obligations.TimersCountMatchAndStop : Prop :=
  ∀ (s : State) (w : Writer) (n : TmrN) (v : Word) (hi : Bool),
    (s.carries = true → s.tmRun n = true →
      (∃ t, exec (.timerMatch n) s = .next t ∧ Settles (s.tmWait n (s.tmToMatch n)) t) ∧
        (∃ t, exec (.timerOverflow n) s = .next t ∧ Settles (s.tmWait n (s.tmToWrap n)) t) ∧
      (s.is Reg.TM_STAT_MAT_PEND n = true → (∃ t, exec (.timerMatchCommit n) s = .next t ∧ Settles (s.tmWait n 1) t))) ∧
    (Permitted s w (0x5800 + 32 * n) (s.tmWord n / 2 * 2 + 1) → ∃ t, exec (.timerStart w n) s = .next t ∧
      Settles ((s.arrive w).tmCtrl n (s.tmWord n / 2 * 2 + 1)) t) ∧
    (Permitted s w (0x5800 + 32 * n) (s.tmWord n / 2 * 2) → ∃ t, exec (.timerStop w n) s = .next t ∧ Settles ((s.arrive w).tmCtrl n (s.tmWord n / 2 * 2)) t) ∧
    (Permitted s w 0x5A00 1 → ∃ t, exec (.gstart w) s = .next t ∧
      Settles ((s.arrive w).forEach (s.arrive w).armed (fun b k => b.put Reg.TM_CTRL_RUN k 1)) t) ∧
    (Permitted s w 0x5A00 2 → ∃ t, exec (.gstop w) s = .next t ∧ Settles ((s.arrive w).forEach (s.arrive w).armed State.tmStop) t) ∧
    (s.tmRun n = true → (Permitted s w (0x5810 + 32 * n) v.toNat → ∃ t, exec (.timerMatHiWrite w n v) s = .next t ∧
      Settles (((s.arrive w).put Reg.TM_MAT_HI_MAT n v.toNat).put Reg.TM_STAT_MAT_PEND n 1) t)) ∧
    (s.tmRun n = false → (Permitted s w (0x5810 + 32 * n) v.toNat → ∃ t, exec (.timerMatHiWrite w n v) s = .next t ∧
      Settles (((s.arrive w).put Reg.TM_MAT_HI_MAT n v.toNat).tmCommit n) t)) ∧
    (s.linked w = true →
      (s.tmRun n = true → (∃ t, exec (.timerCountRead w n hi) s = .next t ∧
        Settles ({ (s.arrive w).put Reg.TM_STAT_RD_RUN_ERR n 1 with out := [0xFFFFFFFF] }) t)) ∧
      (s.tmRun n = false → (∃ t, exec (.timerCountRead w n hi) s = .next t ∧
        Settles ({ s.arrive w with out := [BitVec.ofNat 32 ((s.arrive w).peek (0x5814 + 32 * n + (if hi then 4 else 0)))] }) t)))

/- Links. -/

/-- SPI frames (R369 to R374): all words of a write frame whose CRC is right act in order, and none of one whose CRC is wrong. The model's own readings in it: logs 46 and 47. -/
def Obligations.SpiFrames : Prop :=
  ∀ (s : State) (addr : BitVec 16) (burst hdr crc : BitVec 8) (words : List Word) (early : Bool) (k : Nat), s.linked .spi = true →
    (words.length = burst.toNat + 1 →
      (crc.toNat = crc8 (spiHead 0x02 addr burst ++ spiBytes words) →
        (∃ t, exec (.spiWriteFrame addr burst words crc) s = .next t ∧ Settles ((s.demand.spiFrame .spi).writeBurst .spi addr.toNat words) t)) ∧
      (crc.toNat ≠ crc8 (spiHead 0x02 addr burst ++ spiBytes words) →
        (∃ t, exec (.spiWriteFrame addr burst words crc) s = .next t ∧
          Settles (((s.demand.spiFrame .spi).sat Reg.HL_SPI_ERR_WR_CRC 0 255).setBit Hid.SPI_LAST 0 1 true) t))) ∧
    (words.length ≠ burst.toNat + 1 →
      (∃ t, exec (.spiWriteFrame addr burst words crc) s = .next t ∧ Settles ((s.demand.put Reg.HL_SPI_ERR_FRAME_BAD 0 1).put Hid.SPI_LAST 0 1) t)) ∧
    (s.fclk = true → crc8 (spiHead 0x0B addr burst) = hdr.toNat →
      let r := (s.spiFrame .spi).readBurst .spi addr.toNat (burst.toNat + 1)
      (∃ t, exec (.spiReadFrame addr burst hdr k) s = .next t ∧
        Settles ({ r.2 with out := spiWords (spiBytes r.1) ++ [BitVec.ofNat 32 (crc8 (spiHead 0x0B addr burst ++ [hdr, 0] ++ spiBytes r.1))] }) t)) ∧
    (s.fclk = true → crc8 [0x05] = hdr.toNat →
      (∃ t, exec (.spiStatusFrame hdr early) s = .next t ∧
        Settles ({ s.demand with out := [BitVec.ofNat 32 (s.spiStatus % 256), BitVec.ofNat 32 (crc8 [0x05, hdr, 0, BitVec.ofNat 8 s.spiStatus])] }) t)) ∧
    (∃ t, exec (.spiFrameBad .command) s = .next t ∧
      Settles (((s.demand.put Reg.HL_SPI_ERR_FRAME_BAD 0 1).put Hid.SPI_LAST 0 1).put Reg.HL_SPI_ERR_CMD_BAD 0 1) t) ∧
    (∃ t, exec (.spiFrameBad .length) s = .next t ∧ Settles ((s.demand.put Reg.HL_SPI_ERR_FRAME_BAD 0 1).put Hid.SPI_LAST 0 1) t) ∧
    (∃ t, exec (.spiFrameBad .busy) s = .next t ∧
      Settles (((s.demand.put Reg.HL_SPI_ERR_FRAME_BAD 0 1).put Hid.SPI_LAST 0 1).put Reg.HL_SPI_ERR_BUSY_DROP 0 1) t)

/-- SMBus registers (R375 to R377): the pointer, the length, and blocks read and written through them; a wrong PEC is refused whole. The model's own readings in it: logs 46 and 48. -/
def Obligations.SmbusRegisterAccess : Prop :=
  ∀ (s : State) (p : BitVec 16) (v pec : BitVec 8) (data : List (BitVec 8)), s.smbUp = true →
    let b : State := { s.demand with out := [] }
    let n := s.demand.get Reg.HL_SMB_STAT_RD_WORDS 0
    let q := s.demand.get Hid.PM_PTR 0
    let refused (u : State) : Prop := u = (b.put Reg.HL_SMB_STAT_PEC_ERR 0 1).setBit Hid.PM_CML 0 5 true
    let good (cmd : BitVec 8) (l : List (BitVec 8)) : Prop := pec.toNat = crc8 (s.demand.smbHead cmd ++ l)
    (good 0xD0 (leBytes 2 p.toNat) → (∃ t, exec (.mfrRegPtr (some p) (some pec)) s = .next t ∧ Settles (b.put Hid.PM_PTR 0 p.toNat) t)) ∧
    (¬ good 0xD0 (leBytes 2 p.toNat) → (∃ u t, exec (.mfrRegPtr (some p) (some pec)) s = .next t ∧ Settles u t ∧ refused u)) ∧
    (∃ t, exec (.mfrRegPtr none none) s = .next t ∧ Settles (s.demand.smbSend 0xD0 (leBytes 2 q)) t) ∧
    (good 0xD2 [v] → (∃ t, exec (.mfrRegLen (some v) (some pec)) s = .next t ∧
      Settles (b.put Reg.HL_SMB_STAT_RD_WORDS 0 (if v = 0 then 1 else min v.toNat 8)) t)) ∧
    (∃ t, exec (.mfrRegLen none none) s = .next t ∧ Settles (s.demand.smbSend 0xD2 (leBytes 1 n)) t) ∧
    (data ≠ [] → data.length % 4 = 0 → data.length ≤ 32 →
      (good 0xD1 (BitVec.ofNat 8 data.length :: data) →
        (∃ t, exec (.mfrRegDataWrite data (some pec)) s = .next t ∧ Settles ((b.writeBurst .smbus q (smbWords data)).put Hid.PM_PTR 0 (q + data.length)) t)) ∧
      (¬ good 0xD1 (BitVec.ofNat 8 data.length :: data) → (∃ u t, exec (.mfrRegDataWrite data (some pec)) s = .next t ∧ Settles u t ∧ refused u))) ∧
    (∃ u t, exec .mfrRegDataRead s = .next t ∧ Settles u t ∧ (let r := s.demand.readBurst .smbus q n
      u = (r.2.put Hid.PM_PTR 0 (q + 4 * n)).smbSend 0xD1 (BitVec.ofNat 8 (4 * n) :: r.1.flatMap (fun w => leBytes 4 w.toNat)))) ∧
    (s.is Reg.HL_SMB_CFG_TMO_EN 0 = true → (∃ t, exec .smbusTimeout s = .next t ∧ Settles (s.put Reg.HL_SMB_STAT_TIMEOUT 0 1) t)) ∧
    (s.is Reg.HL_SMB_CFG_ARA_EN 0 = true → s.is Hid.PM_ALERT 0 = true →
      (∃ t, exec (.alertResponse true) s = .next t ∧
        Settles ({ s.demand.put Hid.PM_ALERT 0 0 with out := [BitVec.ofNat 32 (s.demand.get Reg.HL_SMB_CFG_ADDR 0)] }) t))

/-- PMBus constants, readings and limits (R378, R379, R381). The model's own readings in it: logs 3, 46 and 48. -/
def Obligations.PmbusReadings : Prop :=
  ∀ (s : State), s.smbUp = true → s.demand.page ≠ 0xFF →
    let b := s.demand
    let nack (u : State) : Prop := u = { b.setBit Hid.PM_CML 0 7 true with out := [] }
    let volt (c : Instr) (cmd : BitVec 8) (f : Fld) : Prop :=
      (∀ n, b.pageChan b.page = some n → b.get Reg.CH_CFG_MODE n = 0 →
        (∃ t, exec c s = .next t ∧ Settles (b.smbSend cmd (leBytes 2 ((2 * (5 * b.get f n) + 32) / 64))) t)) ∧
      (∀ n, b.pageChan b.page = some n → b.get Reg.CH_CFG_MODE n = 1 →
        (∃ t, exec c s = .next t ∧ Settles (b.smbSend cmd (leBytes 2 ((2 * (3 * b.get f n) + 8) / 16))) t)) ∧
      (b.pageChan b.page = none → (∃ u t, exec c s = .next t ∧ Settles u t ∧ nack u))
    (∃ t, exec .capability s = .next t ∧ Settles (b.smbSend 0x19 [0xD0]) t) ∧ (∃ t, exec .voutMode s = .next t ∧ Settles (b.smbSend 0x20 [0x14]) t) ∧
    (∃ t, exec .pmbusRevision s = .next t ∧ Settles (b.smbSend 0x98 [0x44]) t) ∧
    (∃ t, exec .mfrId s = .next t ∧ Settles (b.smbSend 0x99 [5, 0x4C, 0x41, 0x4C, 0x56, 0x4F]) t) ∧
    (∃ t, exec .mfrModel s = .next t ∧ Settles (b.smbSend 0x9A [7, 0x53, 0x43, 0x4E, 0x34, 0x31, 0x39, 0x32]) t) ∧
    (∃ t, exec .mfrRevision s = .next t ∧ Settles (b.smbSend 0x9B [2, hexDigit (b.get Reg.DEV_ID_REV 0 / 16), hexDigit (b.get Reg.DEV_ID_REV 0 % 16)]) t) ∧
    (b.page < 8 → (∃ t, exec (.voutCommand false) s = .next t ∧
      Settles (b.smbSend 0x21 (leBytes 2 ((2 * (b.get Reg.LP_REF_TARGET b.page * 4096) + 1000) / 2000))) t)) ∧
    (8 ≤ b.page → (∃ u t, exec (.voutCommand false) s = .next t ∧ Settles u t ∧ nack u)) ∧
      (∃ u t, exec (.voutCommand true) s = .next t ∧ Settles u t ∧ nack u) ∧
    volt (.voutOvFaultLimit false) 0x40 Reg.CH_OV_OVF ∧ volt (.voutOvWarnLimit false) 0x42 Reg.CH_OV_OVW ∧
    volt (.voutUvWarnLimit false) 0x43 Reg.CH_UV_UVW ∧ volt (.voutUvFaultLimit false) 0x44 Reg.CH_UV_UVF ∧ volt .readVout 0x8B Reg.CH_DATA_VALUE ∧
    (∀ c ∈ [Instr.voutOvFaultLimit true, .voutOvWarnLimit true, .voutUvWarnLimit true, .voutUvFaultLimit true],
      (∃ t, exec c s = .next t ∧ Settles ({ b with out := [] }) t)) ∧
    (∀ n, b.pageChan b.page = some n → (∃ t, exec .mfrReadRaw s = .next t ∧ Settles (b.smbSend 0xD3 (4 :: leBytes 4 (b.chData n).toNat)) t)) ∧
    (8 ≤ b.page → (∃ u t, exec .readIout s = .next t ∧ Settles u t ∧ nack u)) ∧
    (∀ n w, b.page < 8 → b.get Reg.PM_LOOP_ICH b.page = n → n < 192 → n % 2 = 0 → b.get Reg.CH_CFG_MODE n = 2 →
      linear11 (shuntAmps (b.get Reg.CH_DATA_VALUE n) (b.get Reg.PM_LOOP_RSH b.page)).1
        (shuntAmps (b.get Reg.CH_DATA_VALUE n) (b.get Reg.PM_LOOP_RSH b.page)).2.1
        (shuntAmps (b.get Reg.CH_DATA_VALUE n) (b.get Reg.PM_LOOP_RSH b.page)).2.2 = some w →
      (∃ t, exec .readIout s = .next t ∧ Settles (b.smbSend 0x8C (leBytes 2 w)) t))

/-- PMBus pages and status (R378 to R380, R382). The model's own readings in it: logs 46 and 48. -/
def Obligations.PmbusPagesAndStatus : Prop :=
  ∀ (s : State) (v pec code : BitVec 8), s.smbUp = true →
    let b := s.demand
    let e : State := { b with out := [] }
    let nack (bit : Nat) (u : State) : Prop := u = { b.setBit Hid.PM_CML 0 bit true with out := [] }
    let good (cmd : BitVec 8) (l : List (BitVec 8)) : Prop := pec.toNat = crc8 (b.smbHead cmd ++ l)
    let clears (mk : Option (BitVec 8) → Option (BitVec 8) → Instr) (cmd : BitVec 8) (f : Fld) (value pack : Nat → Nat) : Prop :=
      (∃ t, exec (mk none none) s = .next t ∧ Settles (b.smbSend cmd (leBytes 1 (value b.page))) t) ∧
      (good cmd [v] → (∃ t, exec (mk (some v) (some pec)) s = .next t ∧
        Settles (((e.put f e.page (e.get f e.page - (e.get f e.page &&& pack v.toNat))).relatch e.page).alertOff) t))
    (pageOk v.toNat = true → good 0x00 [v] → (∃ t, exec (.page (some v) (some pec)) s = .next t ∧ Settles (e.put Hid.PM_PAGE 0 v.toNat) t)) ∧
    (pageOk v.toNat = false → (∃ u t, exec (.page (some v) (some pec)) s = .next t ∧ Settles u t ∧ nack 6 u)) ∧
    (∃ t, exec (.page none none) s = .next t ∧ Settles (b.smbSend 0x00 (leBytes 1 b.page)) t) ∧
    (good 0x03 [] → b.page ≠ 0xFF → (∃ t, exec (.clearFaults (some pec)) s = .next t ∧ Settles ((e.pageClear e.page).alertOff) t)) ∧
    (good 0x7E [v] → (∃ t, exec (.statusCml (some v) (some pec)) s = .next t ∧
      Settles (e.put Hid.PM_CML 0 (e.get Hid.PM_CML 0 - (e.get Hid.PM_CML 0 &&& v.toNat))) t)) ∧
    (code.toNat ∉ pmCodes → (∃ u t, exec (.pmbusInvalidCommand code) s = .next t ∧ Settles u t ∧ nack 7 u)) ∧
    (b.page = 0xFF → (∃ u t, exec .statusByte s = .next t ∧ Settles u t ∧ nack 6 u) ∧ (∃ u t, exec .statusWord s = .next t ∧ Settles u t ∧ nack 6 u)) ∧
    (b.page ≠ 0xFF →
      (∃ t, exec .statusByte s = .next t ∧ Settles (b.latchUnknown.smbSend 0x78 (leBytes 1 (b.latchUnknown.statusWord b.latchUnknown.page))) t) ∧
      (∃ t, exec .statusWord s = .next t ∧ Settles (b.latchUnknown.smbSend 0x79 (leBytes 2 (b.latchUnknown.statusWord b.latchUnknown.page))) t) ∧
      clears .statusVout 0x7A Hid.PM_VOUT (fun p => 16 * b.get Hid.PM_VOUT p) (fun x => x / 16) ∧
      clears .statusIout 0x7B Hid.PM_IOUT b.stIout (fun x => 2 * bits x 7 7 + bits x 5 5) ∧
      clears .statusTemperature 0x7D Hid.PM_TEMP (fun p => 64 * b.get Hid.PM_TEMP p) (fun x => x / 64))

/- Security, debug, NVM. -/

/-- Lifecycle, key hashes and debug sessions (R387, R389, R394 to R396, R398, R399). The model's own readings in it: logs 3, 6, 25, 49 and 72. -/
def Obligations.SecurityAndDebug : Prop :=
  ∀ (s : State) (w : Writer) (v : Word) (st : Stl) (scope : BitVec 8) (key sig : BitVec 512),
    let b := s.put Hid.EXT 0 0
    (Permitted s w 0x7004 v.toNat → ∃ t, exec (.lifecycleRequest w v) s = .next t ∧
      Settles ((s.arrive w).lcRequest (w == .debug) (isLink w || w == .stl 0) v.toNat) t) ∧
    (Permitted s w 0x7080 v.toNat → ∃ t, exec (.otpHashProgram w v) s = .next t ∧ Settles ((s.arrive w).otpCmd v.toNat) t) ∧
    (s.vao = true → s.get Hid.OTPJOB 0 = 4 → (∃ t, exec .lifecycleOtpDone s = .next t ∧ Settles (s.lcStepped.warmReset Reg.RST_CAUSE_HOST) t)) ∧
    (s.vao = true → 1 ≤ s.get Hid.OTPJOB 0 → s.get Hid.OTPJOB 0 ≤ 3 → (∃ t, exec .otpHashDone s = .next t ∧
      Settles ((s.setBit Reg.SEC_LC_HASH_SET 0 (s.get Hid.OTPJOB 0 - 1) true).put Hid.OTPJOB 0 0) t)) ∧
    (s.runs = true →
      (s.lc ≠ lcField → s.session = 0 → (∃ t, exec .debugOpen s = .next t ∧ Settles ((b.put Reg.SEC_DBG_SESSION 0 1).raise 109) t)) ∧
      (s.lc = lcField → (∃ t, exec .debugOpen s = .next t ∧ Settles b t)) ∧
      (s.is Hid.RSPBUSY 0 = false → s.lockedOut = false → (∃ u t, exec .debugChallenge s = .next t ∧ Settles u t ∧ u.is Hid.NONCE_OK 0 = true ∧
        u.get Hid.NONCE_T 0 = s.usec % 2 ^ 64 ∧ u.free = s.free + 4)) ∧
      (s.is Hid.RSPBUSY 0 = true ∨ s.lockedOut = true → (∃ t, exec .debugChallenge s = .next t ∧ Settles b t)) ∧
      (s.is Hid.NONCE_OK 0 = true → s.is Hid.RSPBUSY 0 = false →
        (s.usec < s.get Hid.NONCE_T 0 + 60000000 → (∃ t, exec (.debugResponse scope key sig) s = .next t ∧
          Settles (((b.put Hid.RSPBUSY 0 1).put Hid.RSPSCOPE 0 scope.toNat).mark Hid.RSPOK 0 (b.rspGood scope.toNat key sig)) t)) ∧
        (s.get Hid.NONCE_T 0 + 60000000 ≤ s.usec → (∃ t, exec (.debugResponse scope key sig) s = .next t ∧ Settles b.spendNonce t))) ∧
      (s.is Hid.RSPBUSY 0 = true →
        (s.is Hid.RSPOK 0 = false → (∃ u t, exec .debugResponseVerified s = .next t ∧ Settles u t ∧
          u.get Reg.SEC_DBG_SESSION 0 = s.get Reg.SEC_DBG_SESSION 0 ∧ u.is Hid.LOCKOUT 0 = true ∧ u.get Hid.LOCK_T 0 = s.usec % 2 ^ 64 ∧
          u.is Hid.NONCE_OK 0 = false)) ∧
        (s.is Hid.RSPOK 0 = true → s.get Hid.RSPSCOPE 0 ≤ 3 → (∃ u t, exec .debugResponseVerified s = .next t ∧ Settles u t ∧
          u.get Reg.SEC_DBG_SESSION 0 = s.get Hid.RSPSCOPE 0 + 1 ∧ u.is Hid.NONCE_OK 0 = false))) ∧
      (s.is Hid.NONCE_OK 0 = true → s.is Hid.RSPBUSY 0 = false → (∃ u t, exec .nonceExpiry s = .next t ∧ Settles u t ∧
        u = (s.passTime (s.get Hid.NONCE_T 0 + 60000000 - s.usec)).spendNonce ∧ u.is Hid.NONCE_OK 0 = false)) ∧
      (∃ u t, exec .debugClose s = .next t ∧ Settles u t ∧ u = s.endSession ∧ u.session = 0) ∧
        (∃ u t, exec .trstLow s = .next t ∧ Settles u t ∧ u = s.endSession ∧ u.session = 0) ∧
      (s.session ≠ 0 → b.dbgFull = true → s.sl st = slRun ∨ s.sl st = slWait →
        (∃ t, exec (.debugHalt st) s = .next t ∧ Settles (b.put Hid.S_HALT st 1) t) ∧
        (s.is Hid.S_HALT st = true → ((b.put Hid.S_HALT st 0).stepOne st).session ≠ 0 →
          (∃ t, exec (.debugStep st) s = .next t ∧ Settles (((b.put Hid.S_HALT st 0).stepOne st).put Hid.S_HALT st 1) t))) ∧
      (s.dbgFull = true → s.lc ≠ lcField → s.quietRails = true → s.sqAsserted = false → (∃ t, exec .extest s = .next t ∧ Settles (s.put Hid.EXT 0 1) t)) ∧
      (s.dbgFull = false → (∃ t, exec .extest s = .next t ∧ Settles (s.put Reg.SEC_DBG_EXTEST_REF 0 1) t))) ∧
    (s.vao = true → s.is Hid.LOCKOUT 0 = true → (∃ t, exec .debugLockoutEnd s = .next t ∧
      Settles ((s.passTime (s.get Hid.LOCK_T 0 + 10000000 - s.usec)).put Hid.LOCKOUT 0 0) t)) ∧
    (s.vao = true → (∃ t, exec .idcode s = .next t ∧ Settles ({ b with out := [0x14192B43] }) t))

/-- Test perturbation, the NVM window and BOOT_CFG (R400, R401, R406, R408, R409). The model's own readings in it: logs 9, 41 and 49. -/
def Obligations.PerturbationAndNvm : Prop :=
  ∀ (s : State) (w : Writer) (v : Word) (addr : BitVec 16) (off : BitVec 14) (ok : Bool),
    (0x7800 ≤ addr.toNat → addr.toNat < 0x8000 →
      (Permitted s w (addr.toNat / 4 * 4) v.toNat → ∃ t, exec (.tpertApply w addr v) s = .next t ∧
        Settles ((s.arrive w).store w (addr.toNat / 4 * 4) v.toNat) t)) ∧
    (addr.toNat < 0x7800 ∨ 0x8000 ≤ addr.toNat → exec (.tpertApply w addr v) s = .next s) ∧
    (Permitted s w 0x7800 v.toNat → ∃ t, exec (.tpertLockstepOneshot w v) s = .next t ∧ Settles ((s.arrive w).tpCtrl v.toNat) t) ∧
    (Permitted s w 0x7800 v.toNat → ∃ t, exec (.tpertRefFail w v) s = .next t ∧ Settles ((s.arrive w).tpCtrl v.toNat) t) ∧
    ((pageRegion s.nvmPage).isSome = true → s.nvmq.length < 16 →
      (Permitted s w (0x8000 + off.toNat / 4 * 4) v.toNat → ∃ t, exec (.nvmWindowWrite w off v) s = .next t ∧
        Settles ({ (s.arrive w) with nvmq := s.nvmq ++ [(s.nvmPage * 0x4000 + off.toNat / 4 * 4, v)] }.nvmNext) t)) ∧
    ((pageRegion s.nvmPage).isSome = true → 16 ≤ s.nvmq.length →
      (Permitted s w (0x8000 + off.toNat / 4 * 4) v.toNat → ∃ t, exec (.nvmWindowWrite w off v) s = .next t ∧
        Settles ((s.arrive w).put Reg.NVM_STAT_DROP 0 1) t)) ∧
    (pageRegion s.nvmPage = none → (Permitted s w (0x8000 + off.toNat / 4 * 4) v.toNat → ∃ t, exec (.nvmWindowWrite w off v) s = .next t ∧
      Settles (s.arrive w) t)) ∧
    (s.vao = true → s.get Hid.NVM_JOB 0 = 3 → (∃ t, exec (.nvmUnitWriteDone ok) s = .next t ∧ Settles ((s.queueUnit ok).nvmNext) t)) ∧
    (Permitted s w 0x18 v.toNat → ∃ t, exec (.bootCfgWrite w v) s = .next t ∧
      Settles ((s.arrive w).nvmQueue bootCfgAddr (((s.arrive w).nvmSeen bootCfgAddr).toNat / 2 * 2 + v.toNat % 2)) t)
end

