-- ==== Sys2Proof/Laws/Cells.lean ====
section
/-! SUPPORT. The laws of the sparse stores: what a store reads as after a change, that a change keeps the canonical form, and that stores in
canonical form are equal where they read alike. -/

namespace Sys2Proof

variable {α : Type}

theorem Cells.look_del [Inhabited α] (l : Cells α) (a b : Nat) :
    Cells.look (Cells.del l a) b = if b = a then default else Cells.look l b := by
  induction l with
  | nil => simp [Cells.del, Cells.look]
  | cons c t ih =>
    unfold Cells.del at *
    by_cases h : c.1 = a
    · rw [List.filter_cons_of_neg (by simp [h]), ih, ← h]
      simp only [Cells.look]
      by_cases hb : b = c.1 <;> simp [hb]
    · rw [List.filter_cons_of_pos (by simp [h])]
      simp only [Cells.look, ih]
      by_cases hb : b = c.1
      · subst hb; simp [h]
      · simp [hb]

theorem Cells.look_ins [Inhabited α] (l : Cells α) (a b : Nat) (v : α) (h : ∀ c ∈ l, c.1 ≠ a) :
    Cells.look (Cells.ins l a v) b = if b = a then v else Cells.look l b := by
  induction l with
  | nil => simp [Cells.ins, Cells.look]
  | cons c t ih =>
    have hc := h c (by simp)
    have ht := ih (fun d hd => h d (by simp [hd]))
    simp only [Cells.ins]
    split
    · simp [Cells.look]
    · simp only [Cells.look, ht]
      by_cases h1 : b = c.1 <;> by_cases h2 : b = a <;> grind

theorem Cells.mem_del (l : Cells α) (a : Nat) (c : Nat × α) : c ∈ Cells.del l a ↔ c ∈ l ∧ c.1 ≠ a := by
  simp [Cells.del]

/-- Read after write, at the same key and at another. -/
theorem Cells.look_set [Inhabited α] [DecidableEq α] (l : Cells α) (a b : Nat) (v : α) :
    Cells.look (Cells.set l a v) b = if b = a then v else Cells.look l b := by
  unfold Cells.set
  split
  · rename_i h; rw [Cells.look_del, h]
  · rw [Cells.look_ins _ _ _ _ (fun c hc => (Cells.mem_del l a c |>.mp hc).2), Cells.look_del]
    split <;> rfl

theorem Cells.rising_cons (c : Nat × α) (l : Cells α) :
    Cells.rising (c :: l) = true ↔ (∀ d ∈ l, c.1 < d.1) ∧ Cells.rising l = true := by
  simp [Cells.rising]

theorem Cells.rising_filter (l : Cells α) (p : Nat × α → Bool) (h : Cells.rising l = true) : Cells.rising (l.filter p) = true := by
  induction l with
  | nil => simp [Cells.rising]
  | cons c t ih =>
    rw [Cells.rising_cons] at h
    simp only [List.filter]
    split
    · rw [Cells.rising_cons]
      exact ⟨fun d hd => h.1 d (List.mem_filter.mp hd).1, ih h.2⟩
    · exact ih h.2

theorem Cells.mem_ins (l : Cells α) (a : Nat) (v : α) (d : Nat × α) : d ∈ Cells.ins l a v ↔ d = (a, v) ∨ d ∈ l := by
  induction l with
  | nil => simp [Cells.ins]
  | cons c t ih =>
    simp only [Cells.ins]
    split
    · simp
    · simp only [List.mem_cons, ih]; tauto

theorem Cells.rising_ins (l : Cells α) (a : Nat) (v : α) (h : Cells.rising l = true) (ha : ∀ c ∈ l, c.1 ≠ a) :
    Cells.rising (Cells.ins l a v) = true := by
  induction l with
  | nil => simp [Cells.ins, Cells.rising]
  | cons c t ih =>
    rw [Cells.rising_cons] at h
    have hc := ha c (by simp)
    have hi := ih h.2 (fun d hd => ha d (by simp [hd]))
    simp only [Cells.ins]
    split
    · rename_i hlt
      rw [Cells.rising_cons, Cells.rising_cons]
      refine ⟨fun d hd => ?_, h⟩
      rcases List.mem_cons.mp hd with rfl | hd
      · exact hlt
      · have := h.1 d hd; simp only; omega
    · rename_i hlt
      rw [Cells.rising_cons]
      refine ⟨fun d hd => ?_, hi⟩
      rcases (Cells.mem_ins t a v d).mp hd with rfl | hd
      · show c.1 < a; omega
      · exact h.1 d hd

theorem Cells.wf_iff [Inhabited α] [DecidableEq α] (l : Cells α) :
    Cells.wf l = true ↔ Cells.rising l = true ∧ ∀ c ∈ l, c.2 ≠ default := by
  simp [Cells.wf]

/-- The empty store is in canonical form. -/
theorem Cells.wf_nil [Inhabited α] [DecidableEq α] : Cells.wf ([] : Cells α) = true := by simp [Cells.wf, Cells.rising]

/-- Leaving entries out keeps the canonical form. -/
theorem Cells.wf_filter [Inhabited α] [DecidableEq α] (l : Cells α) (p : Nat × α → Bool) (h : Cells.wf l = true) :
    Cells.wf (l.filter p) = true := by
  rw [Cells.wf_iff] at *
  exact ⟨Cells.rising_filter l p h.1, fun c hc => h.2 c (List.mem_filter.mp hc).1⟩

/-- A write keeps the canonical form. -/
theorem Cells.wf_set [Inhabited α] [DecidableEq α] (l : Cells α) (a : Nat) (v : α) (h : Cells.wf l = true) :
    Cells.wf (Cells.set l a v) = true := by
  have hd : Cells.wf (Cells.del l a) = true := Cells.wf_filter l _ h
  unfold Cells.set
  split
  · exact hd
  · rename_i hv
    rw [Cells.wf_iff] at *
    refine ⟨Cells.rising_ins _ _ _ hd.1 (fun c hc => ((Cells.mem_del l a c).mp hc).2), fun c hc => ?_⟩
    rcases (Cells.mem_ins _ _ _ _).mp hc with rfl | hc
    · exact hv
    · exact hd.2 c hc

theorem Cells.mem_set [Inhabited α] [DecidableEq α] (l : Cells α) (a : Nat) (v : α) (c : Nat × α) (h : c ∈ Cells.set l a v) :
    c = (a, v) ∨ (c ∈ l ∧ c.1 ≠ a) := by
  unfold Cells.set at h
  split at h
  · exact .inr ((Cells.mem_del l a c).mp h)
  · rcases (Cells.mem_ins _ _ _ _).mp h with h | h
    · exact .inl h
    · exact .inr ((Cells.mem_del l a c).mp h)

/-- Read after write in a store of pages. -/
theorem Pages.look_set [Inhabited α] [DecidableEq α] (p : Pages α) (a b : Nat) (v : α) :
    Pages.look (Pages.set p a v) b = if b = a then v else Pages.look p b := by
  unfold Pages.look Pages.set
  rw [Cells.look_set]
  by_cases h : pageOf b = pageOf a
  · simp only [h, if_true, Cells.look_set]
  · have hb : b ≠ a := fun e => h (by rw [e])
    simp [h, hb]

theorem Cells.look_wf [Inhabited α] [DecidableEq α] (p : Pages α) (k : Nat) (h : Pages.wf p = true) :
    Cells.wf (Cells.look p k) = true ∧ ∀ d ∈ Cells.look p k, pageOf d.1 = k := by
  have h2 : ∀ c ∈ p, Cells.wf c.2 = true ∧ ∀ d ∈ c.2, pageOf d.1 = c.1 := by
    simp only [Pages.wf, Bool.and_eq_true, List.all_eq_true, beq_iff_eq] at h
    exact h.2
  clear h
  induction p with
  | nil => exact ⟨Cells.wf_nil, fun d hd => by cases hd⟩
  | cons c t ih =>
    simp only [Cells.look]
    split
    · rename_i hk; have := h2 c (by simp); exact ⟨this.1, fun d hd => by rw [hk]; exact this.2 d hd⟩
    · exact ih (fun d hd => h2 d (by simp [hd]))

/-- A write keeps the canonical form of a store of pages. -/
theorem Pages.wf_set [Inhabited α] [DecidableEq α] (p : Pages α) (a : Nat) (v : α) (h : Pages.wf p = true) :
    Pages.wf (Pages.set p a v) = true := by
  have hk := Cells.look_wf p (pageOf a) h
  simp only [Pages.wf, Bool.and_eq_true, List.all_eq_true, beq_iff_eq] at *
  refine ⟨Cells.wf_set _ _ _ h.1, fun c hc => ?_⟩
  rcases Cells.mem_set _ _ _ _ hc with rfl | hc
  · refine ⟨Cells.wf_set _ _ _ hk.1, fun d hd => ?_⟩
    rcases Cells.mem_set _ _ _ _ hd with rfl | hd
    · rfl
    · exact hk.2 d hd.1
  · exact h.2 c hc.1

theorem Cells.rising_map (l : Cells α) (f : Nat × α → Nat × α) (hf : ∀ c, (f c).1 = c.1) (h : Cells.rising l = true) :
    Cells.rising (l.map f) = true := by
  induction l with
  | nil => simp [Cells.rising]
  | cons c t ih =>
    rw [Cells.rising_cons] at h
    rw [List.map_cons, Cells.rising_cons]
    refine ⟨fun d hd => ?_, ih h.2⟩
    obtain ⟨e, he, rfl⟩ := List.mem_map.mp hd
    rw [hf, hf]; exact h.1 e he

/-- Leaving entries out keeps the canonical form of a store of pages. -/
theorem Pages.wf_keep [Inhabited α] [DecidableEq α] (p : Pages α) (f : Nat → Bool) (h : Pages.wf p = true) :
    Pages.wf (Pages.keep p f) = true := by
  simp only [Pages.wf, Bool.and_eq_true, List.all_eq_true, beq_iff_eq] at *
  unfold Pages.keep
  refine ⟨?_, fun c hc => ?_⟩
  · rw [Cells.wf_iff] at *
    refine ⟨Cells.rising_filter _ _ (Cells.rising_map p (fun c => (c.1, c.2.filter (fun d => f d.1))) (fun _ => rfl) h.1.1), fun c hc => ?_⟩
    have := (List.mem_filter.mp hc).2
    intro e
    rw [e] at this
    simp [default] at this
  · obtain ⟨e, he, rfl⟩ := List.mem_map.mp (List.mem_filter.mp hc).1
    have := h.2 e he
    exact ⟨Cells.wf_filter _ _ this.1, fun d hd => this.2 d (List.mem_filter.mp hd).1⟩

/-- Stores in canonical form that read alike are equal. -/
theorem Cells.ext [Inhabited α] [DecidableEq α] (l m : Cells α) (hl : Cells.wf l = true) (hm : Cells.wf m = true)
    (h : ∀ a, Cells.look l a = Cells.look m a) : l = m := by
  have miss : ∀ (l : Cells α) (a : Nat), (∀ d ∈ l, a < d.1) → Cells.look l a = default := by
    intro l a hd
    induction l with
    | nil => rfl
    | cons c t ih =>
      have := hd c (by simp)
      simp only [Cells.look]
      rw [if_neg (by omega)]
      exact ih (fun d hd' => hd d (by simp [hd']))
  induction l generalizing m with
  | nil =>
    cases m with
    | nil => rfl
    | cons c t =>
      exfalso
      have := h c.1
      simp only [Cells.look, if_true] at this
      exact ((Cells.wf_iff _).mp hm).2 c (by simp) this.symm
  | cons c t ih =>
    rw [Cells.wf_iff, Cells.rising_cons] at hl
    cases m with
    | nil =>
      exfalso
      have := h c.1
      simp only [Cells.look, if_true] at this
      exact hl.2 c (by simp) this
    | cons d u =>
      rw [Cells.wf_iff, Cells.rising_cons] at hm
      have hcd : c.1 = d.1 := by
        by_contra hne
        rcases Nat.lt_or_gt_of_ne hne with hlt | hlt
        · have := h c.1
          simp only [Cells.look, if_true, if_neg hne] at this
          rw [miss u c.1 (fun e he => by have := hm.1.1 e he; omega)] at this
          exact hl.2 c (by simp) this
        · have := h d.1
          simp only [Cells.look, if_true, if_neg (Ne.symm hne)] at this
          rw [miss t d.1 (fun e he => by have := hl.1.1 e he; omega)] at this
          exact hm.2 d (by simp) this.symm
      have hv : c.2 = d.2 := by
        have := h c.1
        simp only [Cells.look, if_true] at this
        rwa [if_pos hcd] at this
      have htu : t = u := by
        refine ih u ((Cells.wf_iff _).mpr ⟨hl.1.2, fun e he => hl.2 e (by simp [he])⟩)
          ((Cells.wf_iff _).mpr ⟨hm.1.2, fun e he => hm.2 e (by simp [he])⟩) (fun a => ?_)
        by_cases ha : a = c.1
        · rw [miss t a (fun e he => by have := hl.1.1 e he; omega), miss u a (fun e he => by have := hm.1.1 e he; omega)]
        · have := h a
          simpa only [Cells.look, if_neg ha, if_neg (hcd ▸ ha)] using this
      rw [htu, Prod.ext hcd hv]

/-- A filter by keys leaves what it keeps. -/
theorem Cells.look_filter {α : Type} [Inhabited α] (l : Cells α) (q : Nat → Bool) (k : Nat) :
    Cells.look (l.filter (fun d => q d.1)) k = if q k then Cells.look l k else default := by
  induction l with
  | nil => simp [Cells.look]
  | cons c t ih =>
    simp only [List.filter_cons]
    by_cases hc : q c.1 = true
    · simp only [hc, if_true, Cells.look]
      by_cases hk : k = c.1
      · subst hk; simp [hc]
      · simp [hk, ih]
    · simp only [hc]
      by_cases hk : k = c.1
      · subst hk; simp [ih, hc]
      · simp [Cells.look, hk, ih]

theorem Cells.look_none {α : Type} [Inhabited α] (l : Cells α) (k : Nat) (h : ∀ c ∈ l, c.1 ≠ k) : Cells.look l k = default := by
  induction l with
  | nil => rfl
  | cons c t ih =>
    have : k ≠ c.1 := fun e => h c (by simp) e.symm
    simp only [Cells.look, this, if_false]
    exact ih (fun d hd => h d (by simp [hd]))

/-- A key that fails the test reads the default after `keep`. -/
theorem Pages.look_keep_out (p : Pages Nat) (f : Nat → Bool) (k : Nat) (h : f k = false) : Pages.look (Pages.keep p f) k = 0 := by
  unfold Pages.look
  have : ∀ (q : Pages Nat) (j : Nat), (∀ c ∈ q, ∀ d ∈ c.2, d.1 ≠ k) → Cells.look (Cells.look q j) k = 0 := by
    intro q j hq
    induction q with
    | nil => rfl
    | cons c t ih =>
      have e : Cells.look (c :: t : Pages Nat) j = if j = c.1 then c.2 else Cells.look t j := rfl
      rw [e]
      split
      · exact Cells.look_none _ _ (fun d hd => hq c (by simp) d hd)
      · exact ih (fun d hd => hq d (by simp [hd]))
  apply this
  intro c hc d hd
  simp only [Pages.keep, List.mem_filter, List.mem_map] at hc
  obtain ⟨⟨c', hc', rfl⟩, -⟩ := hc
  simp only [List.mem_filter] at hd
  intro e
  simp [e, h] at hd

/-- A key that passes it reads as before. -/
theorem Pages.look_keep (p : Pages Nat) (f : Nat → Bool) (k : Nat) (hw : Cells.rising p = true) (h : f k = true) :
    Pages.look (Pages.keep p f) k = Pages.look p k := by
  unfold Pages.look Pages.keep
  induction p with
  | nil => rfl
  | cons c t ih =>
    have hr := (Cells.rising_cons c t).1 hw
    simp only [List.map_cons, List.filter_cons]
    by_cases hj : pageOf k = c.1
    · by_cases he : (c.2.filter (fun d => f d.1)).isEmpty = true
      · simp only [he, Bool.not_true]
        have h1 : Cells.look (List.filter (fun c => !c.2.isEmpty) (t.map (fun c => (c.1, c.2.filter (fun d => f d.1))))) (pageOf k) = [] := by
          apply Cells.look_none
          intro d hd
          simp only [List.mem_filter, List.mem_map] at hd
          obtain ⟨⟨d', hd', rfl⟩, -⟩ := hd
          have := hr.1 d' hd'
          simp only [hj]; omega
        have h2 : Cells.look c.2 k = 0 := by
          have := Cells.look_filter c.2 f k
          rw [List.isEmpty_iff.1 he] at this
          simpa [h, Cells.look] using this.symm
        have e : Cells.look (c :: t : Pages Nat) (pageOf k) = c.2 := by simp [Cells.look, hj]
        rw [e, h2]
        simp only [Bool.false_eq_true, if_false]
        rw [h1]; rfl
      · simp only [Bool.not_eq_true] at he
        simp [he, Cells.look, hj, Cells.look_filter, h]
    · have : (Cells.look (c :: t : Pages Nat) (pageOf k)) = Cells.look t (pageOf k) := by simp [Cells.look, hj]
      rw [this, ← ih hr.2]
      split
      · simp [Cells.look, hj]
      · rfl

end Sys2Proof
end

