-- ==== Sys2Proof/Laws/State.lean ====
section
/-! SUPPORT. The laws of the state's fields: what each read gives after each update, and what an update leaves alone. -/

namespace Sys2Proof.Machine
open Sys2Proof

theorem xor_cancel (a b : Nat) : Nat.xor (Nat.xor a b) b = a := by
  show (a ^^^ b) ^^^ b = a
  rw [Nat.xor_assoc, Nat.xor_self, Nat.xor_zero]

/-- The unit that was put reads back, cut to the field's width. -/
theorem State.get_put_self (s : State) (f : Fld) (n v : Nat) (h : n < f.count) : (s.put f n v).get f n = v % 2 ^ f.width := by
  simp [State.get, State.put, h, Pages.look_set]

/-- A unit under another key reads as before. -/
theorem State.get_put_ne (s : State) (f g : Fld) (n m v : Nat) (h : g.key m ≠ f.key n) : (s.put f n v).get g m = s.get g m := by
  unfold State.put
  split
  · simp [State.get, Pages.look_set, h]
  · rfl

/-- Another unit of the same field reads as before. -/
theorem State.get_put_unit (s : State) (f : Fld) (n m v : Nat) (hs : 0 < f.stride) (h : m ≠ n) : (s.put f n v).get f m = s.get f m := by
  apply State.get_put_ne
  simp only [Fld.key]
  intro e
  have e2 : f.stride * m = f.stride * n := by omega
  exact h (Nat.eq_of_mul_eq_mul_left hs e2)

/-- No unit of one field is a unit of the other: their places in a register, their retention codes or the addresses of their units differ. -/
def Fld.apart (f g : Fld) : Bool :=
  decide (f.lsb < 32) && decide (g.lsb < 32) && (f.lsb != g.lsb || f.kept.code != g.kept.code ||
    decide (f.base + f.stride * (f.count - 1) < g.base) || decide (g.base + g.stride * (g.count - 1) < f.base) ||
    (f.stride == g.stride && f.base % f.stride != g.base % g.stride))

theorem Fld.key_apart (f g : Fld) (n m : Nat) (hn : n < f.count) (hm : m < g.count) (h : Fld.apart f g = true) : g.key m ≠ f.key n := by
  simp only [Fld.apart, Bool.and_eq_true, Bool.or_eq_true, decide_eq_true_eq, bne_iff_ne, ne_eq, beq_iff_eq] at h
  obtain ⟨⟨hf, hg⟩, h⟩ := h
  intro e
  simp only [Fld.key] at e
  have cf : f.kept.code < 8 := by cases f.kept <;> decide
  have cg : g.kept.code < 8 := by cases g.kept <;> decide
  have e1 : f.base + f.stride * n = g.base + g.stride * m ∧ f.lsb = g.lsb ∧ f.kept.code = g.kept.code := by omega
  have bf : f.stride * n ≤ f.stride * (f.count - 1) := Nat.mul_le_mul_left _ (by omega)
  have bg : g.stride * m ≤ g.stride * (g.count - 1) := Nat.mul_le_mul_left _ (by omega)
  rcases h with (((h | h) | h) | h) | ⟨h1, h2⟩
  · exact h e1.2.1
  · exact h e1.2.2
  · omega
  · omega
  · apply h2
    have := congrArg (· % f.stride) e1.1
    simpa [h1, Nat.add_mul_mod_self_left] using this

/-- A field reads as before after a put of a field apart from it. -/
theorem State.get_put_apart (s : State) (f g : Fld) (n m v : Nat) (h : Fld.apart f g = true) : (s.put f n v).get g m = s.get g m := by
  by_cases hn : n < f.count
  · by_cases hm : m < g.count
    · exact State.get_put_ne s f g n m v (Fld.key_apart f g n m hn hm h)
    · simp [State.get, hm]
  · simp [State.put, hn]

/-- A unit the field does not have takes nothing. -/
theorem State.put_out (s : State) (f : Fld) (n v : Nat) (h : ¬ n < f.count) : s.put f n v = s := by simp [State.put, h]

@[simp] theorem State.put_pending (s : State) (f : Fld) (n v : Nat) : (s.put f n v).pending = s.pending := by unfold State.put; split <;> rfl
@[simp] theorem State.put_free (s : State) (f : Fld) (n v : Nat) : (s.put f n v).free = s.free := by unfold State.put; split <;> rfl
@[simp] theorem State.put_imem (s : State) (f : Fld) (n v : Nat) : (s.put f n v).imem = s.imem := by unfold State.put; split <;> rfl
@[simp] theorem State.put_sdata (s : State) (f : Fld) (n v : Nat) : (s.put f n v).sdata = s.sdata := by unfold State.put; split <;> rfl
@[simp] theorem State.put_nvm (s : State) (f : Fld) (n v : Nat) : (s.put f n v).nvm = s.nvm := by unfold State.put; split <;> rfl
@[simp] theorem State.put_nvmq (s : State) (f : Fld) (n v : Nat) : (s.put f n v).nvmq = s.nvmq := by unfold State.put; split <;> rfl
@[simp] theorem State.put_stack (s : State) (f : Fld) (n v : Nat) : (s.put f n v).stack = s.stack := by unfold State.put; split <;> rfl
@[simp] theorem State.put_branch (s : State) (f : Fld) (n v : Nat) : (s.put f n v).branch = s.branch := by unfold State.put; split <;> rfl
@[simp] theorem State.put_staging (s : State) (f : Fld) (n v : Nat) : (s.put f n v).staging = s.staging := by unfold State.put; split <;> rfl
@[simp] theorem State.put_gap (s : State) (f : Fld) (n v : Nat) : (s.put f n v).gap = s.gap := by unfold State.put; split <;> rfl
@[simp] theorem State.put_mail (s : State) (f : Fld) (n v : Nat) : (s.put f n v).mail = s.mail := by unfold State.put; split <;> rfl
@[simp] theorem State.put_evq (s : State) (f : Fld) (n v : Nat) : (s.put f n v).evq = s.evq := by unfold State.put; split <;> rfl
@[simp] theorem State.put_bkq (s : State) (f : Fld) (n v : Nat) : (s.put f n v).bkq = s.bkq := by unfold State.put; split <;> rfl
@[simp] theorem State.put_gauge (s : State) (f : Fld) (n v : Nat) : (s.put f n v).gauge = s.gauge := by unfold State.put; split <;> rfl
@[simp] theorem State.put_comp (s : State) (f : Fld) (n v : Nat) : (s.put f n v).comp = s.comp := by unfold State.put; split <;> rfl
@[simp] theorem State.put_bal (s : State) (f : Fld) (n v : Nat) : (s.put f n v).bal = s.bal := by unfold State.put; split <;> rfl
@[simp] theorem State.put_out' (s : State) (f : Fld) (n v : Nat) : (s.put f n v).out = s.out := by unfold State.put; split <;> rfl

/-- Everything but the field store is as before. -/
theorem State.put_rest (s : State) (f : Fld) (n v : Nat) : s.put f n v = { s with fld := (s.put f n v).fld } := by
  unfold State.put; split <;> rfl

/- The reads see the field store only. -/
@[simp] theorem State.get_pending (s : State) (x : List Instr) (f : Fld) (n : Nat) : ({ s with pending := x } : State).get f n = s.get f n := rfl
@[simp] theorem State.get_free (s : State) (x : Nat) (f : Fld) (n : Nat) : ({ s with free := x } : State).get f n = s.get f n := rfl
@[simp] theorem State.get_imem (s : State) (x : Cells Word) (f : Fld) (n : Nat) : ({ s with imem := x } : State).get f n = s.get f n := rfl
@[simp] theorem State.get_sdata (s : State) (x : List Host.Cell) (f : Fld) (n : Nat) : ({ s with sdata := x } : State).get f n = s.get f n := rfl
@[simp] theorem State.get_nvm (s : State) (x : List Host.Cell) (f : Fld) (n : Nat) : ({ s with nvm := x } : State).get f n = s.get f n := rfl
@[simp] theorem State.get_nvmq (s : State) (x : List (Nat × Word)) (f : Fld) (n : Nat) : ({ s with nvmq := x } : State).get f n = s.get f n := rfl
@[simp] theorem State.get_stack (s : State) (x : List Nat) (f : Fld) (n : Nat) : ({ s with stack := x } : State).get f n = s.get f n := rfl
@[simp] theorem State.get_branch (s : State) (x : List Nat) (f : Fld) (n : Nat) : ({ s with branch := x } : State).get f n = s.get f n := rfl
@[simp] theorem State.get_staging (s : State) (x : List Record) (f : Fld) (n : Nat) : ({ s with staging := x } : State).get f n = s.get f n := rfl
@[simp] theorem State.get_gap (s : State) (x : List Gap) (f : Fld) (n : Nat) : ({ s with gap := x } : State).get f n = s.get f n := rfl
@[simp] theorem State.get_mail (s : State) (x : List (Nat × Word)) (f : Fld) (n : Nat) : ({ s with mail := x } : State).get f n = s.get f n := rfl
@[simp] theorem State.get_evq (s : State) (x : List Nat) (f : Fld) (n : Nat) : ({ s with evq := x } : State).get f n = s.get f n := rfl
@[simp] theorem State.get_bkq (s : State) (x : List (Nat × Word)) (f : Fld) (n : Nat) : ({ s with bkq := x } : State).get f n = s.get f n := rfl
@[simp] theorem State.get_gauge (s : State) (x : Gauge) (f : Fld) (n : Nat) : ({ s with gauge := x } : State).get f n = s.get f n := rfl
@[simp] theorem State.get_comp (s : State) (x : Vector Comp 8) (f : Fld) (n : Nat) : ({ s with comp := x } : State).get f n = s.get f n := rfl
@[simp] theorem State.get_bal (s : State) (x : Vector Rat 24) (f : Fld) (n : Nat) : ({ s with bal := x } : State).get f n = s.get f n := rfl
@[simp] theorem State.get_out (s : State) (x : List Word) (f : Fld) (n : Nat) : ({ s with out := x } : State).get f n = s.get f n := rfl

/-- After reset every unit of every field reads as its reset value. -/
theorem State.get_reset (f : Fld) (n : Nat) (h : n < f.count) : State.reset.get f n = f.dflt n := by
  simp only [State.get, h, if_true, State.reset, Pages.look, Cells.look]
  exact Nat.zero_xor _

/-- Putting a reset value leaves the store of a state after reset alone. -/
theorem State.reset_wf : Pages.wf State.reset.fld = true := by decide

theorem State.mark_eq (s : State) (f : Fld) (n : Nat) (b : Bool) : s.mark f n b = s.put f n (if b then 1 else 0) := rfl

/-- A bounded number of bytes of a word stored and read again. -/
theorem leNat_leBytes (n v : Nat) : leNat (leBytes n v) = v % 2 ^ (8 * n) := by
  induction n generalizing v with
  | zero => simp [leBytes, leNat, Nat.mod_one]
  | succ k ih =>
    simp only [leBytes, leNat, ih, BitVec.toNat_ofNat]
    rw [show 8 * (k + 1) = 8 + 8 * k by ring, Nat.pow_add, Nat.mod_mul]

/-- Bytes stored: inside the range each byte reads as stored, outside it as before. -/
theorem look_storeBytes (m : List Host.Cell) (a b : Nat) (l : List (BitVec 8)) :
    Cells.look (storeBytes m a l) b = if a ≤ b ∧ b < a + l.length then l.getD (b - a) 0 else Cells.look m b := by
  induction l generalizing m a with
  | nil => rw [if_neg (by simp only [List.length_nil]; omega)]; rfl
  | cons x t ih =>
    simp only [storeBytes, ih, Cells.look_set, List.length_cons]
    by_cases hb : b = a
    · subst hb; simp
    · by_cases h : a + 1 ≤ b ∧ b < a + 1 + t.length
      · have e : b - a = (b - (a + 1)) + 1 := by omega
        rw [if_pos h, if_pos (by omega), e]; simp
      · rw [if_neg h, if_neg hb, if_neg (by omega)]

/-- Storing bytes keeps the canonical form. -/
theorem wf_storeBytes (m : List Host.Cell) (a : Nat) (l : List (BitVec 8)) (h : Cells.wf m = true) : Cells.wf (storeBytes m a l) = true := by
  induction l generalizing m a with
  | nil => exact h
  | cons x t ih => exact ih _ _ (Cells.wf_set _ _ _ h)

theorem length_leBytes (n v : Nat) : (leBytes n v).length = n := by
  induction n generalizing v with
  | zero => rfl
  | succ k ih => simp [leBytes, ih]

/-- A byte outside the word stored reads as before. -/
theorem look_storeWord (m : List Host.Cell) (a b : Nat) (v : Word) (h : b < a ∨ a + 4 ≤ b) : Cells.look (storeWord m a v) b = Cells.look m b := by
  rw [storeWord, look_storeBytes, if_neg]
  rw [length_leBytes]; omega

theorem wf_storeWord (m : List Host.Cell) (a : Nat) (v : Word) (h : Cells.wf m = true) : Cells.wf (storeWord m a v) = true :=
  wf_storeBytes _ _ _ h

/-- A word stored reads back. -/
theorem wordAt_storeWord (m : List Host.Cell) (a : Nat) (v : Word) : wordAt (storeWord m a v) a = v := by
  have hb : bytesAt (storeWord m a v) a 4 = leBytes 4 v.toNat := by
    simp only [bytesAt, List.range, List.range.loop, List.map, storeWord, look_storeBytes, length_leBytes]
    simp [leBytes]
  rw [wordAt, leAt, hb, leNat_leBytes]
  apply BitVec.eq_of_toNat_eq
  simp only [BitVec.toNat_ofNat]
  have := v.isLt
  omega

/-- The low bits of a key tell the retention code. -/
theorem Fld.key_mod (f : Fld) (n : Nat) : f.key n % 8 = f.kept.code := by
  have h1 : f.kept.code < 8 := by cases f.kept <;> decide
  unfold Fld.key; omega

/-- A field of another retention code keeps its value when a code is dropped (R12). -/
theorem State.get_drop (s : State) (c : Kept) (f : Fld) (n : Nat) (hw : Pages.wf s.fld = true) (h : f.kept ≠ c) : (s.drop c).get f n = s.get f n := by
  unfold State.drop State.get
  simp only
  have : Cells.rising s.fld = true := by
    simp only [Pages.wf, Cells.wf, Bool.and_eq_true] at hw
    exact hw.1.1
  rw [Pages.look_keep _ _ _ this]
  rw [Fld.key_mod]; revert h; cases f.kept <;> cases c <;> decide

/-- A field of the code dropped has its reset value. -/
theorem State.get_dropped (s : State) (f : Fld) (n : Nat) (hn : n < f.count) : (s.drop f.kept).get f n = f.dflt n := by
  unfold State.drop State.get
  simp only [hn, if_true]
  rw [Pages.look_keep_out _ _ _ (by rw [Fld.key_mod]; simp)]
  show 0 ^^^ _ = _
  simp

end Sys2Proof.Machine
end

