-- ==== Sys2Proof/Laws/Closed.lean ====
section
/-! SUPPORT. What follows a command by itself (`State.finish`), operation by operation: a property of states that the fields named in `follow` and the
parts that events and records use cannot break is kept by every operation that `finish` calls. -/
namespace Sys2Proof.Machine
open Sys2Proof

/-- What a property of states needs so that what follows a command by itself keeps it. -/
structure Closed (P : State → Prop) : Prop where
  put : ∀ s f n v, follows f = true → P s → P (s.put f n v)
  dropV : ∀ s, P s → P (s.drop .v)
  dropW : ∀ s, P s → P (s.drop .w)
  top : ∀ (s : State) a b c d e f g, P s → P { s with stack := a, branch := b, staging := c, gap := d, evq := e, gauge := f, bal := g }

theorem closed_foldl {α : Type} (P : State → Prop) (f : State → α → State) (l : List α) (s : State) (hs : P s)
    (hf : ∀ s a, P s → P (f s a)) : P (l.foldl f s) := by
  induction l generalizing s with
  | nil => exact hs
  | cons a t ih => exact ih _ (hf _ _ hs)

theorem closed_foldr {α : Type} (P : State → Prop) (f : α → State → State) (l : List α) (s : State) (hs : P s)
    (hf : ∀ a s, P s → P (f a s)) : P (l.foldr f s) := by
  induction l with
  | nil => exact hs
  | cons a t ih => exact hf _ _ ih

theorem closed_ite (P : State → Prop) (c : Prop) [Decidable c] (s t : State) (hs : P s) (ht : P t) : P (if c then s else t) := by
  split
  · exact hs
  · exact ht

theorem closed_ifDo (P : State → Prop) (hP : Closed P) (s : State) (c : Bool) (f : State → State) (hs : P s) (hf : ∀ x0, P x0 → P (f x0)) :
    P (State.ifDo s c f) := by
  unfold State.ifDo
  repeat' first | with_reducible assumption | with_reducible apply hf | split

theorem closed_flag (P : State → Prop) (hP : Closed P) (s : State) (f : Fld) (n v : Nat) (hs : P s) (hm : follows f = true)
    (hh : follows f.held = true) : P (State.flag s f n v) := by
  unfold State.flag State.ifDo
  split
  · exact hP.put _ _ _ _ hh (hP.put _ _ _ _ hm hs)
  · exact hP.put _ _ _ _ hm hs

theorem closed_demand (P : State → Prop) (hP : Closed P) (s : State) (hs : P s) : P (State.demand s) := by
  unfold State.demand
  repeat' first | with_reducible assumption | with_reducible refine fun _ => ?_ | with_reducible apply hP.put | with_reducible apply closed_ifDo _ hP | decide

theorem closed_wake (P : State → Prop) (hP : Closed P) (s : State) (n : Nat) (hs : P s) : P (State.wake s n) := by
  unfold State.wake
  repeat' first | with_reducible assumption | with_reducible apply closed_demand _ hP | with_reducible apply closed_ifDo _ hP

theorem closed_irq (P : State → Prop) (hP : Closed P) (s : State) (n : Nat) (hs : P s) : P (State.irq s n) := by
  unfold State.irq
  repeat' first
      | with_reducible assumption | with_reducible refine fun _ => ?_ | with_reducible apply closed_ifDo _ hP | with_reducible apply closed_flag _ hP
      | with_reducible apply closed_wake _ hP | decide

theorem closed_setBal (P : State → Prop) (hP : Closed P) (s : State) (k : Nat) (b : Rat) (hs : P s) : P (State.setBal s k b) := by
  unfold State.setBal
  repeat' first | with_reducible assumption | with_reducible apply hP.top

theorem closed_phaseJoin (P : State → Prop) (hP : Closed P) (s : State) (k : Nat) (hs : P s) : P (State.phaseJoin s k) := by
  unfold State.phaseJoin
  repeat' first
      | with_reducible assumption | with_reducible refine fun _ => ?_ | with_reducible apply hP.put | with_reducible apply closed_setBal _ hP
      | with_reducible apply closed_ifDo _ hP | with_reducible apply closed_irq _ hP | decide

theorem closed_raise (P : State → Prop) (hP : Closed P) (s : State) (n : Nat) (hs : P s) : P (State.raise s n) := by
  unfold State.raise
  repeat' first | with_reducible assumption | split | with_reducible apply hP.top

theorem closed_setPhase (P : State → Prop) (hP : Closed P) (s : State) (p why : Nat) (hs : P s) : P (State.setPhase s p why) := by
  unfold State.setPhase
  repeat' first
      | with_reducible assumption | with_reducible refine fun _ => ?_ | with_reducible apply hP.put | with_reducible apply closed_ifDo _ hP
      | with_reducible apply closed_irq _ hP | with_reducible apply closed_raise _ hP | with_reducible apply closed_ite | decide

theorem closed_forEach (P : State → Prop) (hP : Closed P) (s : State) (l : List Nat) (f : State → Nat → State) (hs : P s) (hf : ∀ x0 x1, P x0 → P (f x0 x1)) :
    P (State.forEach s l f) := by
  unfold State.forEach
  repeat' first | with_reducible assumption | with_reducible apply closed_foldl

theorem closed_queueStart (P : State → Prop) (hP : Closed P) (s : State) (hs : P s) : P (State.queueStart s) := by
  unfold State.queueStart
  repeat' first | with_reducible assumption | with_reducible apply hP.put | with_reducible apply closed_demand _ hP | decide

theorem closed_nvmNext (P : State → Prop) (hP : Closed P) (s : State) (hs : P s) : P (State.nvmNext s) := by
  unfold State.nvmNext
  repeat' first
      | with_reducible assumption | with_reducible refine fun _ => ?_ | with_reducible apply hP.put | with_reducible apply closed_demand _ hP
      | with_reducible apply closed_ifDo _ hP | with_reducible apply closed_queueStart _ hP | split | decide | with_reducible apply hP.top

theorem closed_append (P : State → Prop) (hP : Closed P) (s : State) (r : Record) (hs : P s) : P (State.append s r) := by
  unfold State.append
  repeat' first
      | with_reducible assumption | exact trivial | with_reducible apply hP.put | with_reducible apply closed_nvmNext _ hP | decide
      | with_reducible apply hP.top

theorem closed_sat (P : State → Prop) (hP : Closed P) (s : State) (f : Fld) (n lim : Nat) (hs : P s) (hm : follows f = true) : P (State.sat s f n lim) := by
  unfold State.sat
  repeat' first | with_reducible assumption | with_reducible apply hP.put

theorem closed_dropped (P : State → Prop) (hP : Closed P) (s : State) (hs : P s) : P (State.dropped s) := by
  unfold State.dropped
  repeat' first | with_reducible assumption | with_reducible apply hP.put | with_reducible apply closed_sat _ hP | decide

theorem closed_stageCritical (P : State → Prop) (hP : Closed P) (s : State) (r : Record) (hs : P s) : P (State.stageCritical s r) := by
  unfold State.stageCritical
  repeat' first
      | with_reducible assumption | (with_reducible refine fun _ => ?_) | exact trivial | with_reducible apply hP.put
      | with_reducible apply closed_ifDo _ hP | with_reducible apply closed_append _ hP | with_reducible apply closed_dropped _ hP
      | with_reducible apply closed_sat _ hP | with_reducible apply closed_raise _ hP | split | decide | with_reducible apply hP.top

theorem closed_crierIdle (P : State → Prop) (hP : Closed P) (s : State) (c : Nat) (hs : P s) : P (State.crierIdle s c) := by
  unfold State.crierIdle
  repeat' first | with_reducible assumption | with_reducible apply hP.put | decide

theorem closed_criersRest (P : State → Prop) (hP : Closed P) (s : State) (hs : P s) : P (State.criersRest s) := by
  unfold State.criersRest
  repeat' first
      | with_reducible assumption | with_reducible refine fun _ => ?_ | with_reducible apply hP.put | with_reducible apply closed_forEach _ hP
      | with_reducible apply closed_crierIdle _ hP | decide

theorem closed_mark (P : State → Prop) (hP : Closed P) (s : State) (f : Fld) (n : Nat) (b : Bool) (hs : P s) (hm : follows f = true) :
    P (State.mark s f n b) := by
  unfold State.mark
  repeat' first | with_reducible assumption | with_reducible apply hP.put

theorem closed_fenceCrier (P : State → Prop) (hP : Closed P) (s : State) (c origin : Nat) (hs : P s) : P (State.fenceCrier s c origin) := by
  unfold State.fenceCrier
  repeat' first | with_reducible assumption | with_reducible apply hP.put | decide

theorem closed_capLow (P : State → Prop) (hP : Closed P) (s : State) (n old : Nat) (hs : P s) : P (State.capLow s n old) := by
  unfold State.capLow
  repeat' first
      | with_reducible assumption | with_reducible refine fun _ => ?_ | with_reducible apply closed_ifDo _ hP | with_reducible apply closed_raise _ hP

theorem closed_setRail (P : State → Prop) (hP : Closed P) (s : State) (r v : Nat) (hs : P s) : P (State.setRail s r v) := by
  unfold State.setRail
  repeat' first | with_reducible assumption | with_reducible apply hP.put | decide

theorem closed_railOff (P : State → Prop) (hP : Closed P) (s : State) (r : Nat) (hs : P s) : P (State.railOff s r) := by
  unfold State.railOff
  repeat' first | with_reducible assumption | with_reducible apply closed_setRail _ hP | with_reducible apply hP.top

theorem closed_finishStop (P : State → Prop) (hP : Closed P) (s : State) (r : Nat) (hs : P s) : P (State.finishStop s r) := by
  unfold State.finishStop
  repeat' first
      | with_reducible assumption | with_reducible refine fun _ => ?_ | with_reducible apply closed_ifDo _ hP | with_reducible apply closed_railOff _ hP

theorem closed_brakeEnd (P : State → Prop) (hP : Closed P) (s : State) (n : Nat) (hs : P s) : P (State.brakeEnd s n) := by
  unfold State.brakeEnd
  repeat' first | with_reducible assumption | with_reducible refine fun _ => ?_ | with_reducible apply hP.put | with_reducible apply closed_ifDo _ hP | decide

theorem closed_endWaits (P : State → Prop) (hP : Closed P) (s : State) (n : Nat) (hs : P s) : P (State.endWaits s n) := by
  unfold State.endWaits
  repeat' first | with_reducible assumption | with_reducible apply closed_phaseJoin _ hP | with_reducible apply closed_forEach _ hP

theorem closed_pgLow (P : State → Prop) (hP : Closed P) (s : State) (n : Nat) (hs : P s) : P (State.pgLow s n) := by
  unfold State.pgLow
  repeat' first | with_reducible assumption | with_reducible refine fun _ => ?_ | with_reducible apply hP.put | with_reducible apply closed_ifDo _ hP | decide

theorem closed_rushEnd (P : State → Prop) (hP : Closed P) (s : State) (n : Nat) (hs : P s) : P (State.rushEnd s n) := by
  unfold State.rushEnd
  repeat' first | with_reducible assumption | with_reducible refine fun _ => ?_ | with_reducible apply hP.put | with_reducible apply closed_ifDo _ hP | decide

theorem closed_swOpen (P : State → Prop) (hP : Closed P) (s : State) (n : Nat) (hs : P s) : P (State.swOpen s n) := by
  unfold State.swOpen
  repeat' first | with_reducible assumption | with_reducible refine fun _ => ?_ | with_reducible apply hP.put | with_reducible apply closed_ifDo _ hP | decide

theorem closed_loopOff (P : State → Prop) (hP : Closed P) (s : State) (n : Nat) (hs : P s) : P (State.loopOff s n) := by
  unfold State.loopOff
  repeat' first
      | with_reducible assumption | with_reducible refine fun _ => ?_ | with_reducible apply hP.put | with_reducible apply closed_pgLow _ hP
      | with_reducible apply closed_rushEnd _ hP | with_reducible apply closed_endWaits _ hP | with_reducible apply closed_ifDo _ hP
      | with_reducible apply closed_swOpen _ hP | with_reducible apply closed_forEach _ hP | with_reducible apply closed_brakeEnd _ hP | split | decide

theorem closed_armUv (P : State → Prop) (hP : Closed P) (s : State) (r : Nat) (on : Bool) (hs : P s) : P (State.armUv s r on) := by
  unfold State.armUv
  repeat' first
      | with_reducible assumption | with_reducible refine fun _ => ?_ | with_reducible apply closed_mark _ hP | with_reducible apply closed_ifDo _ hP
      | decide

theorem closed_drivePin (P : State → Prop) (hP : Closed P) (s : State) (r v : Nat) (hs : P s) : P (State.drivePin s r v) := by
  unfold State.drivePin
  repeat' first | with_reducible assumption | with_reducible refine fun _ => ?_ | with_reducible apply hP.put | with_reducible apply closed_ifDo _ hP | decide

theorem closed_loopStop (P : State → Prop) (hP : Closed P) (s : State) (n : Nat) (hs : P s) : P (State.loopStop s n) := by
  unfold State.loopStop
  repeat' first
      | with_reducible assumption | with_reducible apply hP.put | with_reducible apply closed_pgLow _ hP | with_reducible apply closed_rushEnd _ hP
      | with_reducible apply closed_loopOff _ hP | with_reducible apply closed_brakeEnd _ hP | split | decide

theorem closed_stopRail (P : State → Prop) (hP : Closed P) (s : State) (r : Nat) (hs : P s) : P (State.stopRail s r) := by
  unfold State.stopRail
  repeat' first
      | with_reducible assumption | with_reducible refine fun _ => ?_ | with_reducible apply hP.put | with_reducible apply closed_drivePin _ hP
      | with_reducible apply closed_loopStop _ hP | with_reducible apply closed_ifDo _ hP | with_reducible apply closed_armUv _ hP
      | with_reducible apply closed_setRail _ hP | split | decide

theorem closed_branchTop (P : State → Prop) (hP : Closed P) (s : State) (hs : P s) : P (State.branchTop s) := by
  unfold State.branchTop
  repeat' first | with_reducible assumption | with_reducible apply closed_stopRail _ hP | split

theorem closed_branchStop (P : State → Prop) (hP : Closed P) (s : State) (r : Nat) (hs : P s) : P (State.branchStop s r) := by
  unfold State.branchStop
  repeat' first | with_reducible assumption | with_reducible apply closed_branchTop _ hP | split | with_reducible apply hP.top

theorem closed_enterOff (P : State → Prop) (hP : Closed P) (s : State) (hs : P s) : P (State.enterOff s) := by
  unfold State.enterOff
  repeat' first
      | with_reducible assumption | with_reducible refine fun _ => ?_ | with_reducible apply hP.put | with_reducible apply closed_ifDo _ hP
      | with_reducible apply closed_irq _ hP | decide

theorem closed_pathRelease (P : State → Prop) (hP : Closed P) (s : State) (reset : Bool) (hs : P s) : P (State.pathRelease s reset) := by
  unfold State.pathRelease
  repeat' first | with_reducible assumption | with_reducible refine fun _ => ?_ | with_reducible apply hP.put | with_reducible apply closed_ifDo _ hP | decide

theorem closed_release (P : State → Prop) (hP : Closed P) (s : State) (reset : Bool) (hs : P s) : P (State.release s reset) := by
  unfold State.release
  repeat' first
      | with_reducible assumption | with_reducible refine fun _ => ?_ | with_reducible apply hP.put | with_reducible apply closed_enterOff _ hP
      | with_reducible apply closed_pathRelease _ hP | with_reducible apply closed_loopOff _ hP | with_reducible apply closed_armUv _ hP
      | with_reducible apply closed_setRail _ hP | with_reducible apply closed_forEach _ hP | split | decide | with_reducible apply hP.top

theorem closed_setLatch (P : State → Prop) (hP : Closed P) (s : State) (cause rail lsrc : Nat) (hs : P s) : P (State.setLatch s cause rail lsrc) := by
  unfold State.setLatch
  repeat' first | with_reducible assumption | with_reducible apply hP.put | with_reducible apply closed_stageCritical _ hP | split | decide

theorem closed_sdTop (P : State → Prop) (hP : Closed P) (s : State) (hs : P s) : P (State.sdTop s) := by
  unfold State.sdTop
  repeat' first | with_reducible assumption | with_reducible apply closed_enterOff _ hP | with_reducible apply closed_stopRail _ hP | split

theorem closed_shutdown (P : State → Prop) (hP : Closed P) (s : State) (hs : P s) : P (State.shutdown s) := by
  unfold State.shutdown
  repeat' first
      | with_reducible assumption | with_reducible apply hP.put | with_reducible apply closed_sdTop _ hP | split | decide | with_reducible apply hP.top

theorem closed_faultAct (P : State → Prop) (hP : Closed P) (s : State) (r act : Nat) (hs : P s) : P (State.faultAct s r act) := by
  unfold State.faultAct
  repeat' first
      | with_reducible assumption | exact trivial | with_reducible apply hP.put | with_reducible apply closed_setLatch _ hP
      | with_reducible apply closed_shutdown _ hP | with_reducible apply closed_release _ hP | with_reducible apply closed_branchStop _ hP
      | with_reducible apply closed_ite | split | decide

theorem closed_record (P : State → Prop) (hP : Closed P) (s : State) (ty rail lsrc : Nat) (ev : List (BitVec 8)) (hs : P s) :
    P (State.record s ty rail lsrc ev) := by
  unfold State.record
  repeat' first | with_reducible assumption | with_reducible apply closed_stageCritical _ hP

theorem closed_railFault (P : State → Prop) (hP : Closed P) (s : State) (r : Nat) (hs : P s) : P (State.railFault s r) := by
  unfold State.railFault
  repeat' first
      | with_reducible assumption | (with_reducible refine fun _ => ?_) | with_reducible apply hP.put | with_reducible apply closed_ifDo _ hP
      | with_reducible apply closed_faultAct _ hP | with_reducible apply closed_setRail _ hP | with_reducible apply closed_record _ hP
      | with_reducible apply closed_raise _ hP | split | decide

theorem closed_loopDead (P : State → Prop) (hP : Closed P) (s : State) (n : Nat) (hs : P s) : P (State.loopDead s n) := by
  unfold State.loopDead
  repeat' first
      | with_reducible assumption
      | (lift_lets; intro x; (first | have hx : P x := by (repeat' first | with_reducible assumption | with_reducible refine fun _ => ?_ | exact trivial | with_reducible apply hP.put | with_reducible apply closed_pgLow _ hP | with_reducible apply closed_ifDo _ hP | with_reducible apply closed_loopOff _ hP | with_reducible apply closed_ite | split | decide) | have hx : True := trivial); clear_value x)
      | with_reducible refine fun _ => ?_ | exact trivial | with_reducible apply hP.put | with_reducible apply closed_ifDo _ hP
      | with_reducible apply closed_finishStop _ hP | with_reducible apply closed_railFault _ hP | with_reducible apply closed_ite | split | decide

theorem closed_fencePhase (P : State → Prop) (hP : Closed P) (s : State) (k origin : Nat) (hs : P s) : P (State.fencePhase s k origin) := by
  unfold State.fencePhase
  repeat' first
      | with_reducible assumption | with_reducible refine fun _ => ?_ | with_reducible apply hP.put | with_reducible apply closed_setBal _ hP
      | with_reducible apply closed_capLow _ hP | with_reducible apply closed_ifDo _ hP | with_reducible apply closed_irq _ hP
      | with_reducible apply closed_loopDead _ hP | with_reducible apply closed_ite | decide

theorem closed_fenceUnit (P : State → Prop) (hP : Closed P) (s : State) (u : Nat) (hs : P s) : P (State.fenceUnit s u) := by
  unfold State.fenceUnit
  repeat' first
      | with_reducible assumption | with_reducible refine fun _ => ?_ | with_reducible apply closed_ifDo _ hP | with_reducible apply closed_fenceCrier _ hP
      | with_reducible apply closed_fencePhase _ hP | split

theorem closed_requestOff (P : State → Prop) (hP : Closed P) (s : State) (hs : P s) : P (State.requestOff s) := by
  unfold State.requestOff
  repeat' first
      | with_reducible assumption | exact trivial | with_reducible apply hP.put | with_reducible apply closed_ifDo _ hP
      | with_reducible apply closed_shutdown _ hP | with_reducible apply closed_sat _ hP | with_reducible apply closed_ite | split | decide

theorem closed_react (P : State → Prop) (hP : Closed P) (s : State) (n react : Nat) (hs : P s) : P (State.react s n react) := by
  unfold State.react
  repeat' first
      | with_reducible assumption | with_reducible apply closed_setLatch _ hP | with_reducible apply closed_shutdown _ hP
      | with_reducible apply closed_release _ hP | with_reducible apply closed_requestOff _ hP | split

theorem closed_countEvent (P : State → Prop) (hP : Closed P) (s : State) (n : Nat) (hs : P s) : P (State.countEvent s n).2 := by
  unfold State.countEvent
  repeat' first
      | with_reducible assumption
      | (lift_lets; intro x; (first | have hx : P x := by (repeat' first | with_reducible assumption | with_reducible refine fun _ => ?_ | exact trivial | with_reducible apply hP.put | with_reducible apply closed_ifDo _ hP | split | decide) | have hx : True := trivial); clear_value x)
      | exact trivial | with_reducible apply hP.put | split | decide

theorem closed_setBit (P : State → Prop) (hP : Closed P) (s : State) (f : Fld) (n i : Nat) (b : Bool) (hs : P s) (hm : follows f = true) :
    P (State.setBit s f n i b) := by
  unfold State.setBit
  repeat' first | with_reducible assumption | with_reducible apply hP.put

theorem closed_setArr (P : State → Prop) (hP : Closed P) (s : State) (f : Fld) (i : Nat) (b : Bool) (hs : P s) (hm : follows f = true) :
    P (State.setArr s f i b) := by
  unfold State.setArr
  repeat' first | with_reducible assumption | with_reducible apply closed_setBit _ hP

theorem closed_classify (P : State → Prop) (hP : Closed P) (s : State) (n : Nat) (hs : P s) : P (State.classify s n).2 := by
  unfold State.classify
  repeat' first
      | with_reducible assumption | with_reducible refine fun _ => ?_ | with_reducible apply hP.put | with_reducible apply closed_ifDo _ hP
      | with_reducible apply closed_countEvent _ hP | with_reducible apply closed_setArr _ hP | decide

theorem closed_setGap (P : State → Prop) (hP : Closed P) (s : State) (g : Gap) (hs : P s) : P (State.setGap s g) := by
  unfold State.setGap
  repeat' first | with_reducible assumption | with_reducible apply hP.top

theorem closed_stageOther (P : State → Prop) (hP : Closed P) (s : State) (src : Option Nat) (r : Record) (hs : P s) : P (State.stageOther s src r).2 := by
  unfold State.stageOther
  repeat' first
      | with_reducible assumption | exact trivial | with_reducible apply closed_setGap _ hP | with_reducible apply closed_append _ hP
      | with_reducible apply closed_dropped _ hP | split | decide

theorem closed_ledgerRecord (P : State → Prop) (hP : Closed P) (s : State) (n cls react : Nat) (hs : P s) : P (State.ledgerRecord s n cls react) := by
  unfold State.ledgerRecord
  repeat' first
      | with_reducible assumption | exact trivial | with_reducible apply closed_stageOther _ hP | with_reducible apply closed_record _ hP
      | with_reducible apply closed_react _ hP | split | decide

theorem closed_register (P : State → Prop) (hP : Closed P) (s : State) (n : Nat) (hs : P s) : P (State.register s n).2 := by
  unfold State.register
  repeat' first
      | with_reducible assumption | with_reducible refine fun _ => ?_ | with_reducible apply hP.put | with_reducible apply closed_ledgerRecord _ hP
      | with_reducible apply closed_ifDo _ hP | with_reducible apply closed_classify _ hP | decide

theorem closed_registerAll (P : State → Prop) (hP : Closed P) (s : State) (l : List Nat) (hs : P s) : P (State.registerAll s l).2 := by
  induction l generalizing s with
  | nil => exact hs
  | cons n t ih => exact ih _ (closed_register P hP _ _ hs)

theorem closed_ledgerCycle (P : State → Prop) (hP : Closed P) (s : State) (hs : P s) : P (State.ledgerCycle s) := by
  unfold State.ledgerCycle
  repeat' first
      | with_reducible assumption | with_reducible apply closed_react _ hP | with_reducible apply closed_forEach _ hP
      | with_reducible apply closed_registerAll _ hP | with_reducible apply closed_fenceUnit _ hP | split | decide | with_reducible apply hP.top

theorem closed_checkOn (P : State → Prop) (hP : Closed P) (s : State) (hs : P s) : P (State.checkOn s) := by
  unfold State.checkOn
  repeat' first
      | with_reducible assumption | with_reducible refine fun _ => ?_ | with_reducible apply hP.put | with_reducible apply closed_ifDo _ hP
      | with_reducible apply closed_irq _ hP | decide

theorem closed_becomeGood (P : State → Prop) (hP : Closed P) (s : State) (r : Nat) (hs : P s) : P (State.becomeGood s r) := by
  unfold State.becomeGood
  repeat' first
      | with_reducible assumption | with_reducible apply hP.put | with_reducible apply closed_checkOn _ hP | with_reducible apply closed_armUv _ hP
      | with_reducible apply closed_setRail _ hP | decide

theorem closed_tryGood (P : State → Prop) (hP : Closed P) (s : State) (r : Nat) (hs : P s) : P (State.tryGood s r) := by
  unfold State.tryGood
  repeat' first
      | with_reducible assumption | with_reducible refine fun _ => ?_ | with_reducible apply closed_ifDo _ hP | with_reducible apply closed_becomeGood _ hP

theorem closed_pgChange (P : State → Prop) (hP : Closed P) (s : State) (src : Nat) (level : Bool) (hs : P s) : P (State.pgChange s src level) := by
  unfold State.pgChange
  repeat' first
      | with_reducible assumption | with_reducible refine fun _ => ?_ | with_reducible apply closed_ifDo _ hP | with_reducible apply closed_forEach _ hP
      | with_reducible apply closed_tryGood _ hP | with_reducible apply closed_railFault _ hP | split

theorem closed_takePg (P : State → Prop) (hP : Closed P) (s : State) (hs : P s) : P (State.takePg s) := by
  unfold State.takePg
  repeat' first
      | with_reducible assumption | with_reducible refine fun _ => ?_ | with_reducible apply hP.put | with_reducible apply closed_pgChange _ hP
      | with_reducible apply closed_forEach _ hP | decide

theorem closed_settleN (P : State → Prop) (hP : Closed P) (s : State) (fuel : Nat) (hs : P s) : P (State.settleN s fuel) := by
  induction fuel generalizing s with
  | zero => exact hs
  | succ k ih =>
    unfold State.settleN
    lift_lets; intro x
    split
    · exact closed_takePg P hP _ hs
    · exact ih _ (closed_ledgerCycle P hP _ (closed_takePg P hP _ hs))

theorem closed_settle (P : State → Prop) (hP : Closed P) (s : State) (hs : P s) : P (State.settle s) := by
  unfold State.settle
  repeat' first | with_reducible assumption | with_reducible apply closed_settleN _ hP

theorem closed_bmc (P : State → Prop) (hP : Closed P) (s : State) (x : Nat) (hs : P s) : P (State.bmc s x) := by
  unfold State.bmc
  repeat' first | with_reducible assumption | with_reducible apply closed_demand _ hP | with_reducible apply closed_ifDo _ hP

theorem closed_tx (P : State → Prop) (hP : Closed P) (s : State) (x m : Nat) (hs : P s) : P (State.tx s x m) := by
  unfold State.tx
  repeat' first | with_reducible assumption | with_reducible apply hP.put | with_reducible apply closed_bmc _ hP | decide

theorem closed_eprEnter (P : State → Prop) (hP : Closed P) (s : State) (x : Nat) (hs : P s) : P (State.eprEnter s x) := by
  unfold State.eprEnter
  repeat' first
      | with_reducible assumption | with_reducible refine fun _ => ?_ | with_reducible apply hP.put | with_reducible apply closed_tx _ hP
      | with_reducible apply closed_ifDo _ hP | decide

theorem closed_sendCaps (P : State → Prop) (hP : Closed P) (s : State) (x : Nat) (hs : P s) : P (State.sendCaps s x) := by
  unfold State.sendCaps
  repeat' first | with_reducible assumption | with_reducible refine fun _ => ?_ | with_reducible apply closed_tx _ hP | with_reducible apply closed_ifDo _ hP

theorem closed_endExchange (P : State → Prop) (hP : Closed P) (s : State) (x : Nat) (hs : P s) : P (State.endExchange s x) := by
  unfold State.endExchange
  repeat' first | with_reducible assumption | with_reducible apply hP.put | decide

theorem closed_noContract (P : State → Prop) (hP : Closed P) (s : State) (x : Nat) (hs : P s) : P (State.noContract s x) := by
  unfold State.noContract
  repeat' first | with_reducible assumption | with_reducible apply hP.put | decide

theorem closed_protoReset (P : State → Prop) (hP : Closed P) (s : State) (x : Nat) (hs : P s) : P (State.protoReset s x) := by
  unfold State.protoReset
  repeat' first
      | with_reducible assumption | with_reducible apply hP.put | with_reducible apply closed_noContract _ hP
      | with_reducible apply closed_endExchange _ hP | decide

theorem closed_sourceOff (P : State → Prop) (hP : Closed P) (s : State) (x : Nat) (hs : P s) : P (State.sourceOff s x) := by
  unfold State.sourceOff
  repeat' first | with_reducible assumption | with_reducible refine fun _ => ?_ | with_reducible apply hP.put | with_reducible apply closed_ifDo _ hP | decide

theorem closed_unattach (P : State → Prop) (hP : Closed P) (s : State) (x tc : Nat) (hs : P s) : P (State.unattach s x tc) := by
  unfold State.unattach
  repeat' first
      | with_reducible assumption | with_reducible refine fun _ => ?_ | with_reducible apply hP.put | with_reducible apply closed_protoReset _ hP
      | with_reducible apply closed_forEach _ hP | with_reducible apply closed_sourceOff _ hP | decide

theorem closed_stopSource (P : State → Prop) (hP : Closed P) (s : State) (x : Nat) (hs : P s) : P (State.stopSource s x) := by
  unfold State.stopSource
  repeat' first
      | with_reducible assumption | with_reducible refine fun _ => ?_ | with_reducible apply hP.put | with_reducible apply closed_ifDo _ hP
      | with_reducible apply closed_unattach _ hP | decide

theorem closed_holdSrc (P : State → Prop) (hP : Closed P) (s : State) (x : Nat) (hs : P s) : P (State.holdSrc s x) := by
  unfold State.holdSrc
  repeat' first
      | with_reducible assumption | with_reducible apply hP.put | with_reducible apply closed_sendCaps _ hP | with_reducible apply closed_stopSource _ hP
      | split | decide

theorem closed_reloadMap (P : State → Prop) (hP : Closed P) (s : State) (hs : P s) : P (State.reloadMap s) := by
  unfold State.reloadMap
  repeat' first
      | with_reducible assumption | with_reducible refine fun _ => ?_ | with_reducible apply hP.put | with_reducible apply closed_ifDo _ hP
      | with_reducible apply closed_forEach _ hP | decide

theorem closed_toStandby (P : State → Prop) (hP : Closed P) (s : State) (c : Nat) (hs : P s) : P (State.toStandby s c) := by
  unfold State.toStandby
  repeat' first
      | with_reducible assumption | with_reducible refine fun _ => ?_ | with_reducible apply hP.put | with_reducible apply closed_mark _ hP
      | with_reducible apply closed_criersRest _ hP | with_reducible apply closed_reloadMap _ hP | with_reducible apply closed_forEach _ hP
      | with_reducible apply hP.dropV | with_reducible apply hP.dropW | split | decide

theorem closed_bfetRefresh (P : State → Prop) (hP : Closed P) (s : State) (hs : P s) : P (State.bfetRefresh s) := by
  unfold State.bfetRefresh
  repeat' first | with_reducible assumption | with_reducible apply hP.put | split | decide

theorem closed_stepCut (P : State → Prop) (hP : Closed P) (s : State) (hs : P s) : P (State.stepCut s) := by
  unfold State.stepCut
  repeat' first | with_reducible assumption | with_reducible apply hP.put | decide

theorem closed_ptStart (P : State → Prop) (hP : Closed P) (s : State) (hs : P s) : P (State.ptStart s) := by
  unfold State.ptStart
  repeat' first
      | with_reducible assumption | with_reducible refine fun _ => ?_ | with_reducible apply hP.put | with_reducible apply closed_ifDo _ hP
      | with_reducible apply closed_stepCut _ hP | decide

theorem closed_portFlag (P : State → Prop) (hP : Closed P) (s : State) (f : Fld) (x : Nat) (hs : P s) (hm : follows f = true)
    (hh : follows f.held = true) : P (State.portFlag s f x) := closed_wake P hP _ _ (closed_flag P hP _ _ _ _ hs hm hh)

theorem closed_startSteps (P : State → Prop) (hP : Closed P) (s : State) (k : Nat) (hs : P s) : P (State.startSteps s k) := by
  unfold State.startSteps
  repeat' first | with_reducible assumption | exact trivial | with_reducible apply hP.put | with_reducible apply closed_shutdown _ hP | decide

theorem closed_batteryEmpty (P : State → Prop) (hP : Closed P) (s : State) (hs : P s) : P (State.batteryEmpty s) := by
  unfold State.batteryEmpty
  repeat' first
      | with_reducible assumption | with_reducible refine fun _ => ?_ | with_reducible apply hP.put | with_reducible apply closed_ifDo _ hP
      | with_reducible apply closed_startSteps _ hP | split | decide

theorem closed_chargeCheck (P : State → Prop) (hP : Closed P) (s : State) (hs : P s) : P (State.chargeCheck s) := by
  unfold State.chargeCheck
  repeat' first
      | with_reducible assumption | with_reducible refine fun _ => ?_ | with_reducible apply closed_ifDo _ hP | with_reducible apply closed_setPhase _ hP
      | split

theorem closed_request (P : State → Prop) (hP : Closed P) (s : State) (x : Nat) (a : Ask) (hs : P s) : P (State.request s x a) := by
  unfold State.request
  repeat' first
      | with_reducible assumption | with_reducible refine fun _ => ?_ | with_reducible apply hP.put | with_reducible apply closed_mark _ hP
      | with_reducible apply closed_tx _ hP | with_reducible apply closed_ifDo _ hP | with_reducible apply closed_portFlag _ hP | decide

theorem closed_eprOut (P : State → Prop) (hP : Closed P) (s : State) (x : Nat) (hs : P s) : P (State.eprOut s x) := by
  unfold State.eprOut
  repeat' first
      | with_reducible assumption | with_reducible refine fun _ => ?_ | with_reducible apply hP.put | with_reducible apply closed_ifDo _ hP
      | with_reducible apply closed_request _ hP | decide

theorem closed_discover (P : State → Prop) (hP : Closed P) (s : State) (x : Nat) (hs : P s) : P (State.discover s x) := by
  unfold State.discover
  repeat' first
      | with_reducible assumption | with_reducible refine fun _ => ?_ | with_reducible apply hP.put | with_reducible apply closed_tx _ hP
      | with_reducible apply closed_ifDo _ hP | decide

theorem closed_vconnOn (P : State → Prop) (hP : Closed P) (s : State) (x : Nat) (hs : P s) : P (State.vconnOn s x) := by
  unfold State.vconnOn
  repeat' first
      | with_reducible assumption | with_reducible refine fun _ => ?_ | with_reducible apply hP.put | with_reducible apply closed_ifDo _ hP
      | with_reducible apply closed_discover _ hP | decide

theorem closed_portCfgFlds (P : State → Prop) (hP : Closed P) (s : State) (x w : Nat) (hs : P s) :
    P (portCfgFlds.foldl (fun s f => s.put f x (w / 2 ^ f.lsb)) s) := by
  have h : ∀ f ∈ portCfgFlds, follows f = true := by decide
  revert h
  generalize portCfgFlds = l
  intro h
  induction l generalizing s with
  | nil => exact hs
  | cons a t ih => exact ih _ (hP.put _ _ _ _ (h a (by simp)) hs) (fun f hf => h f (by simp [hf]))

theorem closed_portCfgTake (P : State → Prop) (hP : Closed P) (s : State) (x w : Nat) (hs : P s) : P (State.portCfgTake s x w) := by
  unfold State.portCfgTake
  repeat' first
      | with_reducible assumption | with_reducible refine fun _ => ?_ | with_reducible apply hP.put | with_reducible apply closed_sendCaps _ hP
      | with_reducible apply closed_ifDo _ hP | with_reducible apply closed_vconnOn _ hP | with_reducible apply closed_portCfgFlds _ hP | split | decide

theorem closed_requestBest (P : State → Prop) (hP : Closed P) (s : State) (x : Nat) (hs : P s) : P (State.requestBest s x) := by
  unfold State.requestBest
  repeat' first | with_reducible assumption | with_reducible apply closed_request _ hP

theorem closed_portFree (P : State → Prop) (hP : Closed P) (s : State) (x : Nat) (hs : P s) : P (State.portFree s x) := by
  unfold State.portFree
  repeat' first
      | with_reducible assumption | with_reducible refine fun _ => ?_ | with_reducible apply hP.put | with_reducible apply closed_ifDo _ hP
      | with_reducible apply closed_requestBest _ hP | with_reducible apply closed_portCfgTake _ hP | with_reducible apply closed_eprOut _ hP
      | with_reducible apply closed_holdSrc _ hP | with_reducible apply closed_eprEnter _ hP | split | decide

theorem closed_pwrRefuse (P : State → Prop) (hP : Closed P) (s : State) (hs : P s) : P (State.pwrRefuse s) := by
  unfold State.pwrRefuse
  repeat' first | with_reducible assumption | with_reducible apply hP.put | with_reducible apply closed_irq _ hP | decide

theorem closed_shipCancel (P : State → Prop) (hP : Closed P) (s : State) (hs : P s) : P (State.shipCancel s) := by
  unfold State.shipCancel
  repeat' first | with_reducible assumption | with_reducible apply hP.put | with_reducible apply closed_ptStart _ hP | decide

theorem closed_pwrAct (P : State → Prop) (hP : Closed P) (s : State) (req : Nat) (hs : P s) : P (State.pwrAct s req) := by
  unfold State.pwrAct
  repeat' first
      | with_reducible assumption | with_reducible refine fun _ => ?_ | with_reducible apply hP.put | with_reducible apply closed_demand _ hP
      | with_reducible apply closed_ifDo _ hP | with_reducible apply closed_pwrRefuse _ hP | with_reducible apply closed_reloadMap _ hP
      | with_reducible apply closed_forEach _ hP | with_reducible apply closed_shipCancel _ hP | with_reducible apply closed_stopSource _ hP
      | with_reducible apply closed_startSteps _ hP | split | decide

theorem closed_pwrHeld (P : State → Prop) (hP : Closed P) (s : State) (hs : P s) : P (State.pwrHeld s) := by
  unfold State.pwrHeld
  repeat' first | with_reducible assumption | with_reducible apply hP.put | with_reducible apply closed_pwrAct _ hP | split | decide

theorem closed_rideCheck (P : State → Prop) (hP : Closed P) (s : State) (hs : P s) : P (State.rideCheck s) := by
  unfold State.rideCheck
  repeat' first
      | with_reducible assumption | with_reducible refine fun _ => ?_ | with_reducible apply closed_mark _ hP | with_reducible apply closed_ifDo _ hP
      | with_reducible apply closed_raise _ hP | decide

theorem closed_jrnlStart (P : State → Prop) (hP : Closed P) (s : State) (kind : Nat) (hs : P s) : P (State.jrnlStart s kind) := by
  unfold State.jrnlStart
  repeat' first
      | with_reducible assumption | exact trivial | with_reducible apply hP.put | with_reducible apply closed_nvmNext _ hP | decide
      | with_reducible apply hP.top

theorem closed_rest (P : State → Prop) (hP : Closed P) (s : State) (c : Nat) (hs : P s) : P (State.rest s c) := by
  unfold State.rest
  repeat' first | with_reducible assumption | with_reducible apply hP.put | with_reducible apply closed_toStandby _ hP | split | decide

theorem closed_stepsFour (P : State → Prop) (hP : Closed P) (s : State) (hs : P s) : P (State.stepsFour s) := by
  unfold State.stepsFour
  repeat' first
      | with_reducible assumption | with_reducible refine fun _ => ?_ | with_reducible apply hP.put | with_reducible apply closed_rest _ hP
      | with_reducible apply closed_ifDo _ hP | split | decide

theorem closed_stepsRecord (P : State → Prop) (hP : Closed P) (s : State) (hs : P s) : P (State.stepsRecord s) := by
  unfold State.stepsRecord
  repeat' first | with_reducible assumption | with_reducible apply closed_record _ hP | split

theorem closed_stepsGo (P : State → Prop) (hP : Closed P) (s : State) (hs : P s) : P (State.stepsGo s) := by
  unfold State.stepsGo
  repeat' first
      | with_reducible assumption | with_reducible refine fun _ => ?_ | with_reducible apply hP.put | with_reducible apply closed_ifDo _ hP
      | with_reducible apply closed_stepsFour _ hP | with_reducible apply closed_flag _ hP | with_reducible apply closed_jrnlStart _ hP
      | with_reducible apply closed_stepsRecord _ hP | split | decide

theorem closed_warmDone (P : State → Prop) (hP : Closed P) (s : State) (hs : P s) : P (State.warmDone s) := by
  unfold State.warmDone
  repeat' first | with_reducible assumption | with_reducible refine fun _ => ?_ | with_reducible apply hP.put | with_reducible apply closed_ifDo _ hP | decide

theorem closed_progress (P : State → Prop) (hP : Closed P) (s : State) (hs : P s) : P (State.progress s) := by
  unfold State.progress
  repeat' first
      | with_reducible assumption | exact trivial | with_reducible apply hP.put | with_reducible apply closed_portFree _ hP
      | with_reducible apply closed_chargeCheck _ hP | with_reducible apply closed_pwrHeld _ hP | with_reducible apply closed_warmDone _ hP
      | with_reducible apply closed_ifDo _ hP | with_reducible apply closed_stepsGo _ hP | with_reducible apply closed_batteryEmpty _ hP
      | with_reducible apply closed_forEach _ hP | with_reducible apply closed_rideCheck _ hP | with_reducible apply closed_bfetRefresh _ hP
      | with_reducible apply closed_ite | split | decide

theorem closed_finish (P : State → Prop) (hP : Closed P) (s : State) (hs : P s) : P (State.finish s) := by
  unfold State.finish
  repeat' first | with_reducible assumption | with_reducible apply closed_progress _ hP | with_reducible apply closed_settle _ hP

end Sys2Proof.Machine
end

