-- ==== Sys2Proof/Laws/Frame.lean ====
section
/-! SUPPORT. Frames: what keeps a state's other fields, and how a Tarragon instruction that is ready runs. -/

namespace Sys2Proof.Machine
open Sys2Proof

theorem changes_refl (s : State) (l : List Nat) : Changes s s l := ⟨fun _ _ _ => rfl, rfl⟩

theorem changes_put (s u : State) (l : List Nat) (f : Fld) (n v : Nat) (h : Changes s u l) (hk : f.key n ∈ l) : Changes s (u.put f n v) l := by
  refine ⟨fun g m hg => ?_, ?_⟩
  · rw [State.get_put_ne u f g n m v (fun e => hg (e ▸ hk)), h.1 g m hg]
  · rw [State.put_rest, h.2]

theorem changes_mark (s u : State) (l : List Nat) (f : Fld) (n : Nat) (b : Bool) (h : Changes s u l) (hk : f.key n ∈ l) :
    Changes s (u.mark f n b) l := changes_put s u l f n _ h hk

theorem changes_mono (s u : State) (l m : List Nat) (h : Changes s u l) (hl : ∀ k ∈ l, k ∈ m) : Changes s u m :=
  ⟨fun f n hk => h.1 f n (fun hm => hk (hl _ hm)), h.2⟩

/-- A one-bit field set reads as it was set. -/
theorem State.is_mark (s : State) (f : Fld) (n : Nat) (b : Bool) (hw : f.width = 1) (hn : n < f.count) : (s.mark f n b).is f n = b := by
  simp only [State.is, State.mark, State.get_put_self _ _ _ _ hn, hw]
  cases b <;> rfl

theorem State.is_put_ne (s : State) (f g : Fld) (n m v : Nat) (h : g.key m ≠ f.key n) : (s.put f n v).is g m = s.is g m := by
  simp only [State.is, State.get_put_ne _ _ _ _ _ _ h]

/-- A register written reads as what lands in it. -/
theorem State.reg_setReg (s : State) (st : Stl) (r : RegN) (v : Word) : (s.setReg st r v).reg st r = landed r v := by
  unfold State.reg State.setReg landed
  split
  · rfl
  · have h : 16 * st.val + r.val < Hid.S_R.count := by show _ < 64; omega
    simp only [State.word, State.get_put_self _ _ _ _ h]
    apply BitVec.eq_of_toNat_eq
    show v.toNat % 2 ^ 32 % 2 ^ 32 = v.toNat
    omega

theorem changes_setReg (s u : State) (l : List Nat) (st : Stl) (r : RegN) (v : Word) (h : Changes s u l) (hk : ∀ k ∈ regKeys st r, k ∈ l) :
    Changes s (u.setReg st r v) l := by
  unfold State.setReg
  split
  · exact h
  · rename_i hr
    exact changes_put _ _ _ _ _ _ h (hk _ (by simp [regKeys, hr]))

theorem changes_retireAt (s u : State) (l : List Nat) (st : Stl) (pc : Nat) (h : Changes s u l) (hk : ∀ k ∈ pcKeys st, k ∈ l) :
    Changes s (u.retireAt st pc) l :=
  changes_put _ _ _ _ _ _ (changes_put _ _ _ _ _ _ h (hk _ (by simp [pcKeys]))) (hk _ (by simp [pcKeys]))

/-- An instruction of an identity that executes, with no forced mismatch armed, is its own effect and what follows. -/
theorem tar_run (s : State) (st : Stl) (f : State → State) (he : s.executes st = true) (hm : s.mmArmed st = false) :
    tar st s f = .next (f s).finish := by
  simp [tar, he, State.runOne, hm, ended]

/-- An instruction of an identity that does not execute is none. -/
theorem tar_idle (s : State) (st : Nat) (f : State → State) (he : s.executes st = false) : tar st s f = .next s := by
  simp [tar, he, done]

theorem State.plain_run (s : State) (st : Stl) (f : State → State) (h : s.pc st < 0x1FFF) : s.plain st f = (f s).retire st := by
  have : s.atLast st = false := by simp [State.atLast]; omega
  simp [State.plain, State.unlessFault, faultOf, firstWhy, this]

/-- A command whose own effect leads to `u` completes: what follows by itself leads on from there. -/
theorem completes_of (i : Instr) (s u : State) (post : State → Prop) (hs : Settles u u.finish) (h : exec i s = .next u.finish) (hp : post u) :
    ∃ u t, exec i s = .next t ∧ Settles u t ∧ post u := ⟨u, u.finish, h, hs, hp⟩

end Sys2Proof.Machine
end

