-- ==== Sys2Proof/Laws/Open.lean ====
section
/-! SUPPORT. A property of states that putting a field, dropping a retention class and changing the parts outside the registers each keep is kept by
every operation of the block: one lemma per operation, each citing those of the operations it calls, so that no later proof unfolds one. -/
namespace Sys2Proof.Machine
open Sys2Proof

/-- What a property of states needs so that every operation of the part keeps it. -/
structure Open (P : State → Prop) : Prop where
  put : ∀ s f n v, P s → P (s.put f n v)
  keep : ∀ (s : State) (p : Nat → Bool), P s → P { s with fld := Pages.keep s.fld p }
  top : ∀ (s : State) a b c d e f g h i j k l m n o p, (Cells.wf s.imem = true → Cells.wf b = true) → (Cells.wf s.sdata = true → Cells.wf c = true) →
    (Cells.wf s.nvm = true → Cells.wf d = true) → P s →
    P { s with free := a, imem := b, sdata := c, nvm := d, nvmq := e, stack := f, branch := g, staging := h, gap := i, mail := j, evq := k,
               bkq := l, gauge := m, out := n, comp := o, bal := p }

theorem Open.drop {P : State → Prop} (h : Open P) (s : State) (k : Kept) (hs : P s) : P (s.drop k) := h.keep s _ hs

theorem Open.closed {P : State → Prop} (h : Open P) : Closed P where
  put := fun s f n v _ => h.put s f n v
  dropV := fun s => h.drop s .v
  dropW := fun s => h.drop s .w
  top := fun s _ _ _ _ _ _ _ => h.top s _ _ _ _ _ _ _ _ _ _ _ _ _ _ _ _ id id id

theorem closed_id (P : State → Prop) (s : State) (hs : P s) : P (id s) := hs

theorem wf_foldl {α : Type} (f : List Host.Cell → α → List Host.Cell) (l : List α) (m : List Host.Cell)
    (hf : ∀ m a, Cells.wf m = true → Cells.wf (f m a) = true) (h : Cells.wf m = true) : Cells.wf (l.foldl f m) = true := by
  induction l generalizing m with
  | nil => exact h
  | cons a t ih => exact ih _ (hf _ _ h)

theorem wf_loadWords (m : Cells Word) (nvm : List Host.Cell) (key addr n : Nat) (h : Cells.wf m = true) :
    Cells.wf (loadWords m nvm key addr n) = true := by
  unfold loadWords
  generalize List.range n = l
  induction l generalizing m with
  | nil => exact h
  | cons a t ih => exact ih _ (Cells.wf_set _ _ _ h)

theorem Cells.rising_append {α : Type} (l m : Cells α) (hl : Cells.rising l = true) (hm : Cells.rising m = true)
    (h : ∀ c ∈ l, ∀ d ∈ m, c.1 < d.1) : Cells.rising (l ++ m) = true := by
  induction l with
  | nil => exact hm
  | cons a t ih =>
    rw [Cells.rising_cons] at hl
    rw [List.cons_append, Cells.rising_cons]
    refine ⟨fun d hd => ?_, ih hl.2 (fun c hc => h c (by simp [hc]))⟩
    rcases List.mem_append.1 hd with hd | hd
    · exact hl.1 d hd
    · exact h a (by simp) d hd

theorem Cells.rising_shift {α : Type} (l : Cells α) (p q : Nat) (hp : ∀ c ∈ l, p ≤ c.1) (hl : Cells.rising l = true) :
    Cells.rising (l.map (fun c => (c.1 - p + q, c.2))) = true := by
  induction l with
  | nil => rfl
  | cons a t ih =>
    rw [Cells.rising_cons] at hl
    rw [List.map_cons, Cells.rising_cons]
    refine ⟨fun d hd => ?_, ih (fun c hc => hp c (by simp [hc])) hl.2⟩
    obtain ⟨c, hc, rfl⟩ := List.mem_map.1 hd
    have h1 := hl.1 c hc
    have h2 := hp a (by simp)
    show a.1 - p + q < c.1 - p + q
    omega

theorem wf_copyCells (m : Cells Word) (p : Nat) (h : Cells.wf m = true) :
    Cells.wf (m.filter (fun c => c.1 < 32768) ++
      (m.filter (fun c => 8192 * p ≤ c.1 && c.1 < 8192 * p + 8192)).map (fun c => (c.1 - 8192 * p + 32768, c.2))) = true := by
  rw [Cells.wf_iff] at h ⊢
  refine ⟨Cells.rising_append _ _ (Cells.rising_filter _ _ h.1) (Cells.rising_shift _ _ _ ?_ (Cells.rising_filter _ _ h.1)) ?_, ?_⟩
  · intro c hc
    simp at hc
    omega
  · intro c hc d hd
    simp at hc hd
    obtain ⟨a, v, hd, rfl⟩ := hd
    simp only
    omega
  · intro c hc
    simp at hc
    rcases hc with hc | ⟨a, v, hc, rfl⟩
    · exact h.2 c hc.1
    · exact h.2 (a, v) hc.1

theorem wf_copyWords (m : List Host.Cell) (dst src n : Nat) (h : Cells.wf m = true) : Cells.wf (copyWords m dst src n) = true :=
  wf_foldl _ _ _ (fun _ _ h => wf_storeWord _ _ _ h) h

theorem wf_measWords (s : State) (dst c n : Nat) (h : Cells.wf s.sdata = true) : Cells.wf (s.measWords dst c n) = true :=
  wf_foldl _ _ _ (fun _ _ h => wf_storeWord _ _ _ h) h

theorem open_mark (P : State → Prop) (hP : Open P) (s : State) (f : Fld) (n : Nat) (b : Bool) (hs : P s) : P (State.mark s f n b) := hP.put _ _ _ _ hs

theorem open_setBit (P : State → Prop) (hP : Open P) (s : State) (f : Fld) (n i : Nat) (b : Bool) (hs : P s) : P (State.setBit s f n i b) := hP.put _ _ _ _ hs

theorem open_sat (P : State → Prop) (hP : Open P) (s : State) (f : Fld) (n lim : Nat) (hs : P s) : P (State.sat s f n lim) := hP.put _ _ _ _ hs

theorem open_setArr (P : State → Prop) (hP : Open P) (s : State) (f : Fld) (i : Nat) (b : Bool) (hs : P s) :
    P (State.setArr s f i b) := open_setBit _ hP _ _ _ _ _ hs

theorem open_flag (P : State → Prop) (hP : Open P) (s : State) (f : Fld) (n v : Nat) (hs : P s) : P (State.flag s f n v) := by
  unfold State.flag State.ifDo
  split
  · exact hP.put _ _ _ _ (hP.put _ _ _ _ hs)
  · exact hP.put _ _ _ _ hs

theorem open_portFlag (P : State → Prop) (hP : Open P) (s : State) (f : Fld) (x : Nat) (hs : P s) : P (State.portFlag s f x) :=
  closed_wake P hP.closed _ _ (open_flag P hP _ _ _ _ hs)

theorem closed_phaseReadmit (P : State → Prop) (hP : Open P) (s : State) (k : Nat) (hs : P s) : P (State.phaseReadmit s k) := by
  unfold State.phaseReadmit
  repeat' first
      | with_reducible assumption | with_reducible apply hP.put | with_reducible apply closed_phaseJoin _ hP.closed | with_reducible apply closed_ite

theorem closed_admitUnit (P : State → Prop) (hP : Open P) (s : State) (u : Nat) (hs : P s) : P (State.admitUnit s u) := by
  unfold State.admitUnit
  repeat' first | with_reducible assumption | with_reducible apply hP.put | with_reducible apply closed_phaseReadmit _ hP | split

theorem closed_chgFault (P : State → Prop) (hP : Open P) (s : State) (why : Nat) (hs : P s) : P (State.chgFault s why) := by
  unfold State.chgFault
  repeat' first | with_reducible assumption | with_reducible apply closed_setPhase _ hP.closed

theorem closed_chgTime (P : State → Prop) (hP : Open P) (s : State) (d : Nat) (hs : P s) : P (State.chgTime s d) := by
  unfold State.chgTime
  repeat' first
      | with_reducible assumption | with_reducible refine fun _ => ?_ | with_reducible apply hP.put | with_reducible apply closed_chgFault _ hP
      | with_reducible apply closed_ifDo _ hP.closed | split

theorem closed_tmCommit (P : State → Prop) (hP : Open P) (s : State) (n : Nat) (hs : P s) : P (State.tmCommit s n) := by
  unfold State.tmCommit
  repeat' first | with_reducible assumption | with_reducible apply hP.put

theorem closed_putWide (P : State → Prop) (hP : Open P) (s : State) (lo hi : Fld) (n v : Nat) (hs : P s) : P (State.putWide s lo hi n v) := by
  unfold State.putWide
  repeat' first | with_reducible assumption | with_reducible apply hP.put

theorem closed_tmPin (P : State → Prop) (hP : Open P) (s : State) (n act : Nat) (hs : P s) : P (State.tmPin s n act) := by
  unfold State.tmPin
  repeat' first | with_reducible assumption | with_reducible apply hP.put | split

theorem closed_tmStop (P : State → Prop) (hP : Open P) (s : State) (n : Nat) (hs : P s) : P (State.tmStop s n) := by
  unfold State.tmStop
  repeat' first
      | with_reducible assumption | with_reducible refine fun _ => ?_ | with_reducible apply hP.put | with_reducible apply closed_tmCommit _ hP
      | with_reducible apply closed_ifDo _ hP.closed

theorem closed_tmEvent (P : State → Prop) (hP : Open P) (s : State) (n : Nat) (bit act stop : Fld) (hs : P s) : P (State.tmEvent s n bit act stop) := by
  unfold State.tmEvent
  repeat' first
      | with_reducible assumption | with_reducible refine fun _ => ?_ | with_reducible apply closed_wake _ hP.closed | with_reducible apply open_flag _ hP
      | with_reducible apply closed_tmStop _ hP | with_reducible apply closed_tmPin _ hP | with_reducible apply closed_ifDo _ hP.closed

theorem closed_tmMatch (P : State → Prop) (hP : Open P) (s : State) (n : Nat) (hs : P s) : P (State.tmMatch s n) := by
  unfold State.tmMatch
  repeat' first | with_reducible assumption | with_reducible apply closed_tmEvent _ hP

theorem closed_tmOverflow (P : State → Prop) (hP : Open P) (s : State) (n : Nat) (hs : P s) : P (State.tmOverflow s n) := by
  unfold State.tmOverflow
  repeat' first | with_reducible assumption | with_reducible apply closed_tmEvent _ hP

theorem closed_tmArrive (P : State → Prop) (hP : Open P) (s : State) (n c : Nat) (wrap : Bool) (hs : P s) : P (State.tmArrive s n c wrap) := by
  unfold State.tmArrive
  repeat' first
      | with_reducible assumption | with_reducible refine fun _ => ?_ | with_reducible apply closed_tmMatch _ hP
      | with_reducible apply closed_ifDo _ hP.closed | with_reducible apply closed_putWide _ hP | with_reducible apply closed_tmOverflow _ hP

theorem closed_tmJump (P : State → Prop) (hP : Open P) (s : State) (n d fuel : Nat) (hs : P s) : P (State.tmJump s n d fuel) := by
  induction fuel generalizing s d with
  | zero => exact hs
  | succ k ih =>
    unfold State.tmJump
    split
    · exact hs
    · dsimp only
      split <;> split <;> first | exact closed_putWide P hP _ _ _ _ _ hs | exact ih _ _ (closed_tmArrive P hP _ _ _ _ hs)

theorem closed_tmPass (P : State → Prop) (hP : Open P) (s : State) (n d : Nat) (hs : P s) : P (State.tmPass s n d) := by
  unfold State.tmPass
  repeat' first
      | with_reducible assumption | with_reducible refine fun _ => ?_ | with_reducible apply closed_tmJump _ hP | with_reducible apply closed_tmCommit _ hP
      | with_reducible apply closed_ifDo _ hP.closed

theorem closed_wdCount (P : State → Prop) (hP : Open P) (s : State) (st d : Nat) (hs : P s) : P (State.wdCount s st d) := by
  unfold State.wdCount
  repeat' first
      | with_reducible assumption | with_reducible refine fun _ => ?_ | with_reducible apply hP.put | with_reducible apply closed_wake _ hP.closed
      | with_reducible apply open_flag _ hP | with_reducible apply closed_ifDo _ hP.closed

theorem closed_bootCut (P : State → Prop) (hP : Open P) (s : State) (hs : P s) : P (State.bootCut s) := by
  unfold State.bootCut
  repeat' first
      | with_reducible assumption | with_reducible refine fun _ => ?_ | with_reducible apply hP.put | with_reducible apply closed_stageCritical _ hP.closed
      | with_reducible apply closed_ifDo _ hP.closed

theorem closed_tpertOff (P : State → Prop) (hP : Open P) (s : State) (hs : P s) : P (State.tpertOff s) := by
  unfold State.tpertOff
  repeat' first
      | with_reducible assumption | with_reducible refine fun _ => ?_ | with_reducible apply hP.put | with_reducible apply closed_forEach _ hP.closed
      | with_reducible apply closed_foldl

theorem closed_unhalt (P : State → Prop) (hP : Open P) (s : State) (hs : P s) : P (State.unhalt s) := by
  unfold State.unhalt
  repeat' first
      | with_reducible assumption | with_reducible refine fun _ => ?_ | with_reducible apply hP.put | with_reducible apply closed_forEach _ hP.closed

theorem closed_endSession (P : State → Prop) (hP : Open P) (s : State) (hs : P s) : P (State.endSession s) := by
  unfold State.endSession
  repeat' first
      | with_reducible assumption | with_reducible apply hP.put | with_reducible apply closed_unhalt _ hP | with_reducible apply closed_tpertOff _ hP

theorem closed_clearCauses (P : State → Prop) (hP : Open P) (s : State) (hs : P s) : P (State.clearCauses s) := by
  unfold State.clearCauses
  repeat' first | with_reducible assumption | with_reducible refine fun _ => ?_ | with_reducible apply hP.put | with_reducible apply closed_foldl

theorem closed_resetBegins (P : State → Prop) (hP : Open P) (s : State) (hs : P s) : P (State.resetBegins s) := by
  unfold State.resetBegins
  repeat' first | with_reducible assumption | with_reducible apply hP.put | with_reducible apply closed_clearCauses _ hP

theorem closed_commit (P : State → Prop) (hP : Open P) (s : State) (hs : P s) : P (State.commit s) := by
  unfold State.commit
  repeat' first | with_reducible assumption | with_reducible refine fun _ => ?_ | with_reducible apply hP.put | with_reducible apply hP.top

theorem closed_drawFree (P : State → Prop) (hP : Open P) (s : State) (w : Nat) (hs : P s) : P (State.drawFree s w).2 := by
  unfold State.drawFree
  repeat' first | with_reducible assumption | with_reducible refine fun _ => ?_ | with_reducible apply hP.top

theorem closed_freeBytes (P : State → Prop) (hP : Open P) (s : State) (n : Nat) (hs : P s) : P (State.freeBytes s n).2 := by
  induction n generalizing s with
  | zero => exact hs
  | succ k ih => exact ih _ (closed_drawFree P hP _ _ hs)

theorem closed_writeUnit (P : State → Prop) (hP : Open P) (s : State) (a : Nat) (l : List (BitVec 8)) (ok : Bool) (hs : P s) :
    P (State.writeUnit s a l ok) := by
  unfold State.writeUnit
  split
  · exact hP.top _ _ _ _ _ _ _ _ _ _ _ _ _ _ _ _ _ id id (wf_storeBytes _ _ _) hs
  · exact closed_raise P hP.closed _ _ (hP.put _ _ _ _ (hP.top _ _ _ _ _ _ _ _ _ _ _ _ _ _ _ _ _ id id (wf_storeBytes _ _ _) (closed_freeBytes P hP _ _ hs)))

theorem closed_daybookUnit (P : State → Prop) (hP : Open P) (s : State) (ok : Bool) (hs : P s) : P (State.daybookUnit s ok).2 := by
  unfold State.daybookUnit
  split
  · exact (hP.put s Hid.NVM_JOB 0 0 hs :)
  · dsimp only
    have h := fun a l ok => hP.put _ Hid.NVM_JOB 0 0 (closed_writeUnit P hP s a l ok hs)
    split
    · exact closed_nvmNext P hP.closed _ (hP.put _ _ _ _ (h _ _ _))
    · exact closed_nvmNext P hP.closed _ (closed_commit P hP _ (h _ _ _))

theorem closed_journalDone (P : State → Prop) (hP : Open P) (s : State) (ok : Bool) (hs : P s) : P (State.journalDone s ok) := by
  unfold State.journalDone
  repeat' first
      | with_reducible assumption | with_reducible refine fun _ => ?_ | exact trivial | with_reducible apply hP.put
      | with_reducible apply closed_nvmNext _ hP.closed | with_reducible apply closed_writeUnit _ hP | split | with_reducible apply hP.top | rfl

theorem closed_queueUnit (P : State → Prop) (hP : Open P) (s : State) (ok : Bool) (hs : P s) : P (State.queueUnit s ok) := by
  have h : P (({ s with nvmq := s.queueSplit.2 }.put Hid.NVM_JOB 0 0).put Hid.NVM_TURN 0 0) :=
    hP.put _ _ _ _ (hP.put _ _ _ _ (hP.top _ _ _ _ _ _ _ _ _ _ _ _ _ _ _ _ _ id id id hs))
  unfold State.queueUnit
  lift_lets
  intro p t
  change P t at h
  clear_value t
  dsimp only
  split
  · exact h
  · exact closed_writeUnit P hP _ _ _ _ (hP.top _ _ _ _ _ _ _ _ _ _ _ _ _ _ _ _ _ id id (wf_foldl _ _ _ (fun _ _ h => wf_storeWord _ _ _ h)) h)

theorem closed_resetUnits (P : State → Prop) (hP : Open P) (s : State) (hs : P s) : P (State.resetUnits s) := by
  unfold State.resetUnits
  repeat' first
      | with_reducible assumption | with_reducible refine fun _ => ?_ | exact trivial | with_reducible apply hP.put
      | with_reducible apply closed_daybookUnit _ hP | with_reducible apply closed_queueUnit _ hP | with_reducible apply closed_journalDone _ hP
      | with_reducible apply closed_ite | split | with_reducible apply hP.top | rfl | with_reducible apply wf_copyCells

theorem closed_spendNonce (P : State → Prop) (hP : Open P) (s : State) (hs : P s) : P (State.spendNonce s) := by
  unfold State.spendNonce
  repeat' first
      | with_reducible assumption | with_reducible refine fun _ => ?_ | with_reducible apply hP.put | with_reducible apply closed_forEach _ hP.closed

theorem closed_archReset (P : State → Prop) (hP : Open P) (s : State) (st : Nat) (hs : P s) : P (State.archReset s st) := by
  unfold State.archReset
  repeat' first
      | with_reducible assumption | with_reducible refine fun _ => ?_ | with_reducible apply hP.put | with_reducible apply closed_forEach _ hP.closed

theorem closed_rstFld (P : State → Prop) (hP : Open P) (s : State) (f : Fld) (hs : P s) : P (State.rstFld s f) := by
  unfold State.rstFld
  repeat' first
      | with_reducible assumption | with_reducible refine fun _ => ?_ | with_reducible apply hP.put | with_reducible apply closed_forEach _ hP.closed

theorem closed_setSl (P : State → Prop) (hP : Open P) (s : State) (st v : Nat) (hs : P s) : P (State.setSl s st v) := by
  unfold State.setSl
  repeat' first | with_reducible assumption | with_reducible apply hP.put

theorem closed_stallsReset (P : State → Prop) (hP : Open P) (s : State) (hs : P s) : P (State.stallsReset s) := by
  unfold State.stallsReset
  repeat' first
      | with_reducible assumption | with_reducible refine fun _ => ?_ | with_reducible apply hP.put | with_reducible apply closed_forEach _ hP.closed
      | with_reducible apply closed_archReset _ hP | with_reducible apply closed_rstFld _ hP | with_reducible apply closed_setSl _ hP

theorem closed_warmReset (P : State → Prop) (hP : Open P) (s : State) (cause : Fld) (hs : P s) : P (State.warmReset s cause) := by
  unfold State.warmReset
  repeat' first
      | with_reducible assumption | with_reducible refine fun _ => ?_ | exact trivial | with_reducible apply hP.put
      | with_reducible apply closed_resetBegins _ hP | with_reducible apply closed_bootCut _ hP | with_reducible apply closed_shutdown _ hP.closed
      | with_reducible apply closed_stallsReset _ hP | with_reducible apply closed_resetUnits _ hP | with_reducible apply closed_ifDo _ hP.closed
      | with_reducible apply closed_criersRest _ hP.closed | with_reducible apply closed_settle _ hP.closed | with_reducible apply open_mark _ hP
      | with_reducible apply closed_endSession _ hP | with_reducible apply closed_spendNonce _ hP | with_reducible apply hP.drop
      | with_reducible apply closed_ite | split | with_reducible apply hP.top | rfl | with_reducible apply wf_storeBytes
      | with_reducible apply wf_copyWords | with_reducible apply wf_measWords | with_reducible apply wf_loadWords | with_reducible apply wf_copyCells
      | with_reducible apply Cells.wf_filter

theorem closed_wdExpire (P : State → Prop) (hP : Open P) (s : State) (l : List Nat) (hs : P s) : P (State.wdExpire s l) := by
  unfold State.wdExpire
  repeat' first
      | with_reducible assumption | with_reducible refine fun _ => ?_ | with_reducible apply hP.put | with_reducible apply closed_forEach _ hP.closed
      | with_reducible apply closed_raise _ hP.closed | with_reducible apply closed_warmReset _ hP | with_reducible apply closed_ifDo _ hP.closed

theorem closed_passTnow (P : State → Prop) (hP : Open P) (s : State) (d : Nat) (hs : P s) : P (State.passTnow s d) := by
  unfold State.passTnow
  repeat' first
      | with_reducible assumption | with_reducible refine fun _ => ?_ | with_reducible apply hP.put | with_reducible apply closed_wdCount _ hP
      | with_reducible apply closed_chgTime _ hP | with_reducible apply closed_forEach _ hP.closed | with_reducible apply closed_wdExpire _ hP
      | with_reducible apply closed_tmPass _ hP

theorem closed_slowTick (P : State → Prop) (hP : Open P) (s : State) (hs : P s) : P (State.slowTick s) := by
  unfold State.slowTick
  repeat' first | with_reducible assumption | with_reducible apply hP.put | with_reducible apply closed_ite

theorem closed_ticksPass (P : State → Prop) (hP : Open P) (s : State) (k : Nat) (hs : P s) : P (State.ticksPass s k) := by
  unfold State.ticksPass
  repeat' first | with_reducible assumption | with_reducible apply hP.put | with_reducible apply closed_slowTick _ hP | split

theorem closed_slowPass (P : State → Prop) (hP : Open P) (s : State) (k : Nat) (hs : P s) : P (State.slowPass s k) := by
  unfold State.slowPass
  repeat' first
      | with_reducible assumption | with_reducible refine fun _ => ?_ | with_reducible apply hP.put | with_reducible apply closed_forEach _ hP.closed
      | with_reducible apply closed_ticksPass _ hP | with_reducible apply closed_tmPass _ hP

theorem closed_passTime (P : State → Prop) (hP : Open P) (s : State) (d : Nat) (hs : P s) : P (State.passTime s d) := by
  unfold State.passTime
  repeat' first
      | with_reducible assumption | with_reducible apply hP.put | with_reducible apply closed_slowPass _ hP | with_reducible apply closed_passTnow _ hP

theorem closed_advanceTo (P : State → Prop) (hP : Open P) (s : State) (t : Nat) (hs : P s) : P (State.advanceTo s t) := by
  unfold State.advanceTo
  repeat' first | with_reducible assumption | with_reducible apply closed_passTime _ hP | split

theorem closed_afterContract (P : State → Prop) (hP : Open P) (s : State) (x : Nat) (hs : P s) : P (State.afterContract s x) := by
  unfold State.afterContract
  repeat' first
      | with_reducible assumption | with_reducible apply hP.put | with_reducible apply closed_eprEnter _ hP.closed
      | with_reducible apply closed_tx _ hP.closed | split

theorem closed_debugHold (P : State → Prop) (hP : Open P) (s : State) (hs : P s) : P (State.debugHold s) := by
  unfold State.debugHold
  repeat' first
      | with_reducible assumption | with_reducible apply hP.put | with_reducible apply closed_unhalt _ hP | with_reducible apply closed_tpertOff _ hP

theorem closed_portsHold (P : State → Prop) (hP : Open P) (s : State) (hs : P s) : P (State.portsHold s) := by
  unfold State.portsHold
  repeat' first
      | with_reducible assumption | with_reducible refine fun _ => ?_ | with_reducible apply hP.put | with_reducible apply closed_forEach _ hP.closed
      | with_reducible apply closed_holdSrc _ hP.closed | split

theorem closed_enterHold (P : State → Prop) (hP : Open P) (s : State) (lost : Nat) (hs : P s) : P (State.enterHold s lost) := by
  unfold State.enterHold
  repeat' first
      | with_reducible assumption | with_reducible apply hP.put | with_reducible apply closed_portsHold _ hP
      | with_reducible apply closed_record _ hP.closed | with_reducible apply closed_irq _ hP.closed | with_reducible apply closed_debugHold _ hP

theorem closed_noBatteryLoss (P : State → Prop) (hP : Open P) (s : State) (hs : P s) : P (State.noBatteryLoss s) := by
  unfold State.noBatteryLoss
  repeat' first
      | with_reducible assumption | with_reducible refine fun _ => ?_ | with_reducible apply hP.put | with_reducible apply closed_toStandby _ hP.closed
      | with_reducible apply closed_ifDo _ hP.closed | with_reducible apply closed_release _ hP.closed

theorem closed_portsActive (P : State → Prop) (hP : Open P) (s : State) (hs : P s) : P (State.portsActive s) := by
  unfold State.portsActive
  repeat' first
      | with_reducible assumption | with_reducible refine fun _ => ?_ | with_reducible apply hP.put | with_reducible apply closed_forEach _ hP.closed
      | with_reducible apply closed_sendCaps _ hP.closed | with_reducible apply closed_ifDo _ hP.closed

theorem closed_backToActive (P : State → Prop) (hP : Open P) (s : State) (hs : P s) : P (State.backToActive s) := by
  unfold State.backToActive
  repeat' first
      | with_reducible assumption | with_reducible apply hP.put | with_reducible apply closed_portsActive _ hP
      | with_reducible apply closed_record _ hP.closed | with_reducible apply closed_irq _ hP.closed

theorem closed_qualify (P : State → Prop) (hP : Open P) (s : State) (i : Nat) (hs : P s) : P (State.qualify s i) := by
  unfold State.qualify
  repeat' first
      | with_reducible assumption | with_reducible refine fun _ => ?_ | with_reducible apply hP.put | with_reducible apply closed_ptStart _ hP.closed
      | with_reducible apply closed_backToActive _ hP | with_reducible apply closed_bfetRefresh _ hP.closed | with_reducible apply closed_ifDo _ hP.closed
      | with_reducible apply closed_irq _ hP.closed

theorem closed_searchStart (P : State → Prop) (hP : Open P) (s : State) (hs : P s) : P (State.searchStart s) := by
  unfold State.searchStart
  repeat' first | with_reducible assumption | with_reducible apply hP.put

theorem closed_setInSt (P : State → Prop) (hP : Open P) (s : State) (i v : Nat) (hs : P s) : P (State.setInSt s i v) := by
  unfold State.setInSt
  repeat' first | with_reducible assumption | with_reducible apply hP.put | split

theorem closed_selectInput (P : State → Prop) (hP : Open P) (s : State) (i : Nat) (hs : P s) : P (State.selectInput s i) := by
  unfold State.selectInput
  repeat' first
      | with_reducible assumption | with_reducible apply hP.put | with_reducible apply closed_searchStart _ hP | with_reducible apply closed_setInSt _ hP

theorem closed_afterLoss (P : State → Prop) (hP : Open P) (s : State) (i : Nat) (was : Bool) (hs : P s) : P (State.afterLoss s i was) := by
  unfold State.afterLoss
  repeat' first
      | with_reducible assumption | with_reducible refine fun _ => ?_ | with_reducible apply hP.put | with_reducible apply closed_enterHold _ hP
      | with_reducible apply closed_qualify _ hP | with_reducible apply closed_noBatteryLoss _ hP | with_reducible apply closed_ifDo _ hP.closed
      | with_reducible apply closed_irq _ hP.closed | with_reducible apply closed_selectInput _ hP | with_reducible apply closed_ite | split

theorem closed_alertOff (P : State → Prop) (hP : Open P) (s : State) (hs : P s) : P (State.alertOff s) := by
  unfold State.alertOff
  repeat' first | with_reducible assumption | with_reducible refine fun _ => ?_ | with_reducible apply hP.put | with_reducible apply closed_ifDo _ hP.closed

theorem closed_almFire (P : State → Prop) (hP : Open P) (s : State) (hs : P s) : P (State.almFire s) := by
  unfold State.almFire
  repeat' first
      | with_reducible assumption | with_reducible refine fun _ => ?_ | with_reducible apply hP.put | with_reducible apply closed_wake _ hP.closed
      | with_reducible apply closed_ifDo _ hP.closed

theorem closed_retireAt (P : State → Prop) (hP : Open P) (s : State) (st pc : Nat) (hs : P s) : P (State.retireAt s st pc) := by
  unfold State.retireAt
  repeat' first | with_reducible assumption | with_reducible apply hP.put

theorem closed_retire (P : State → Prop) (hP : Open P) (s : State) (st : Nat) (hs : P s) : P (State.retire s st) := by
  unfold State.retire
  repeat' first | with_reducible assumption | with_reducible apply closed_retireAt _ hP

theorem closed_progFault (P : State → Prop) (hP : Open P) (s : State) (st code : Nat) (hs : P s) : P (State.progFault s st code) := by
  unfold State.progFault
  repeat' first
      | with_reducible assumption | with_reducible apply hP.put | with_reducible apply closed_raise _ hP.closed | with_reducible apply closed_setSl _ hP

theorem closed_unlessFault (P : State → Prop) (hP : Open P) (s : State) (st : Nat) (ill : Bool) (l : List (Bool × Nat)) (f : State → State) (hs : P s) (hf : ∀ x0, P x0 → P (f x0)) :
    P (State.unlessFault s st ill l f) := by
  unfold State.unlessFault
  repeat' first | with_reducible assumption | with_reducible apply hf | with_reducible apply closed_progFault _ hP | split

theorem closed_plain (P : State → Prop) (hP : Open P) (s : State) (st : Nat) (f : State → State) (hs : P s) (hf : ∀ x0, P x0 → P (f x0)) :
    P (State.plain s st f) := by
  unfold State.plain
  repeat' first
      | with_reducible assumption | with_reducible refine fun _ => ?_ | with_reducible apply hf | with_reducible apply closed_retire _ hP
      | with_reducible apply closed_unlessFault _ hP

theorem closed_setFlags (P : State → Prop) (hP : Open P) (s : State) (st : Nat) (x : Alu) (hs : P s) : P (State.setFlags s st x) := by
  unfold State.setFlags
  repeat' first | with_reducible assumption | with_reducible apply open_mark _ hP | split

theorem closed_setReg (P : State → Prop) (hP : Open P) (s : State) (st : Nat) (r : RegN) (v : Word) (hs : P s) : P (State.setReg s st r v) := by
  unfold State.setReg
  repeat' first | with_reducible assumption | with_reducible apply hP.put | split

theorem closed_alu (P : State → Prop) (hP : Open P) (s : State) (st : Nat) (rd : RegN) (x : Alu) (hs : P s) : P (State.alu s st rd x) := by
  unfold State.alu
  repeat' first
      | with_reducible assumption | with_reducible refine fun _ => ?_ | with_reducible apply closed_setFlags _ hP | with_reducible apply closed_plain _ hP
      | with_reducible apply closed_setReg _ hP

theorem closed_aluFlags (P : State → Prop) (hP : Open P) (s : State) (st : Nat) (x : Alu) (hs : P s) : P (State.aluFlags s st x) := by
  unfold State.aluFlags
  repeat' first
      | with_reducible assumption | with_reducible refine fun _ => ?_ | with_reducible apply closed_setFlags _ hP | with_reducible apply closed_plain _ hP

theorem closed_aluImm (P : State → Prop) (hP : Open P) (s : State) (st : Nat) (rd : RegN) (imm : BitVec 14) (f : Nat → Alu) (hs : P s) :
    P (State.aluImm s st rd imm f) := by
  unfold State.aluImm
  repeat' first
      | with_reducible assumption | with_reducible refine fun _ => ?_ | with_reducible apply closed_retire _ hP | with_reducible apply closed_setFlags _ hP
      | with_reducible apply closed_unlessFault _ hP | with_reducible apply closed_setReg _ hP

theorem closed_newContract (P : State → Prop) (hP : Open P) (s : State) (x : Nat) (hs : P s) : P (State.newContract s x) := by
  unfold State.newContract
  repeat' first | with_reducible assumption | with_reducible apply hP.put | with_reducible apply open_portFlag _ hP

theorem closed_answerRequest (P : State → Prop) (hP : Open P) (s : State) (x rdo : Nat) (hs : P s) : P (State.answerRequest s x rdo) := by
  unfold State.answerRequest
  repeat' first
      | with_reducible assumption
      | (lift_lets; intro x; (first | have hx : P x := by (repeat' first | with_reducible assumption | exact trivial | with_reducible apply hP.put | with_reducible apply closed_ite | split) | have hx : True := trivial); clear_value x)
      | with_reducible refine fun _ => ?_ | exact trivial | with_reducible apply hP.put | with_reducible apply closed_tx _ hP.closed
      | with_reducible apply closed_newContract _ hP | with_reducible apply closed_ifDo _ hP.closed | split

theorem closed_attached (P : State → Prop) (hP : Open P) (s : State) (x tc prole lvl : Nat) (cc2 : Bool) (hs : P s) :
    P (State.attached s x tc prole lvl cc2) := by
  unfold State.attached
  repeat' first | with_reducible assumption | with_reducible apply hP.put | with_reducible apply open_portFlag _ hP | with_reducible apply open_mark _ hP

theorem closed_sourceStart (P : State → Prop) (hP : Open P) (s : State) (x : Nat) (hs : P s) : P (State.sourceStart s x) := by
  unfold State.sourceStart
  repeat' first | with_reducible assumption | with_reducible apply hP.put

theorem closed_attach (P : State → Prop) (hP : Open P) (s : State) (x : Nat) (a : Attach) (hs : P s) : P (State.attach s x a) := by
  unfold State.attach
  repeat' first
      | with_reducible assumption | with_reducible refine fun _ => ?_ | with_reducible apply hP.put | with_reducible apply closed_sourceStart _ hP
      | with_reducible apply closed_ifDo _ hP.closed | with_reducible apply closed_attached _ hP | with_reducible apply open_mark _ hP | split

theorem closed_bankBad (P : State → Prop) (hP : Open P) (s : State) (st : Nat) (hs : P s) : P (State.bankBad s st) := by
  unfold State.bankBad
  repeat' first | with_reducible assumption | with_reducible apply hP.put | with_reducible apply closed_raise _ hP.closed

theorem closed_bfetClose (P : State → Prop) (hP : Open P) (s : State) (hs : P s) : P (State.bfetClose s) := by
  unfold State.bfetClose
  repeat' first | with_reducible assumption | with_reducible refine fun _ => ?_ | with_reducible apply hP.put | with_reducible apply closed_ifDo _ hP.closed

theorem closed_batGo (P : State → Prop) (hP : Open P) (s : State) (hs : P s) : P (State.batGo s) := by
  unfold State.batGo
  repeat' first
      | with_reducible assumption | with_reducible apply hP.put | with_reducible apply open_flag _ hP | with_reducible apply closed_bfetClose _ hP | split

theorem closed_gaugeFreeze (P : State → Prop) (hP : Open P) (s : State) (hs : P s) : P (State.gaugeFreeze s) := by
  unfold State.gaugeFreeze
  repeat' first | with_reducible assumption | with_reducible apply hP.put | with_reducible apply closed_stepCut _ hP.closed

theorem closed_batGone (P : State → Prop) (hP : Open P) (s : State) (hs : P s) : P (State.batGone s) := by
  unfold State.batGone
  repeat' first | with_reducible assumption | with_reducible apply hP.put | with_reducible apply closed_gaugeFreeze _ hP

theorem closed_latchClear (P : State → Prop) (hP : Open P) (s : State) (hs : P s) : P (State.latchClear s) := by
  unfold State.latchClear
  repeat' first | with_reducible assumption | with_reducible apply hP.put | split

theorem closed_fieldWrite (P : State → Prop) (hP : Open P) (s : State) (f : Fld) (n w : Nat) (hs : P s) : P (State.fieldWrite s f n w) := by
  unfold State.fieldWrite
  repeat' first
      | with_reducible assumption | with_reducible refine fun _ => ?_ | with_reducible apply hP.put | with_reducible apply closed_ifDo _ hP.closed | split

theorem closed_regStore (P : State → Prop) (hP : Open P) (s : State) (a w : Nat) (hs : P s) : P (State.regStore s a w) := by
  unfold State.regStore
  repeat' first
      | with_reducible assumption | with_reducible refine fun _ => ?_ | with_reducible apply closed_fieldWrite _ hP | with_reducible apply closed_foldl

theorem closed_bkApply (P : State → Prop) (hP : Open P) (s : State) (a w : Nat) (hs : P s) : P (State.bkApply s a w) := by
  unfold State.bkApply
  repeat' first
      | with_reducible assumption | with_reducible refine fun _ => ?_ | with_reducible apply hP.put | with_reducible apply closed_latchClear _ hP
      | with_reducible apply closed_regStore _ hP | with_reducible apply closed_ifDo _ hP.closed

theorem closed_bkReach (P : State → Prop) (hP : Open P) (s : State) (hs : P s) : P (State.bkReach s) := by
  unfold State.bkReach
  repeat' first
      | with_reducible assumption | with_reducible refine fun _ => ?_ | with_reducible apply closed_bkApply _ hP | split | with_reducible apply hP.top
      | rfl

theorem closed_bkDrain (P : State → Prop) (hP : Open P) (s : State) (hs : P s) : P (State.bkDrain s) := by
  unfold State.bkDrain
  repeat' first | with_reducible assumption | with_reducible refine fun _ => ?_ | with_reducible apply closed_bkReach _ hP | with_reducible apply closed_foldl

theorem closed_bkSeen (P : State → Prop) (hP : Open P) (s : State) (hs : P s) : P (State.bkSeen s) := by
  unfold State.bkSeen
  repeat' first | with_reducible assumption | with_reducible refine fun _ => ?_ | with_reducible apply closed_bkApply _ hP | with_reducible apply closed_foldl

theorem closed_bkWrite (P : State → Prop) (hP : Open P) (s : State) (a v : Nat) (hs : P s) : P (State.bkWrite s a v) := by
  unfold State.bkWrite
  repeat' first | with_reducible assumption | with_reducible refine fun _ => ?_ | split | with_reducible apply hP.top

theorem closed_crierAct (P : State → Prop) (hP : Open P) (s : State) (c : Nat) (hi : Bool) (hs : P s) : P (State.crierAct s c hi) := by
  unfold State.crierAct
  repeat' first
      | with_reducible assumption | with_reducible refine fun _ => ?_ | with_reducible apply closed_forEach _ hP.closed
      | with_reducible apply closed_ifDo _ hP.closed | with_reducible apply closed_record _ hP.closed | with_reducible apply closed_faultAct _ hP.closed

theorem closed_crierTake (P : State → Prop) (hP : Open P) (s : State) (c : Nat) (hi v : Bool) (hs : P s) : P (State.crierTake s c hi v) := by
  unfold State.crierTake
  repeat' first
      | with_reducible assumption | with_reducible refine fun _ => ?_ | with_reducible apply open_flag _ hP
      | with_reducible apply closed_demand _ hP.closed | with_reducible apply closed_crierAct _ hP | with_reducible apply closed_raise _ hP.closed
      | with_reducible apply closed_ifDo _ hP.closed | with_reducible apply closed_irq _ hP.closed | with_reducible apply open_mark _ hP | split

theorem closed_blankSide (P : State → Prop) (hP : Open P) (s : State) (c : Nat) (hi : Bool) (hs : P s) : P (State.blankSide s c hi) := by
  unfold State.blankSide
  repeat' first
      | with_reducible assumption | with_reducible refine fun _ => ?_ | with_reducible apply closed_ifDo _ hP.closed
      | with_reducible apply closed_crierTake _ hP

theorem closed_blankEnds (P : State → Prop) (hP : Open P) (s : State) (c : Nat) (hs : P s) : P (State.blankEnds s c) := by
  unfold State.blankEnds
  repeat' first
      | with_reducible assumption | with_reducible refine fun _ => ?_ | with_reducible apply hP.put | with_reducible apply closed_ifDo _ hP.closed
      | with_reducible apply closed_blankSide _ hP

theorem closed_blanksEnd (P : State → Prop) (hP : Open P) (s : State) (hs : P s) : P (State.blanksEnd s) := by
  unfold State.blanksEnd
  repeat' first | with_reducible assumption | with_reducible apply closed_blankEnds _ hP | with_reducible apply closed_forEach _ hP.closed

theorem closed_fencePair (P : State → Prop) (hP : Open P) (s : State) (p : Nat) (hs : P s) : P (State.fencePair s p) := by
  unfold State.fencePair
  repeat' first | with_reducible assumption | with_reducible apply open_setBit _ hP

theorem closed_secondFailure (P : State → Prop) (hP : Open P) (s : State) (st : Nat) (hs : P s) : P (State.secondFailure s st) := by
  unfold State.secondFailure
  repeat' first
      | with_reducible assumption | with_reducible refine fun _ => ?_ | with_reducible apply hP.put | with_reducible apply closed_fencePair _ hP
      | with_reducible apply closed_raise _ hP.closed | with_reducible apply open_setBit _ hP | with_reducible apply closed_ifDo _ hP.closed
      | with_reducible apply closed_setSl _ hP

theorem closed_spareFor (P : State → Prop) (hP : Open P) (s : State) (st : Nat) (hs : P s) : P (State.spareFor s st) := by
  unfold State.spareFor
  repeat' first | with_reducible assumption | with_reducible apply hP.put

theorem closed_bootMismatch (P : State → Prop) (hP : Open P) (s : State) (st : Nat) (hs : P s) : P (State.bootMismatch s st) := by
  unfold State.bootMismatch
  repeat' first
      | with_reducible assumption | with_reducible apply closed_secondFailure _ hP | with_reducible apply closed_fencePair _ hP
      | with_reducible apply closed_warmReset _ hP | with_reducible apply closed_spareFor _ hP | split

theorem closed_bootStart (P : State → Prop) (hP : Open P) (s : State) (hs : P s) : P (State.bootStart s) := by
  unfold State.bootStart
  repeat' first
      | with_reducible assumption | with_reducible refine fun _ => ?_ | with_reducible apply hP.put | with_reducible apply closed_archReset _ hP
      | with_reducible apply closed_ifDo _ hP.closed | with_reducible apply closed_setSl _ hP

theorem closed_loadSlot (P : State → Prop) (hP : Open P) (s : State) (slot : Nat) (hs : P s) : P (State.loadSlot s slot) := by
  unfold State.loadSlot
  repeat' first
      | with_reducible assumption
      | (lift_lets; intro x; (first | have hx : P x := by (repeat' first | with_reducible assumption | with_reducible refine fun _ => ?_ | exact trivial | with_reducible apply hP.put | with_reducible apply closed_forEach _ hP.closed | with_reducible apply closed_ifDo _ hP.closed | with_reducible apply closed_ite | split | with_reducible apply hP.top | rfl | with_reducible apply wf_storeWord | with_reducible apply wf_copyWords | with_reducible apply wf_measWords | with_reducible apply wf_loadWords | with_reducible apply wf_copyCells) | have hx : True := trivial); clear_value x)
      | with_reducible refine fun _ => ?_ | exact trivial | with_reducible apply hP.put | with_reducible apply closed_ite | split
      | with_reducible apply hP.top | rfl | with_reducible apply wf_storeBytes | with_reducible apply wf_copyWords | with_reducible apply wf_measWords
      | with_reducible apply wf_loadWords | with_reducible apply wf_copyCells

theorem closed_openInput (P : State → Prop) (hP : Open P) (s : State) (i st : Nat) (hs : P s) : P (State.openInput s i st) := by
  unfold State.openInput
  repeat' first | with_reducible assumption | with_reducible apply hP.put | with_reducible apply closed_setInSt _ hP

theorem closed_lostInput (P : State → Prop) (hP : Open P) (s : State) (i st : Nat) (hs : P s) : P (State.lostInput s i st) := by
  unfold State.lostInput
  repeat' first
      | with_reducible assumption | with_reducible apply open_flag _ hP | with_reducible apply closed_afterLoss _ hP
      | with_reducible apply closed_stepCut _ hP.closed | with_reducible apply closed_raise _ hP.closed | with_reducible apply closed_openInput _ hP
      | split

theorem closed_reverse (P : State → Prop) (hP : Open P) (s : State) (i : Nat) (inRange : Bool) (hs : P s) : P (State.reverse s i inRange) := by
  unfold State.reverse
  repeat' first
      | with_reducible assumption | with_reducible refine fun _ => ?_ | with_reducible apply open_flag _ hP | with_reducible apply closed_lostInput _ hP
      | with_reducible apply closed_raise _ hP.closed | with_reducible apply open_portFlag _ hP | with_reducible apply closed_ifDo _ hP.closed
      | with_reducible apply open_mark _ hP | split

theorem closed_bootSlot (P : State → Prop) (hP : Open P) (s : State) (hs : P s) : P (State.bootSlot s) := by
  unfold State.bootSlot
  repeat' first
      | with_reducible assumption | with_reducible refine fun _ => ?_ | with_reducible apply hP.put | with_reducible apply closed_loadSlot _ hP
      | with_reducible apply closed_forEach _ hP.closed | with_reducible apply closed_raise _ hP.closed | with_reducible apply closed_bootStart _ hP
      | with_reducible apply closed_ifDo _ hP.closed | with_reducible apply open_mark _ hP | with_reducible apply closed_ite

theorem closed_branchTo (P : State → Prop) (hP : Open P) (s : State) (st : Nat) (taken : Bool) (t : Int) (l : List (Bool × Nat)) (f : State → State) (hs : P s) (hf : ∀ x0, P x0 → P (f x0)) :
    P (State.branchTo s st taken t l f) := by
  unfold State.branchTo
  repeat' first
      | with_reducible assumption | with_reducible apply hf | with_reducible apply closed_retire _ hP | with_reducible apply closed_progFault _ hP
      | with_reducible apply closed_retireAt _ hP | split

theorem closed_fenceConv (P : State → Prop) (hP : Open P) (s : State) (x origin : Nat) (hs : P s) : P (State.fenceConv s x origin) := by
  unfold State.fenceConv
  repeat' first | with_reducible assumption | with_reducible apply hP.put | with_reducible apply open_setBit _ hP

theorem closed_clearCtr (P : State → Prop) (hP : Open P) (s : State) (n : Nat) (hs : P s) : P (State.clearCtr s n) := by
  unfold State.clearCtr
  repeat' first
      | with_reducible assumption | with_reducible refine fun _ => ?_ | with_reducible apply hP.put | with_reducible apply closed_forEach _ hP.closed

theorem closed_chanTake (P : State → Prop) (hP : Open P) (s : State) (n : Nat) (hs : P s) : P (State.chanTake s n) := by
  unfold State.chanTake
  repeat' first
      | with_reducible assumption | with_reducible refine fun _ => ?_ | with_reducible apply hP.put | with_reducible apply closed_ifDo _ hP.closed
      | with_reducible apply open_mark _ hP | with_reducible apply closed_clearCtr _ hP | with_reducible apply closed_ite

theorem closed_convJoin (P : State → Prop) (hP : Open P) (s : State) (x : Nat) (hs : P s) : P (State.convJoin s x) := by
  unfold State.convJoin
  repeat' first | with_reducible assumption | with_reducible apply hP.put | with_reducible apply open_setBit _ hP

theorem closed_mapConv (P : State → Prop) (hP : Open P) (s : State) (x : Nat) (l : List Nat) (hs : P s) : P (State.mapConv s x l) := by
  unfold State.mapConv
  repeat' first | with_reducible assumption | with_reducible apply hP.put

theorem closed_deal (P : State → Prop) (hP : Open P) (s : State) (hs : P s) : P (State.deal s) := by
  unfold State.deal
  repeat' first
      | with_reducible assumption | with_reducible refine fun _ => ?_ | with_reducible apply hP.put | with_reducible apply closed_mapConv _ hP
      | with_reducible apply closed_forEach _ hP.closed

theorem closed_enterBlind (P : State → Prop) (hP : Open P) (s : State) (hs : P s) : P (State.enterBlind s) := by
  unfold State.enterBlind
  repeat' first
      | with_reducible assumption | with_reducible refine fun _ => ?_ | with_reducible apply hP.put | with_reducible apply closed_forEach _ hP.closed
      | with_reducible apply closed_raise _ hP.closed | split

theorem closed_scanStart (P : State → Prop) (hP : Open P) (s : State) (hs : P s) : P (State.scanStart s) := by
  unfold State.scanStart
  repeat' first
      | with_reducible assumption | with_reducible refine fun _ => ?_ | with_reducible apply hP.put | with_reducible apply closed_enterBlind _ hP
      | with_reducible apply closed_forEach _ hP.closed | with_reducible apply closed_deal _ hP | with_reducible apply closed_chanTake _ hP
      | with_reducible apply closed_ifDo _ hP.closed | with_reducible apply closed_convJoin _ hP | with_reducible apply closed_fenceConv _ hP | split

theorem closed_burstStart (P : State → Prop) (hP : Open P) (s : State) (hs : P s) : P (State.burstStart s) := by
  unfold State.burstStart
  repeat' first
      | with_reducible assumption | with_reducible refine fun _ => ?_ | with_reducible apply hP.put | with_reducible apply closed_scanStart _ hP
      | with_reducible apply closed_forEach _ hP.closed | with_reducible apply closed_demand _ hP.closed | with_reducible apply closed_ifDo _ hP.closed
      | with_reducible apply closed_fenceConv _ hP

theorem closed_claimTake (P : State → Prop) (hP : Open P) (s : State) (t n : Nat) (hs : P s) : P (State.claimTake s t n) := by
  unfold State.claimTake
  repeat' first | with_reducible assumption | with_reducible apply hP.put | with_reducible apply open_setArr _ hP

theorem closed_claim (P : State → Prop) (hP : Open P) (s : State) (w : Writer) (t : Nat) (hs : P s) : P (State.claim s w t).2 := by
  unfold State.claim
  repeat' first | with_reducible assumption | with_reducible apply hP.put | with_reducible apply closed_claimTake _ hP | split

theorem closed_dbkSeen (P : State → Prop) (hP : Open P) (s : State) (a : Nat) (hs : P s) : P (State.dbkSeen s a) := by
  unfold State.dbkSeen
  repeat' first | with_reducible assumption | with_reducible refine fun _ => ?_ | with_reducible apply hP.put | with_reducible apply closed_ifDo _ hP.closed

theorem closed_tapDbg (P : State → Prop) (hP : Open P) (s : State) (hs : P s) : P (State.tapDbg s) := by
  unfold State.tapDbg
  repeat' first | with_reducible assumption | with_reducible apply hP.put

theorem closed_busRead (P : State → Prop) (hP : Open P) (s : State) (w : Writer) (a : Nat) (hs : P s) : P (State.busRead s w a).2 := by
  unfold State.busRead
  repeat' first
      | with_reducible assumption
      | (lift_lets; intro x; (first | have hx : P x := by (repeat' first | with_reducible assumption | with_reducible refine fun _ => ?_ | exact trivial | with_reducible apply hP.put | with_reducible apply closed_tapDbg _ hP | with_reducible apply closed_demand _ hP.closed | with_reducible apply closed_ite | split) | have hx : True := trivial); clear_value x)
      | exact trivial | with_reducible apply hP.put | with_reducible apply closed_claim _ hP | with_reducible apply closed_dbkSeen _ hP
      | with_reducible apply closed_ite | split

theorem closed_reportRefused (P : State → Prop) (hP : Open P) (s : State) (w : Writer) (a : Nat) (hs : P s) : P (State.reportRefused s w a) := by
  unfold State.reportRefused
  repeat' first
      | with_reducible assumption | with_reducible apply hP.put | with_reducible apply open_sat _ hP | with_reducible apply closed_raise _ hP.closed
      | with_reducible apply open_setBit _ hP | split

theorem closed_nvmQueue (P : State → Prop) (hP : Open P) (s : State) (a v : Nat) (hs : P s) : P (State.nvmQueue s a v) := by
  unfold State.nvmQueue
  repeat' first
      | with_reducible assumption | with_reducible refine fun _ => ?_ | with_reducible apply hP.put | with_reducible apply closed_nvmNext _ hP.closed
      | split | with_reducible apply hP.top | rfl

theorem closed_nvmWrite (P : State → Prop) (hP : Open P) (s : State) (a v : Nat) (hs : P s) : P (State.nvmWrite s a v) := by
  unfold State.nvmWrite
  repeat' first | with_reducible assumption | with_reducible apply closed_nvmQueue _ hP | split

theorem closed_chanKeep (P : State → Prop) (hP : Open P) (s : State) (n bit : Nat) (hs : P s) : P (State.chanKeep s n bit) := by
  unfold State.chanKeep
  repeat' first | with_reducible assumption | with_reducible apply hP.put | with_reducible apply open_setBit _ hP | split

theorem closed_crierBad (P : State → Prop) (hP : Open P) (s : State) (c : Nat) (hs : P s) : P (State.crierBad s c) := by
  unfold State.crierBad
  repeat' first
      | with_reducible assumption | with_reducible refine fun _ => ?_ | with_reducible apply hP.put | with_reducible apply closed_crierIdle _ hP.closed
      | with_reducible apply closed_ifDo _ hP.closed

theorem closed_unpack (P : State → Prop) (hP : Open P) (s : State) (l : List Fld) (n w : Nat) (hs : P s) : P (State.unpack s l n w) := by
  unfold State.unpack
  repeat' first | with_reducible assumption | with_reducible refine fun _ => ?_ | with_reducible apply hP.put | with_reducible apply closed_foldl

theorem closed_chanCfg (P : State → Prop) (hP : Open P) (s : State) (n w : Nat) (hs : P s) : P (State.chanCfg s n w) := by
  unfold State.chanCfg
  repeat' first
      | with_reducible assumption | with_reducible refine fun _ => ?_ | with_reducible apply hP.put | with_reducible apply closed_unpack _ hP
      | with_reducible apply closed_crierBad _ hP | with_reducible apply closed_ifDo _ hP.closed | with_reducible apply closed_chanKeep _ hP | split

theorem closed_chanThr (P : State → Prop) (hP : Open P) (s : State) (n : Nat) (uv : Bool) (w : Nat) (hs : P s) : P (State.chanThr s n uv w) := by
  unfold State.chanThr
  repeat' first | with_reducible assumption | with_reducible apply closed_unpack _ hP | with_reducible apply closed_chanKeep _ hP

theorem closed_storeChan (P : State → Prop) (hP : Open P) (s : State) (a v : Nat) (hs : P s) : P (State.storeChan s a v) := by
  unfold State.storeChan
  repeat' first
      | with_reducible assumption | with_reducible apply closed_chanThr _ hP | with_reducible apply closed_regStore _ hP
      | with_reducible apply closed_chanCfg _ hP | split

theorem closed_crierMove (P : State → Prop) (hP : Open P) (s : State) (c : Nat) (hi v : Bool) (hs : P s) : P (State.crierMove s c hi v) := by
  unfold State.crierMove
  repeat' first | with_reducible assumption | with_reducible apply hP.put | with_reducible apply open_mark _ hP

theorem closed_crierSides (P : State → Prop) (hP : Open P) (s : State) (c : Nat) (hs : P s) : P (State.crierSides s c) := by
  unfold State.crierSides
  repeat' first
      | with_reducible assumption | with_reducible refine fun _ => ?_ | with_reducible apply closed_crierMove _ hP
      | with_reducible apply closed_ifDo _ hP.closed

theorem closed_crierWrite (P : State → Prop) (hP : Open P) (s : State) (c : Nat) (thr : Bool) (w : Nat) (hs : P s) : P (State.crierWrite s c thr w) := by
  unfold State.crierWrite
  repeat' first
      | with_reducible assumption | with_reducible refine fun _ => ?_ | with_reducible apply hP.put | with_reducible apply closed_crierIdle _ hP.closed
      | with_reducible apply closed_unpack _ hP | with_reducible apply closed_crierSides _ hP | with_reducible apply closed_ifDo _ hP.closed
      | with_reducible apply closed_ite

theorem closed_storeCrier (P : State → Prop) (hP : Open P) (s : State) (a v : Nat) (hs : P s) : P (State.storeCrier s a v) := by
  unfold State.storeCrier
  repeat' first | with_reducible assumption | with_reducible apply closed_crierWrite _ hP | with_reducible apply closed_regStore _ hP | split

theorem closed_gaugeRestart (P : State → Prop) (hP : Open P) (s : State) (hs : P s) : P (State.gaugeRestart s) := by
  unfold State.gaugeRestart
  repeat' first | with_reducible assumption | with_reducible refine fun _ => ?_ | with_reducible apply hP.put | with_reducible apply hP.top

theorem closed_jrnlLearn (P : State → Prop) (hP : Open P) (s : State) (hs : P s) : P (State.jrnlLearn s) := by
  unfold State.jrnlLearn
  repeat' first
      | with_reducible assumption | with_reducible refine fun _ => ?_ | with_reducible apply closed_jrnlStart _ hP.closed
      | with_reducible apply closed_ifDo _ hP.closed

theorem closed_newPack (P : State → Prop) (hP : Open P) (s : State) (hs : P s) : P (State.newPack s) := by
  unfold State.newPack
  repeat' first
      | with_reducible assumption | with_reducible refine fun _ => ?_ | exact trivial | with_reducible apply hP.put
      | with_reducible apply closed_jrnlLearn _ hP | with_reducible apply closed_gaugeRestart _ hP | split | with_reducible apply hP.top | rfl

theorem closed_storeGauge (P : State → Prop) (hP : Open P) (s : State) (a v : Nat) (hs : P s) : P (State.storeGauge s a v) := by
  unfold State.storeGauge
  repeat' first
      | with_reducible assumption | with_reducible apply closed_regStore _ hP | with_reducible apply closed_ifDo _ hP.closed
      | with_reducible apply closed_newPack _ hP

theorem closed_complete (P : State → Prop) (hP : Open P) (s : State) (t v : Nat) (hs : P s) : P (State.complete s t v) := by
  unfold State.complete
  repeat' first
      | with_reducible assumption | with_reducible apply closed_wake _ hP.closed | with_reducible apply open_setArr _ hP
      | with_reducible apply open_setBit _ hP | with_reducible apply closed_ite

theorem closed_enables (P : State → Prop) (hP : Open P) (s : State) (k v : Nat) (on : Bool) (hs : P s) : P (State.enables s k v on) := by
  unfold State.enables
  repeat' first
      | with_reducible assumption | with_reducible refine fun _ => ?_ | with_reducible apply hP.put | with_reducible apply closed_wake _ hP.closed
      | with_reducible apply closed_forEach _ hP.closed | split

theorem closed_softClear (P : State → Prop) (hP : Open P) (s : State) (j v : Nat) (hs : P s) : P (State.softClear s j v) := by
  unfold State.softClear
  repeat' first | with_reducible assumption | with_reducible apply hP.put

theorem closed_softPend (P : State → Prop) (hP : Open P) (s : State) (j v : Nat) (hs : P s) : P (State.softPend s j v) := by
  unfold State.softPend
  repeat' first
      | with_reducible assumption | with_reducible refine fun _ => ?_ | with_reducible apply hP.put | with_reducible apply closed_wake _ hP.closed
      | with_reducible apply closed_forEach _ hP.closed

theorem closed_storeIrq (P : State → Prop) (hP : Open P) (s : State) (a v : Nat) (hs : P s) : P (State.storeIrq s a v) := by
  unfold State.storeIrq
  repeat' first
      | with_reducible assumption | with_reducible apply closed_softClear _ hP | with_reducible apply closed_softPend _ hP
      | with_reducible apply closed_regStore _ hP | with_reducible apply closed_complete _ hP | with_reducible apply closed_enables _ hP
      | with_reducible apply closed_ite

theorem closed_enterRising (P : State → Prop) (hP : Open P) (s : State) (hs : P s) : P (State.enterRising s) := by
  unfold State.enterRising
  repeat' first
      | with_reducible assumption | with_reducible apply hP.put | with_reducible apply closed_checkOn _ hP.closed
      | with_reducible apply closed_irq _ hP.closed

theorem closed_requestOn (P : State → Prop) (hP : Open P) (s : State) (hs : P s) : P (State.requestOn s) := by
  unfold State.requestOn
  repeat' first
      | with_reducible assumption | with_reducible refine fun _ => ?_ | with_reducible apply hP.put | with_reducible apply open_sat _ hP
      | with_reducible apply closed_ifDo _ hP.closed | with_reducible apply closed_enterRising _ hP | split

theorem closed_snapGo (P : State → Prop) (hP : Open P) (s : State) (w : Writer) (hs : P s) : P (State.snapGo s w) := by
  unfold State.snapGo
  repeat' first | with_reducible assumption | with_reducible apply closed_stageOther _ hP.closed

theorem closed_storeKpr (P : State → Prop) (hP : Open P) (s : State) (w : Writer) (a v : Nat) (hs : P s) : P (State.storeKpr s w a v) := by
  unfold State.storeKpr
  repeat' first
      | with_reducible assumption | with_reducible refine fun _ => ?_ | with_reducible apply hP.put | with_reducible apply closed_snapGo _ hP
      | with_reducible apply closed_requestOff _ hP.closed | with_reducible apply closed_regStore _ hP | with_reducible apply closed_ifDo _ hP.closed
      | with_reducible apply closed_requestOn _ hP | split

theorem closed_clearSticky (P : State → Prop) (hP : Open P) (s : State) (n : Nat) (hs : P s) : P (State.clearSticky s n) := by
  unfold State.clearSticky
  repeat' first | with_reducible assumption | with_reducible apply hP.put | with_reducible apply open_setArr _ hP | split

theorem closed_hostAdmit (P : State → Prop) (hP : Open P) (s : State) (v : Nat) (hs : P s) : P (State.hostAdmit s v) := by
  unfold State.hostAdmit
  repeat' first
      | with_reducible assumption | with_reducible refine fun _ => ?_ | with_reducible apply hP.put | with_reducible apply closed_admitUnit _ hP
      | with_reducible apply closed_ifDo _ hP.closed | split

theorem closed_storeLedger (P : State → Prop) (hP : Open P) (s : State) (w : Writer) (a v : Nat) (hs : P s) : P (State.storeLedger s w a v) := by
  unfold State.storeLedger
  repeat' first
      | with_reducible assumption | with_reducible refine fun _ => ?_ | with_reducible apply closed_hostAdmit _ hP
      | with_reducible apply closed_forEach _ hP.closed | with_reducible apply closed_regStore _ hP | with_reducible apply closed_ifDo _ hP.closed
      | with_reducible apply closed_clearSticky _ hP | split

theorem closed_srcWrite (P : State → Prop) (hP : Open P) (s : State) (v : Nat) (hs : P s) : P (State.srcWrite s v) := by
  unfold State.srcWrite
  repeat' first
      | with_reducible assumption | with_reducible refine fun _ => ?_ | with_reducible apply hP.put | with_reducible apply closed_ifDo _ hP.closed | split

theorem closed_frameWrite (P : State → Prop) (hP : Open P) (s : State) (v : Nat) (hs : P s) : P (State.frameWrite s v) := by
  unfold State.frameWrite
  repeat' first
      | with_reducible assumption | with_reducible refine fun _ => ?_ | with_reducible apply hP.put | with_reducible apply closed_regStore _ hP
      | with_reducible apply closed_ifDo _ hP.closed | with_reducible apply closed_srcWrite _ hP | split

theorem closed_loopCtrl (P : State → Prop) (hP : Open P) (s : State) (a v : Nat) (hs : P s) : P (State.loopCtrl s a v) := by
  unfold State.loopCtrl
  repeat' first
      | with_reducible assumption | with_reducible refine fun _ => ?_ | with_reducible apply hP.put | with_reducible apply closed_regStore _ hP
      | with_reducible apply closed_ifDo _ hP.closed | split

theorem closed_lpStat (P : State → Prop) (hP : Open P) (s : State) (n v : Nat) (hs : P s) : P (State.lpStat s n v) := by
  unfold State.lpStat
  repeat' first
      | with_reducible assumption | with_reducible refine fun _ => ?_ | with_reducible apply hP.put | with_reducible apply closed_regStore _ hP
      | with_reducible apply closed_ifDo _ hP.closed

theorem closed_phCfg (P : State → Prop) (hP : Open P) (s : State) (k v : Nat) (hs : P s) : P (State.phCfg s k v) := by
  unfold State.phCfg
  repeat' first
      | with_reducible assumption | with_reducible refine fun _ => ?_ | with_reducible apply hP.put | with_reducible apply closed_forEach _ hP.closed
      | with_reducible apply closed_capLow _ hP.closed | with_reducible apply closed_regStore _ hP | with_reducible apply closed_ifDo _ hP.closed
      | with_reducible apply closed_irq _ hP.closed | with_reducible apply closed_ite

theorem closed_storeMlc (P : State → Prop) (hP : Open P) (s : State) (a v : Nat) (hs : P s) : P (State.storeMlc s a v) := by
  unfold State.storeMlc
  repeat' first
      | with_reducible assumption | with_reducible apply closed_frameWrite _ hP | with_reducible apply closed_phCfg _ hP
      | with_reducible apply closed_lpStat _ hP | with_reducible apply closed_regStore _ hP | with_reducible apply closed_loopCtrl _ hP | split

theorem closed_notReady (P : State → Prop) (hP : Open P) (s : State) (i : Nat) (hs : P s) : P (State.notReady s i) := by
  unfold State.notReady
  repeat' first | with_reducible assumption | with_reducible refine fun _ => ?_ | with_reducible apply hP.put | with_reducible apply closed_ifDo _ hP.closed

theorem closed_inputsCfg (P : State → Prop) (hP : Open P) (s : State) (hs : P s) : P (State.inputsCfg s) := by
  unfold State.inputsCfg
  repeat' first
      | with_reducible assumption | with_reducible refine fun _ => ?_ | with_reducible apply closed_notReady _ hP
      | with_reducible apply closed_forEach _ hP.closed | with_reducible apply closed_ifDo _ hP.closed | with_reducible apply closed_setInSt _ hP | split

theorem closed_chgClr (P : State → Prop) (hP : Open P) (s : State) (hs : P s) : P (State.chgClr s) := by
  unfold State.chgClr
  repeat' first
      | with_reducible assumption | with_reducible refine fun _ => ?_ | with_reducible apply closed_chgFault _ hP
      | with_reducible apply closed_setPhase _ hP.closed | with_reducible apply closed_ifDo _ hP.closed | split

theorem closed_retest (P : State → Prop) (hP : Open P) (s : State) (hs : P s) : P (State.retest s) := by
  unfold State.retest
  repeat' first
      | with_reducible assumption | with_reducible refine fun _ => ?_ | with_reducible apply hP.put | with_reducible apply closed_forEach _ hP.closed
      | with_reducible apply closed_ptStart _ hP.closed | with_reducible apply closed_ifDo _ hP.closed | with_reducible apply closed_setInSt _ hP

theorem closed_searchAgain (P : State → Prop) (hP : Open P) (s : State) (hs : P s) : P (State.searchAgain s) := by
  unfold State.searchAgain
  repeat' first
      | with_reducible assumption | with_reducible refine fun _ => ?_ | with_reducible apply closed_searchStart _ hP
      | with_reducible apply closed_ifDo _ hP.closed | with_reducible apply closed_setInSt _ hP

theorem closed_ppCtrl (P : State → Prop) (hP : Open P) (s : State) (v : Nat) (hs : P s) : P (State.ppCtrl s v) := by
  unfold State.ppCtrl
  repeat' first
      | with_reducible assumption | with_reducible apply closed_chgClr _ hP | with_reducible apply closed_regStore _ hP
      | with_reducible apply closed_ifDo _ hP.closed | with_reducible apply closed_batGo _ hP | with_reducible apply closed_searchAgain _ hP
      | with_reducible apply closed_retest _ hP | split

theorem closed_selectNext (P : State → Prop) (hP : Open P) (s : State) (hs : P s) : P (State.selectNext s) := by
  unfold State.selectNext
  repeat' first | with_reducible assumption | with_reducible apply closed_selectInput _ hP | split

theorem closed_storePath (P : State → Prop) (hP : Open P) (s : State) (a v : Nat) (hs : P s) : P (State.storePath s a v) := by
  unfold State.storePath
  repeat' first
      | with_reducible assumption | with_reducible apply closed_ppCtrl _ hP | with_reducible apply closed_selectNext _ hP
      | with_reducible apply closed_regStore _ hP | with_reducible apply closed_inputsCfg _ hP | split

theorem closed_portCfg (P : State → Prop) (hP : Open P) (s : State) (x w : Nat) (hs : P s) : P (State.portCfg s x w) := by
  unfold State.portCfg
  repeat' first | with_reducible assumption | with_reducible apply hP.put | with_reducible apply closed_portCfgTake _ hP.closed | split

theorem closed_portEnds (P : State → Prop) (hP : Open P) (s : State) (x : Nat) (hs : P s) : P (State.portEnds s x) := by
  unfold State.portEnds
  repeat' first
      | with_reducible assumption | with_reducible apply hP.put | with_reducible apply closed_notReady _ hP | with_reducible apply closed_lostInput _ hP
      | with_reducible apply closed_setInSt _ hP | with_reducible apply closed_ite

theorem closed_sourceHardReset (P : State → Prop) (hP : Open P) (s : State) (x : Nat) (hs : P s) : P (State.sourceHardReset s x) := by
  unfold State.sourceHardReset
  repeat' first | with_reducible assumption | with_reducible apply hP.put | with_reducible apply closed_protoReset _ hP.closed

theorem closed_hardReset (P : State → Prop) (hP : Open P) (s : State) (x : Nat) (hs : P s) : P (State.hardReset s x) := by
  unfold State.hardReset
  repeat' first
      | with_reducible assumption | with_reducible refine fun _ => ?_ | with_reducible apply closed_protoReset _ hP.closed
      | with_reducible apply closed_portEnds _ hP | with_reducible apply closed_ifDo _ hP.closed | with_reducible apply closed_sourceHardReset _ hP | split

theorem closed_sendHardReset (P : State → Prop) (hP : Open P) (s : State) (x : Nat) (hs : P s) : P (State.sendHardReset s x) := by
  unfold State.sendHardReset
  repeat' first
      | with_reducible assumption | with_reducible apply open_portFlag _ hP | with_reducible apply closed_tx _ hP.closed
      | with_reducible apply closed_hardReset _ hP

theorem closed_portAct (P : State → Prop) (hP : Open P) (s : State) (x cmd : Nat) (hs : P s) : P (State.portAct s x cmd) := by
  unfold State.portAct
  repeat' first
      | with_reducible assumption | with_reducible apply hP.put | with_reducible apply closed_sendHardReset _ hP | with_reducible apply open_portFlag _ hP
      | with_reducible apply closed_tx _ hP.closed | with_reducible apply closed_sendCaps _ hP.closed | split

theorem closed_portCtrl (P : State → Prop) (hP : Open P) (s : State) (x w : Nat) (hs : P s) : P (State.portCtrl s x w) := by
  unfold State.portCtrl
  repeat' first | with_reducible assumption | with_reducible apply hP.put | with_reducible apply closed_portAct _ hP | with_reducible apply closed_ite

theorem closed_portPps (P : State → Prop) (hP : Open P) (s : State) (x w : Nat) (hs : P s) : P (State.portPps s x w) := by
  unfold State.portPps
  repeat' first
      | with_reducible assumption | with_reducible refine fun _ => ?_ | with_reducible apply hP.put | with_reducible apply closed_requestBest _ hP.closed
      | with_reducible apply closed_ifDo _ hP.closed | split

theorem closed_storePort (P : State → Prop) (hP : Open P) (s : State) (a v : Nat) (hs : P s) : P (State.storePort s a v) := by
  unfold State.storePort
  repeat' first
      | with_reducible assumption | with_reducible apply closed_portCtrl _ hP | with_reducible apply closed_portPps _ hP
      | with_reducible apply closed_regStore _ hP | with_reducible apply closed_portCfg _ hP | with_reducible apply closed_ite | split

theorem closed_pwrReq (P : State → Prop) (hP : Open P) (s : State) (req : Nat) (hs : P s) : P (State.pwrReq s req) := by
  unfold State.pwrReq
  repeat' first
      | with_reducible assumption | with_reducible refine fun _ => ?_ | with_reducible apply hP.put | with_reducible apply closed_ifDo _ hP.closed
      | with_reducible apply closed_pwrAct _ hP.closed | split

theorem closed_stbyCfg (P : State → Prop) (hP : Open P) (s : State) (v : Nat) (hs : P s) : P (State.stbyCfg s v) := by
  unfold State.stbyCfg
  repeat' first
      | with_reducible assumption | with_reducible refine fun _ => ?_ | with_reducible apply closed_regStore _ hP
      | with_reducible apply closed_ifDo _ hP.closed | with_reducible apply open_mark _ hP

theorem closed_storePwr (P : State → Prop) (hP : Open P) (s : State) (a v : Nat) (hs : P s) : P (State.storePwr s a v) := by
  unfold State.storePwr
  repeat' first
      | with_reducible assumption | with_reducible apply closed_regStore _ hP | with_reducible apply closed_pwrReq _ hP
      | with_reducible apply closed_stbyCfg _ hP | split

theorem closed_lcRequest (P : State → Prop) (hP : Open P) (s : State) (debug field : Bool) (w : Nat) (hs : P s) : P (State.lcRequest s debug field w) := by
  unfold State.lcRequest
  repeat' first | with_reducible assumption | with_reducible apply hP.put | split

theorem closed_otpCmd (P : State → Prop) (hP : Open P) (s : State) (w : Nat) (hs : P s) : P (State.otpCmd s w) := by
  unfold State.otpCmd
  repeat' first
      | with_reducible assumption | with_reducible refine fun _ => ?_ | with_reducible apply hP.put | with_reducible apply closed_ifDo _ hP.closed
      | with_reducible apply closed_ite

theorem closed_tpApplied (P : State → Prop) (hP : Open P) (s : State) (hs : P s) : P (State.tpApplied s) := by
  unfold State.tpApplied
  repeat' first | with_reducible assumption | with_reducible apply open_sat _ hP | with_reducible apply closed_raise _ hP.closed

theorem closed_tpCtrl (P : State → Prop) (hP : Open P) (s : State) (w : Nat) (hs : P s) : P (State.tpCtrl s w) := by
  unfold State.tpCtrl
  repeat' first
      | with_reducible assumption | with_reducible refine fun _ => ?_ | with_reducible apply hP.put | with_reducible apply closed_forEach _ hP.closed
      | with_reducible apply closed_regStore _ hP | with_reducible apply closed_ifDo _ hP.closed | with_reducible apply closed_tpApplied _ hP

theorem closed_tpMag0 (P : State → Prop) (hP : Open P) (s : State) (w : Nat) (hs : P s) : P (State.tpMag0 s w) := by
  unfold State.tpMag0
  repeat' first
      | with_reducible assumption | with_reducible apply hP.put | with_reducible apply closed_ifDo _ hP.closed | with_reducible apply closed_tpApplied _ hP

theorem closed_tpMag1 (P : State → Prop) (hP : Open P) (s : State) (w : Nat) (hs : P s) : P (State.tpMag1 s w) := by
  unfold State.tpMag1
  repeat' first
      | with_reducible assumption | with_reducible apply hP.put | with_reducible apply closed_ifDo _ hP.closed | with_reducible apply closed_tpApplied _ hP

theorem closed_storeSec (P : State → Prop) (hP : Open P) (s : State) (w : Writer) (a v : Nat) (hs : P s) : P (State.storeSec s w a v) := by
  unfold State.storeSec
  repeat' first
      | with_reducible assumption | with_reducible apply closed_otpCmd _ hP | with_reducible apply closed_tpMag1 _ hP
      | with_reducible apply closed_regStore _ hP | with_reducible apply closed_tpMag0 _ hP | with_reducible apply closed_lcRequest _ hP
      | with_reducible apply closed_tpCtrl _ hP | split

theorem closed_mboxPut (P : State → Prop) (hP : Open P) (s : State) (b : Nat) (v : Word) (hs : P s) : P (State.mboxPut s b v) := by
  unfold State.mboxPut
  repeat' first
      | with_reducible assumption | with_reducible refine fun _ => ?_ | exact trivial | with_reducible apply hP.put
      | with_reducible apply closed_wake _ hP.closed | with_reducible apply closed_ifDo _ hP.closed | split | with_reducible apply hP.top | rfl

theorem closed_hostPost (P : State → Prop) (hP : Open P) (s : State) (st : Nat) (v : Word) (hs : P s) : P (State.hostPost s st v) := by
  unfold State.hostPost
  repeat' first
      | with_reducible assumption | with_reducible refine fun _ => ?_ | exact trivial | with_reducible apply hP.put
      | with_reducible apply closed_mboxPut _ hP | split

theorem closed_kick (P : State → Prop) (hP : Open P) (s : State) (st : Nat) (own : Bool) (w : Nat) (hs : P s) : P (State.kick s st own w) := by
  unfold State.kick
  repeat' first | with_reducible assumption | with_reducible apply hP.put | split

theorem closed_mboxDrop (P : State → Prop) (hP : Open P) (s : State) (b : Nat) (hs : P s) : P (State.mboxDrop s b) := by
  unfold State.mboxDrop
  repeat' first | with_reducible assumption | with_reducible refine fun _ => ?_ | with_reducible apply hP.top

theorem closed_mboxFlush (P : State → Prop) (hP : Open P) (s : State) (b : Nat) (hs : P s) : P (State.mboxFlush s b) := by
  unfold State.mboxFlush
  repeat' first | with_reducible assumption | with_reducible refine fun _ => ?_ | with_reducible apply hP.top

theorem closed_mbxCtrl (P : State → Prop) (hP : Open P) (s : State) (w : Nat) (hs : P s) : P (State.mbxCtrl s w) := by
  unfold State.mbxCtrl
  repeat' first
      | with_reducible assumption | with_reducible refine fun _ => ?_ | with_reducible apply closed_forEach _ hP.closed
      | with_reducible apply closed_ifDo _ hP.closed | with_reducible apply closed_mboxDrop _ hP | with_reducible apply closed_mboxFlush _ hP

theorem closed_stallGo (P : State → Prop) (hP : Open P) (s : State) (st : Nat) (hs : P s) : P (State.stallGo s st) := by
  unfold State.stallGo
  repeat' first
      | with_reducible assumption | with_reducible apply closed_demand _ hP.closed | with_reducible apply closed_ifDo _ hP.closed
      | with_reducible apply closed_setSl _ hP

theorem closed_stallEnter (P : State → Prop) (hP : Open P) (s : State) (st : Nat) (hs : P s) : P (State.stallEnter s st) := by
  unfold State.stallEnter
  repeat' first
      | with_reducible assumption | with_reducible apply hP.put | with_reducible apply closed_stallGo _ hP | with_reducible apply closed_archReset _ hP

theorem closed_startBadly (P : State → Prop) (hP : Open P) (s : State) (st : Nat) (hs : P s) : P (State.startBadly s st) := by
  unfold State.startBadly
  repeat' first | with_reducible assumption | with_reducible apply hP.put

theorem closed_stallRestart (P : State → Prop) (hP : Open P) (s : State) (st : Nat) (hs : P s) : P (State.stallRestart s st) := by
  unfold State.stallRestart
  repeat' first
      | with_reducible assumption | with_reducible apply closed_startBadly _ hP | with_reducible apply open_setBit _ hP
      | with_reducible apply closed_stallEnter _ hP | split

theorem closed_stallStart (P : State → Prop) (hP : Open P) (s : State) (st : Nat) (hs : P s) : P (State.stallStart s st) := by
  unfold State.stallStart
  repeat' first
      | with_reducible assumption | with_reducible apply hP.put | with_reducible apply closed_startBadly _ hP | with_reducible apply closed_stallGo _ hP
      | with_reducible apply open_setBit _ hP | with_reducible apply closed_stallEnter _ hP | split

theorem closed_stlCtrl (P : State → Prop) (hP : Open P) (s : State) (w : Nat) (hs : P s) : P (State.stlCtrl s w) := by
  unfold State.stlCtrl
  repeat' first
      | with_reducible assumption | with_reducible refine fun _ => ?_ | with_reducible apply closed_stallRestart _ hP
      | with_reducible apply closed_forEach _ hP.closed | with_reducible apply closed_ifDo _ hP.closed | with_reducible apply closed_stallStart _ hP
      | split

theorem closed_storeStall (P : State → Prop) (hP : Open P) (s : State) (w : Writer) (a v : Nat) (hs : P s) : P (State.storeStall s w a v) := by
  unfold State.storeStall
  repeat' first
      | with_reducible assumption | with_reducible apply closed_kick _ hP | with_reducible apply closed_regStore _ hP
      | with_reducible apply closed_mbxCtrl _ hP | with_reducible apply closed_hostPost _ hP | with_reducible apply closed_stlCtrl _ hP | split

theorem closed_softRst (P : State → Prop) (hP : Open P) (s : State) (v : Nat) (hs : P s) : P (State.softRst s v) := by
  unfold State.softRst
  repeat' first
      | with_reducible assumption | with_reducible refine fun _ => ?_ | with_reducible apply hP.put | with_reducible apply closed_warmReset _ hP
      | with_reducible apply closed_regStore _ hP | with_reducible apply closed_ifDo _ hP.closed | split

theorem closed_storeSys (P : State → Prop) (hP : Open P) (s : State) (a v : Nat) (hs : P s) : P (State.storeSys s a v) := by
  unfold State.storeSys
  repeat' first
      | with_reducible assumption | with_reducible refine fun _ => ?_ | with_reducible apply hP.put | with_reducible apply closed_regStore _ hP
      | with_reducible apply closed_nvmQueue _ hP | with_reducible apply closed_ifDo _ hP.closed | with_reducible apply closed_softRst _ hP | split

theorem closed_tmCtrl (P : State → Prop) (hP : Open P) (s : State) (n w : Nat) (hs : P s) : P (State.tmCtrl s n w) := by
  unfold State.tmCtrl
  repeat' first
      | with_reducible assumption | with_reducible refine fun _ => ?_ | with_reducible apply hP.put | with_reducible apply closed_wake _ hP.closed
      | with_reducible apply closed_tmStop _ hP | with_reducible apply closed_ifDo _ hP.closed | with_reducible apply closed_foldl | split

theorem closed_tmGlobal (P : State → Prop) (hP : Open P) (s : State) (w : Nat) (hs : P s) : P (State.tmGlobal s w) := by
  unfold State.tmGlobal
  repeat' first
      | with_reducible assumption | with_reducible refine fun _ => ?_ | with_reducible apply hP.put | with_reducible apply closed_tmStop _ hP
      | with_reducible apply closed_forEach _ hP.closed | with_reducible apply closed_ifDo _ hP.closed

theorem closed_tmMatHi (P : State → Prop) (hP : Open P) (s : State) (n w : Nat) (hs : P s) : P (State.tmMatHi s n w) := by
  unfold State.tmMatHi
  repeat' first | with_reducible assumption | with_reducible apply hP.put | with_reducible apply closed_tmCommit _ hP | with_reducible apply closed_ite

theorem closed_tmSet (P : State → Prop) (hP : Open P) (s : State) (f : Fld) (n w : Nat) (hs : P s) : P (State.tmSet s f n w) := by
  unfold State.tmSet
  repeat' first | with_reducible assumption | with_reducible apply hP.put | split

theorem closed_storeTimer (P : State → Prop) (hP : Open P) (s : State) (a v : Nat) (hs : P s) : P (State.storeTimer s a v) := by
  unfold State.storeTimer
  repeat' first
      | with_reducible assumption | with_reducible apply closed_tmSet _ hP | with_reducible apply closed_tmGlobal _ hP
      | with_reducible apply closed_tmMatHi _ hP | with_reducible apply closed_regStore _ hP | with_reducible apply closed_tmCtrl _ hP | split

theorem closed_store (P : State → Prop) (hP : Open P) (s : State) (w : Writer) (a v : Nat) (hs : P s) : P (State.store s w a v) := by
  unfold State.store
  repeat' first
      | with_reducible assumption | exact trivial | with_reducible apply closed_storeIrq _ hP | with_reducible apply closed_storeKpr _ hP
      | with_reducible apply closed_storeLedger _ hP | with_reducible apply closed_storeGauge _ hP | with_reducible apply closed_bkWrite _ hP
      | with_reducible apply closed_storeTimer _ hP | with_reducible apply closed_storePath _ hP | with_reducible apply closed_storePort _ hP
      | with_reducible apply closed_storeMlc _ hP | with_reducible apply closed_nvmWrite _ hP | with_reducible apply closed_storeChan _ hP
      | with_reducible apply closed_storeSec _ hP | with_reducible apply closed_storePwr _ hP | with_reducible apply closed_storeSys _ hP
      | with_reducible apply closed_storeCrier _ hP | with_reducible apply closed_storeStall _ hP | with_reducible apply closed_ite | split

theorem closed_busWrite (P : State → Prop) (hP : Open P) (s : State) (w : Writer) (a v : Nat) (hs : P s) : P (State.busWrite s w a v).2 := by
  unfold State.busWrite
  repeat' first
      | with_reducible assumption
      | (lift_lets; intro x; (first | have hx : P x := by (repeat' first | with_reducible assumption | with_reducible refine fun _ => ?_ | exact trivial | with_reducible apply hP.put | with_reducible apply closed_tapDbg _ hP | with_reducible apply closed_demand _ hP.closed | with_reducible apply closed_ite | split) | have hx : True := trivial); clear_value x)
      | exact trivial | with_reducible apply hP.put | with_reducible apply closed_store _ hP | with_reducible apply closed_reportRefused _ hP
      | with_reducible apply closed_ite | split

theorem closed_button (P : State → Prop) (hP : Open P) (s : State) (hs : P s) : P (State.button s) := by
  unfold State.button
  repeat' first
      | with_reducible assumption | with_reducible refine fun _ => ?_ | with_reducible apply hP.put | with_reducible apply closed_wake _ hP.closed
      | with_reducible apply closed_shipCancel _ hP.closed | with_reducible apply closed_ifDo _ hP.closed

theorem closed_cellBit (P : State → Prop) (hP : Open P) (s : State) (bit : Fld) (b : Bool) (hs : P s) : P (State.cellBit s bit b) := by
  unfold State.cellBit
  repeat' first
      | with_reducible assumption | with_reducible refine fun _ => ?_ | with_reducible apply closed_ifDo _ hP.closed
      | with_reducible apply closed_irq _ hP.closed | with_reducible apply open_mark _ hP

theorem closed_cellCheck (P : State → Prop) (hP : Open P) (s : State) (cells : List Nat) (hs : P s) : P (State.cellCheck s cells) := by
  unfold State.cellCheck
  repeat' first
      | with_reducible assumption | with_reducible apply hP.put | with_reducible apply open_sat _ hP | with_reducible apply closed_cellBit _ hP
      | with_reducible apply closed_ite

theorem closed_challenge (P : State → Prop) (hP : Open P) (s : State) (hs : P s) : P (State.challenge s) := by
  unfold State.challenge
  repeat' first
      | with_reducible assumption | with_reducible refine fun _ => ?_ | with_reducible apply hP.put | with_reducible apply closed_forEach _ hP.closed
      | with_reducible apply closed_drawFree _ hP | split

theorem closed_checks (P : State → Prop) (hP : Open P) (s : State) (m : ScanSample) (hs : P s) : P (State.checks s m) := by
  unfold State.checks
  repeat' first
      | with_reducible assumption | with_reducible refine fun _ => ?_ | with_reducible apply hP.put | with_reducible apply closed_forEach _ hP.closed
      | with_reducible apply closed_ifDo _ hP.closed

theorem closed_tableCheck (P : State → Prop) (hP : Open P) (s : State) (hs : P s) : P (State.tableCheck s) := by
  unfold State.tableCheck
  repeat' first
      | with_reducible assumption | with_reducible refine fun _ => ?_ | exact trivial | with_reducible apply hP.put
      | with_reducible apply closed_setRail _ hP.closed | with_reducible apply closed_forEach _ hP.closed | with_reducible apply closed_raise _ hP.closed
      | with_reducible apply closed_ifDo _ hP.closed | with_reducible apply open_mark _ hP | with_reducible apply closed_ite | split
      | with_reducible apply hP.top | rfl | with_reducible apply wf_measWords | with_reducible apply wf_loadWords | with_reducible apply wf_copyCells

theorem closed_takeMap (P : State → Prop) (hP : Open P) (s : State) (hs : P s) : P (State.takeMap s) := by
  unfold State.takeMap
  repeat' first
      | with_reducible assumption | with_reducible refine fun _ => ?_ | with_reducible apply hP.put | with_reducible apply closed_forEach _ hP.closed

theorem closed_closeWindow (P : State → Prop) (hP : Open P) (s : State) (hs : P s) : P (State.closeWindow s) := by
  unfold State.closeWindow
  repeat' first
      | with_reducible assumption | with_reducible apply hP.put | with_reducible apply closed_takeMap _ hP | with_reducible apply closed_tableCheck _ hP

theorem closed_cml (P : State → Prop) (hP : Open P) (s : State) (bit : Nat) (hs : P s) : P (State.cml s bit) := by
  unfold State.cml
  repeat' first | with_reducible assumption | with_reducible apply open_setBit _ hP

theorem closed_loseStaging (P : State → Prop) (hP : Open P) (s : State) (hs : P s) : P (State.loseStaging s) := by
  unfold State.loseStaging
  repeat' first
      | with_reducible assumption | with_reducible refine fun _ => ?_ | with_reducible apply hP.put | with_reducible apply closed_ifDo _ hP.closed
      | with_reducible apply hP.top | rfl

theorem closed_portsClamp (P : State → Prop) (hP : Open P) (s : State) (hs : P s) : P (State.portsClamp s) := by
  unfold State.portsClamp
  repeat' first
      | with_reducible assumption | with_reducible refine fun _ => ?_ | with_reducible apply hP.put | with_reducible apply closed_forEach _ hP.closed

theorem closed_flushStaging (P : State → Prop) (hP : Open P) (s : State) (fuel : Nat) (hs : P s) : P (State.flushStaging s fuel) := by
  induction fuel generalizing s with
  | zero => exact hs
  | succ k ih =>
    unfold State.flushStaging
    split
    · exact hs
    · lift_lets; intro x
      have hx : P x := closed_nvmNext P hP.closed _ hs
      clear_value x
      dsimp only
      split
      · exact hx
      · exact ih _ (closed_commit P hP _ (hP.put _ _ _ _ (hP.top _ _ _ _ _ _ _ _ _ _ _ _ _ _ _ _ _ id id (wf_storeBytes _ _ _) hx)))

theorem closed_writeResetRec (P : State → Prop) (hP : Open P) (s : State) (origin : Nat) (hs : P s) : P (State.writeResetRec s origin) := by
  unfold State.writeResetRec
  repeat' first
      | with_reducible assumption | with_reducible apply hP.put | with_reducible apply closed_stageCritical _ hP.closed
      | with_reducible apply closed_flushStaging _ hP

theorem closed_coldReset (P : State → Prop) (hP : Open P) (s : State) (bor : Nat) (hs : P s) : P (State.coldReset s bor) := by
  unfold State.coldReset
  repeat' first
      | with_reducible assumption | with_reducible refine fun _ => ?_ | exact trivial | with_reducible apply hP.put
      | with_reducible apply closed_portsClamp _ hP | with_reducible apply closed_writeResetRec _ hP | with_reducible apply closed_forEach _ hP.closed
      | with_reducible apply closed_resetBegins _ hP | with_reducible apply closed_bootCut _ hP | with_reducible apply closed_loseStaging _ hP
      | with_reducible apply closed_resetUnits _ hP | with_reducible apply closed_ifDo _ hP.closed | with_reducible apply closed_setInSt _ hP
      | with_reducible apply closed_release _ hP.closed | with_reducible apply open_mark _ hP | with_reducible apply hP.drop
      | with_reducible apply closed_ite | split | with_reducible apply hP.top | rfl | with_reducible apply wf_storeWord | with_reducible apply wf_copyWords
      | with_reducible apply wf_measWords | with_reducible apply wf_loadWords | with_reducible apply wf_copyCells

theorem closed_newRecord (P : State → Prop) (hP : Open P) (s : State) (st c : Nat) (hs : P s) : P (State.newRecord s st c) := by
  unfold State.newRecord
  repeat' first | with_reducible assumption | with_reducible apply hP.put

theorem closed_complete1 (P : State → Prop) (hP : Open P) (s : State) (st c : Nat) (f : State → Answer) (hs : P s) (hf : ∀ x0, P x0 → P ((f x0).after)) :
    P (State.complete1 s st c f).after := by
  unfold State.complete1
  repeat' first
      | with_reducible assumption | with_reducible refine fun _ => ?_ | exact trivial | with_reducible apply hP.put | with_reducible apply hf
      | with_reducible apply closed_ifDo _ hP.closed | with_reducible apply closed_newRecord _ hP | split | with_reducible apply hP.top | rfl

theorem closed_convFlt (P : State → Prop) (hP : Open P) (s : State) (x : Nat) (hs : P s) : P (State.convFlt s x) := by
  unfold State.convFlt
  repeat' first
      | with_reducible assumption | with_reducible refine fun _ => ?_ | with_reducible apply closed_raise _ hP.closed
      | with_reducible apply closed_ifDo _ hP.closed

theorem closed_copyImem (P : State → Prop) (hP : Open P) (s : State) (p : Nat) (hs : P s) : P (State.copyImem s p) := by
  unfold State.copyImem
  repeat' first | with_reducible assumption | with_reducible refine fun _ => ?_ | with_reducible apply hP.top | with_reducible apply wf_copyCells

theorem closed_crierFault (P : State → Prop) (hP : Open P) (s : State) (c : Nat) (hs : P s) : P (State.crierFault s c) := by
  unfold State.crierFault
  repeat' first
      | with_reducible assumption | with_reducible refine fun _ => ?_ | with_reducible apply hP.put | with_reducible apply closed_raise _ hP.closed
      | with_reducible apply closed_ifDo _ hP.closed

theorem closed_crierJoin (P : State → Prop) (hP : Open P) (s : State) (c : Nat) (hs : P s) : P (State.crierJoin s c) := by
  unfold State.crierJoin
  repeat' first | with_reducible assumption | with_reducible apply hP.put | with_reducible apply open_mark _ hP

theorem closed_crierCheck (P : State → Prop) (hP : Open P) (s : State) (c : Nat) (v : Option Nat) (hs : P s) : P (State.crierCheck s c v) := by
  unfold State.crierCheck
  repeat' first
      | with_reducible assumption | with_reducible refine fun _ => ?_ | with_reducible apply hP.put | with_reducible apply closed_crierJoin _ hP
      | with_reducible apply closed_crierFault _ hP | with_reducible apply closed_ifDo _ hP.closed | split

theorem closed_crierSet (P : State → Prop) (hP : Open P) (s : State) (c : Nat) (hi v : Bool) (hs : P s) : P (State.crierSet s c hi v) := by
  unfold State.crierSet
  repeat' first
      | with_reducible assumption | with_reducible refine fun _ => ?_ | with_reducible apply closed_crierMove _ hP
      | with_reducible apply closed_ifDo _ hP.closed | with_reducible apply closed_crierTake _ hP

theorem closed_criersBack (P : State → Prop) (hP : Open P) (s : State) (hs : P s) : P (State.criersBack s) := by
  unfold State.criersBack
  repeat' first
      | with_reducible assumption | with_reducible refine fun _ => ?_ | with_reducible apply hP.put | with_reducible apply closed_forEach _ hP.closed
      | with_reducible apply closed_ifDo _ hP.closed

theorem closed_detach (P : State → Prop) (hP : Open P) (s : State) (x : Nat) (hs : P s) : P (State.detach s x) := by
  unfold State.detach
  repeat' first
      | with_reducible assumption | with_reducible refine fun _ => ?_ | with_reducible apply hP.put | with_reducible apply closed_portEnds _ hP
      | with_reducible apply open_portFlag _ hP | with_reducible apply closed_ifDo _ hP.closed | with_reducible apply closed_unattach _ hP.closed

theorem closed_dipLimit (P : State → Prop) (hP : Open P) (s : State) (hs : P s) : P (State.dipLimit s) := by
  unfold State.dipLimit
  repeat' first | with_reducible assumption | with_reducible apply hP.put

theorem closed_doAdmit (P : State → Prop) (hP : Open P) (s : State) (u : Nat) (hs : P s) : P (State.doAdmit s u) := by
  unfold State.doAdmit
  repeat' first
      | with_reducible assumption | with_reducible refine fun _ => ?_ | with_reducible apply closed_admitUnit _ hP | with_reducible apply open_sat _ hP
      | with_reducible apply closed_ifDo _ hP.closed | split

theorem closed_doDisb (P : State → Prop) (hP : Open P) (s : State) (kind num : Nat) (hs : P s) : P (State.doDisb s kind num) := by
  unfold State.doDisb
  repeat' first
      | with_reducible assumption | with_reducible refine fun _ => ?_ | with_reducible apply closed_finishStop _ hP.closed
      | with_reducible apply closed_ifDo _ hP.closed | with_reducible apply closed_stopRail _ hP.closed | split

theorem closed_swClose (P : State → Prop) (hP : Open P) (s : State) (n : Nat) (hs : P s) : P (State.swClose s n) := by
  unfold State.swClose
  repeat' first | with_reducible assumption | with_reducible refine fun _ => ?_ | with_reducible apply hP.put | with_reducible apply closed_ifDo _ hP.closed

theorem closed_loopStart (P : State → Prop) (hP : Open P) (s : State) (n : Nat) (hs : P s) : P (State.loopStart s n) := by
  unfold State.loopStart
  repeat' first | with_reducible assumption | with_reducible apply hP.put | with_reducible apply closed_swClose _ hP

theorem closed_startRail (P : State → Prop) (hP : Open P) (s : State) (r : Nat) (hs : P s) : P (State.startRail s r) := by
  unfold State.startRail
  repeat' first
      | with_reducible assumption | with_reducible refine fun _ => ?_ | exact trivial | with_reducible apply hP.put
      | with_reducible apply closed_drivePin _ hP.closed | with_reducible apply closed_setRail _ hP.closed
      | with_reducible apply closed_tryGood _ hP.closed | with_reducible apply closed_loopStart _ hP | with_reducible apply closed_ifDo _ hP.closed
      | with_reducible apply closed_ite | split | with_reducible apply hP.top | rfl | with_reducible apply wf_measWords | with_reducible apply wf_loadWords
      | with_reducible apply wf_copyCells

theorem closed_doEnab (P : State → Prop) (hP : Open P) (s : State) (kind num : Nat) (hs : P s) : P (State.doEnab s kind num) := by
  unfold State.doEnab
  repeat' first
      | with_reducible assumption | with_reducible refine fun _ => ?_ | with_reducible apply closed_loopStart _ hP
      | with_reducible apply closed_ifDo _ hP.closed | with_reducible apply closed_startRail _ hP | split

theorem closed_doFence (P : State → Prop) (hP : Open P) (s : State) (u : Nat) (hs : P s) : P (State.doFence s u) := by
  unfold State.doFence
  repeat' first
      | with_reducible assumption | with_reducible refine fun _ => ?_ | with_reducible apply hP.put | with_reducible apply closed_ifDo _ hP.closed
      | with_reducible apply closed_fencePhase _ hP.closed | with_reducible apply closed_fenceCrier _ hP.closed | split

theorem closed_doRamp (P : State → Prop) (hP : Open P) (s : State) (n p : Nat) (hs : P s) : P (State.doRamp s n p) := by
  unfold State.doRamp
  repeat' first
      | with_reducible assumption
      | (lift_lets; intro x; (first | have hx : P x := by (repeat' first | with_reducible assumption | with_reducible refine fun _ => ?_ | exact trivial | with_reducible apply hP.put | with_reducible apply closed_ifDo _ hP.closed | with_reducible apply closed_ite | split) | have hx : True := trivial); clear_value x)
      | with_reducible refine fun _ => ?_ | exact trivial | with_reducible apply hP.put | with_reducible apply closed_loopStart _ hP
      | with_reducible apply closed_ifDo _ hP.closed | with_reducible apply closed_startRail _ hP | split

theorem closed_domainReset (P : State → Prop) (hP : Open P) (s : State) (hs : P s) : P (State.domainReset s) := by
  unfold State.domainReset
  repeat' first
      | with_reducible assumption | with_reducible refine fun _ => ?_ | with_reducible apply hP.put | with_reducible apply hP.drop
      | with_reducible apply hP.top

theorem closed_endBlind (P : State → Prop) (hP : Open P) (s : State) (hs : P s) : P (State.endBlind s) := by
  unfold State.endBlind
  repeat' first
      | with_reducible assumption | with_reducible refine fun _ => ?_ | with_reducible apply hP.put | with_reducible apply closed_ifDo _ hP.closed
      | with_reducible apply closed_record _ hP.closed

theorem closed_endWait (P : State → Prop) (hP : Open P) (s : State) (st : Nat) (z : Bool) (hs : P s) : P (State.endWait s st z) := by
  unfold State.endWait
  repeat' first
      | with_reducible assumption | with_reducible refine fun _ => ?_ | with_reducible apply hP.put | with_reducible apply closed_retire _ hP
      | with_reducible apply closed_stallGo _ hP | with_reducible apply closed_ifDo _ hP.closed | with_reducible apply open_mark _ hP

theorem closed_eprFail (P : State → Prop) (hP : Open P) (s : State) (x : Nat) (hs : P s) : P (State.eprFail s x) := by
  unfold State.eprFail
  repeat' first | with_reducible assumption | with_reducible apply hP.put | with_reducible apply open_portFlag _ hP

theorem closed_eprCut (P : State → Prop) (hP : Open P) (s : State) (x : Nat) (hs : P s) : P (State.eprCut s x) := by
  unfold State.eprCut
  repeat' first
      | with_reducible assumption | with_reducible refine fun _ => ?_ | with_reducible apply closed_eprFail _ hP
      | with_reducible apply closed_ifDo _ hP.closed

theorem closed_eprLeave (P : State → Prop) (hP : Open P) (s : State) (x : Nat) (hs : P s) : P (State.eprLeave s x) := by
  unfold State.eprLeave
  repeat' first | with_reducible assumption | with_reducible apply hP.put | with_reducible apply closed_sendHardReset _ hP | split

theorem closed_nsup (P : State → Prop) (hP : Open P) (s : State) (x : Nat) (hs : P s) : P (State.nsup s x) := by
  unfold State.nsup
  repeat' first | with_reducible assumption | with_reducible apply open_portFlag _ hP | with_reducible apply closed_tx _ hP.closed

theorem closed_eprMode (P : State → Prop) (hP : Open P) (s : State) (x action : Nat) (hs : P s) : P (State.eprMode s x action) := by
  unfold State.eprMode
  repeat' first
      | with_reducible assumption | with_reducible refine fun _ => ?_ | with_reducible apply hP.put | with_reducible apply closed_eprFail _ hP
      | with_reducible apply closed_eprLeave _ hP | with_reducible apply closed_ifDo _ hP.closed | with_reducible apply closed_nsup _ hP | split

theorem closed_eventEnds (P : State → Prop) (hP : Open P) (s : State) (n : Nat) (hs : P s) : P (State.eventEnds s n) := by
  unfold State.eventEnds
  repeat' first
      | with_reducible assumption | with_reducible refine fun _ => ?_ | with_reducible apply closed_brakeEnd _ hP.closed
      | with_reducible apply closed_ifDo _ hP.closed | with_reducible apply closed_rushEnd _ hP.closed

theorem closed_extest (P : State → Prop) (hP : Open P) (s : State) (hs : P s) : P (State.extest s) := by
  unfold State.extest
  repeat' first | with_reducible assumption | with_reducible apply hP.put | split

theorem closed_nextPeriod (P : State → Prop) (hP : Open P) (s : State) (n : Nat) (hs : P s) : P (State.nextPeriod s n) := by
  unfold State.nextPeriod
  repeat' first
      | with_reducible assumption | with_reducible refine fun _ => ?_ | with_reducible apply hP.put | with_reducible apply closed_forEach _ hP.closed
      | with_reducible apply closed_setBal _ hP.closed | with_reducible apply closed_ifDo _ hP.closed

theorem closed_takeSample (P : State → Prop) (hP : Open P) (s : State) (n : Nat) (hs : P s) : P (State.takeSample s n) := by
  unfold State.takeSample
  repeat' first | with_reducible assumption | with_reducible refine fun _ => ?_ | with_reducible apply hP.top

theorem closed_times (P : State → Prop) (hP : Open P) (s : State) (m : Nat) (f : State → State) (hs : P s) (hf : ∀ x0, P x0 → P (f x0)) :
    P (State.times s m f) := by
  unfold State.times
  repeat' first | with_reducible assumption | with_reducible refine fun _ => ?_ | with_reducible apply hf | with_reducible apply closed_forEach _ hP.closed

theorem closed_loopClock (P : State → Prop) (hP : Open P) (s : State) (n : Nat) (hs : P s) : P (State.loopClock s n) := by
  unfold State.loopClock
  repeat' first
      | with_reducible assumption | with_reducible refine fun _ => ?_ | with_reducible apply hP.put | with_reducible apply closed_nextPeriod _ hP
      | with_reducible apply closed_takeSample _ hP | with_reducible apply closed_times _ hP

theorem closed_loopStopped (P : State → Prop) (hP : Open P) (s : State) (n : Nat) (hs : P s) : P (State.loopStopped s n) := by
  unfold State.loopStopped
  repeat' first
      | with_reducible assumption | with_reducible apply closed_finishStop _ hP.closed | with_reducible apply closed_loopStart _ hP
      | with_reducible apply closed_loopOff _ hP.closed | with_reducible apply closed_ite | split

theorem closed_pgHigh (P : State → Prop) (hP : Open P) (s : State) (n : Nat) (hs : P s) : P (State.pgHigh s n) := by
  unfold State.pgHigh
  repeat' first
      | with_reducible assumption | with_reducible refine fun _ => ?_ | with_reducible apply hP.put | with_reducible apply closed_pgChange _ hP.closed
      | with_reducible apply closed_ifDo _ hP.closed

theorem closed_pgTick (P : State → Prop) (hP : Open P) (s : State) (n : Nat) (hs : P s) : P (State.pgTick s n) := by
  unfold State.pgTick
  repeat' first
      | with_reducible assumption | with_reducible apply hP.put | with_reducible apply closed_pgLow _ hP.closed | with_reducible apply closed_pgHigh _ hP
      | with_reducible apply closed_ite

theorem closed_rampTick (P : State → Prop) (hP : Open P) (s : State) (n : Nat) (hs : P s) : P (State.rampTick s n) := by
  unfold State.rampTick
  repeat' first | with_reducible assumption | with_reducible apply hP.put | with_reducible apply closed_ite

theorem closed_tryGoods (P : State → Prop) (hP : Open P) (s : State) (p : Nat → Bool) (hs : P s) : P (State.tryGoods s p) := by
  unfold State.tryGoods
  repeat' first | with_reducible assumption | with_reducible apply closed_tryGood _ hP.closed | with_reducible apply closed_forEach _ hP.closed

theorem closed_softEnds (P : State → Prop) (hP : Open P) (s : State) (n : Nat) (hs : P s) : P (State.softEnds s n) := by
  unfold State.softEnds
  repeat' first | with_reducible assumption | with_reducible apply hP.put | with_reducible apply closed_tryGoods _ hP

theorem closed_loopUs (P : State → Prop) (hP : Open P) (s : State) (n : Nat) (hs : P s) : P (State.loopUs s n) := by
  unfold State.loopUs
  repeat' first
      | with_reducible assumption | with_reducible refine fun _ => ?_ | with_reducible apply closed_softEnds _ hP
      | with_reducible apply closed_rampTick _ hP | with_reducible apply closed_loopStopped _ hP | with_reducible apply closed_loopClock _ hP
      | with_reducible apply closed_ifDo _ hP.closed | with_reducible apply closed_pgTick _ hP | with_reducible apply closed_eventEnds _ hP
      | with_reducible apply closed_ite | split

theorem closed_fastUs (P : State → Prop) (hP : Open P) (s : State) (hs : P s) : P (State.fastUs s) := by
  unfold State.fastUs
  repeat' first
      | with_reducible assumption | with_reducible apply closed_forEach _ hP.closed | with_reducible apply closed_loopUs _ hP
      | with_reducible apply closed_passTnow _ hP

theorem closed_fclkOn (P : State → Prop) (hP : Open P) (s : State) (hs : P s) : P (State.fclkOn s) := hP.put _ _ _ _ (hP.keep _ _ hs)

theorem closed_upgrade (P : State → Prop) (hP : Open P) (s : State) (i : Nat) (hs : P s) : P (State.upgrade s i) := by
  unfold State.upgrade
  repeat' first
      | with_reducible assumption | with_reducible apply hP.put | with_reducible apply closed_qualify _ hP | with_reducible apply closed_setInSt _ hP
      | with_reducible apply closed_selectInput _ hP | split

theorem closed_feed (P : State → Prop) (hP : Open P) (s : State) (i : Nat) (hs : P s) : P (State.feed s i) := by
  unfold State.feed
  repeat' first
      | with_reducible assumption | with_reducible refine fun _ => ?_ | with_reducible apply hP.put | with_reducible apply closed_qualify _ hP
      | with_reducible apply closed_ifDo _ hP.closed | with_reducible apply closed_setInSt _ hP | with_reducible apply closed_upgrade _ hP

theorem closed_findHead (P : State → Prop) (hP : Open P) (s : State) (hs : P s) : P (State.findHead s) := by
  unfold State.findHead
  repeat' first | with_reducible assumption | with_reducible apply hP.put | with_reducible apply closed_ite

theorem closed_firstLook (P : State → Prop) (hP : Open P) (s : State) (st : Nat) (timeUp : Bool) (hs : P s) : P (State.firstLook s st timeUp) := by
  unfold State.firstLook
  repeat' first | with_reducible assumption | with_reducible apply closed_endWait _ hP | with_reducible apply closed_setSl _ hP | split

theorem closed_swapDone (P : State → Prop) (hP : Open P) (s : State) (x : Nat) (hs : P s) : P (State.swapDone s x) := by
  unfold State.swapDone
  repeat' first | with_reducible assumption | with_reducible apply hP.put | with_reducible apply open_portFlag _ hP

theorem closed_flipData (P : State → Prop) (hP : Open P) (s : State) (x : Nat) (hs : P s) : P (State.flipData s x) := by
  unfold State.flipData
  repeat' first | with_reducible assumption | with_reducible apply hP.put | with_reducible apply closed_swapDone _ hP

theorem closed_frameBad (P : State → Prop) (hP : Open P) (s : State) (hs : P s) : P (State.frameBad s) := by
  unfold State.frameBad
  repeat' first | with_reducible assumption | with_reducible apply hP.put

theorem closed_gaugeCorrect (P : State → Prop) (hP : Open P) (s : State) (z sv : Rat) (hs : P s) : P (State.gaugeCorrect s z sv) := by
  unfold State.gaugeCorrect
  repeat' first | with_reducible assumption | with_reducible refine fun _ => ?_ | with_reducible apply hP.top

theorem closed_gaugeLearn (P : State → Prop) (hP : Open P) (s : State) (hs : P s) : P (State.gaugeLearn s) := by
  unfold State.gaugeLearn
  repeat' first
      | with_reducible assumption | with_reducible refine fun _ => ?_ | exact trivial | with_reducible apply hP.put | with_reducible apply open_sat _ hP
      | with_reducible apply closed_jrnlLearn _ hP | split | with_reducible apply hP.top | rfl

theorem closed_gaugeLoad (P : State → Prop) (hP : Open P) (s : State) (r : Option (List (BitVec 8))) (hs : P s) : P (State.gaugeLoad s r) := by
  unfold State.gaugeLoad
  repeat' first
      | with_reducible assumption | with_reducible refine fun _ => ?_ | with_reducible apply hP.put | with_reducible apply closed_raise _ hP.closed | split
      | with_reducible apply hP.top | rfl

theorem closed_gaugePredict (P : State → Prop) (hP : Open P) (s : State) (dq : Rat) (hs : P s) : P (State.gaugePredict s dq) := by
  unfold State.gaugePredict
  repeat' first | with_reducible assumption | with_reducible refine fun _ => ?_ | with_reducible apply hP.top

theorem closed_learnNow (P : State → Prop) (hP : Open P) (s : State) (hs : P s) : P (State.learnNow s) := by
  unfold State.learnNow
  repeat' first
      | with_reducible assumption | with_reducible refine fun _ => ?_ | exact trivial | with_reducible apply closed_gaugeLearn _ hP | split
      | with_reducible apply hP.top | rfl

theorem closed_ocvX (P : State → Prop) (hP : Open P) (s : State) (z : Rat) (hs : P s) : P (State.ocvX s z).2 := by
  unfold State.ocvX
  repeat' first
      | with_reducible assumption
      | (lift_lets; intro x; (first | have hx : P x.2 := by (repeat' first | with_reducible assumption | exact trivial | with_reducible apply closed_drawFree _ hP | split) | have hx : True := trivial); clear_value x)
      | exact trivial | split

theorem closed_gaugeRef (P : State → Prop) (hP : Open P) (s : State) (relaxed : Bool) (z sv : Rat) (last : Nat) (hs : P s) :
    P (State.gaugeRef s relaxed z sv last) := by
  unfold State.gaugeRef
  repeat' first
      | with_reducible assumption | with_reducible refine fun _ => ?_ | exact trivial | with_reducible apply hP.put | with_reducible apply closed_ocvX _ hP
      | with_reducible apply open_sat _ hP | with_reducible apply closed_learnNow _ hP | with_reducible apply closed_ifDo _ hP.closed
      | with_reducible apply closed_gaugeCorrect _ hP | with_reducible apply closed_ite | split | with_reducible apply hP.top | rfl
      | with_reducible apply wf_measWords | with_reducible apply wf_loadWords | with_reducible apply wf_copyCells

theorem closed_xEmpty (P : State → Prop) (hP : Open P) (s : State) (hs : P s) : P (State.xEmpty s).2 := by
  unfold State.xEmpty
  repeat' first | with_reducible assumption | with_reducible apply closed_ocvX _ hP

theorem closed_gaugeReport (P : State → Prop) (hP : Open P) (s : State) (hs : P s) : P (State.gaugeReport s) := by
  unfold State.gaugeReport
  repeat' first
      | with_reducible assumption | with_reducible refine fun _ => ?_ | exact trivial | with_reducible apply hP.put
      | with_reducible apply closed_xEmpty _ hP | with_reducible apply open_mark _ hP | split | with_reducible apply hP.top | rfl

theorem closed_gaugeStep (P : State → Prop) (hP : Open P) (s : State) (r : StepRef) (hs : P s) : P (State.gaugeStep s r) := by
  unfold State.gaugeStep
  repeat' first
      | with_reducible assumption | with_reducible refine fun _ => ?_ | with_reducible apply closed_gaugeRef _ hP | split | with_reducible apply hP.top
      | rfl

theorem closed_level (P : State → Prop) (hP : Open P) (s : State) (bit : Fld) (use : Bool) (thr : Rat) (src : Nat) (hs : P s) :
    P (State.level s bit use thr src) := by
  unfold State.level
  repeat' first
      | with_reducible assumption | with_reducible refine fun _ => ?_ | with_reducible apply hP.put | with_reducible apply closed_ifDo _ hP.closed
      | with_reducible apply closed_irq _ hP.closed | split

theorem closed_levels (P : State → Prop) (hP : Open P) (s : State) (hs : P s) : P (State.levels s) := by
  unfold State.levels
  repeat' first | with_reducible assumption | with_reducible apply closed_level _ hP | split

theorem closed_slowTnow (P : State → Prop) (hP : Open P) (s : State) (hs : P s) : P (State.slowTnow s) := by
  unfold State.slowTnow
  repeat' first | with_reducible assumption | with_reducible apply hP.put | with_reducible apply closed_passTnow _ hP

theorem closed_timedDue (P : State → Prop) (hP : Open P) (s : State) (hs : P s) : P (State.timedDue s) := by
  unfold State.timedDue
  repeat' first
      | with_reducible assumption | with_reducible apply hP.put | with_reducible apply closed_demand _ hP.closed
      | with_reducible apply closed_stageOther _ hP.closed

theorem closed_timedTick (P : State → Prop) (hP : Open P) (s : State) (hs : P s) : P (State.timedTick s) := by
  unfold State.timedTick
  repeat' first | with_reducible assumption | with_reducible apply closed_timedDue _ hP | with_reducible apply closed_ifDo _ hP.closed

theorem closed_tmTick (P : State → Prop) (hP : Open P) (s : State) (n : Nat) (hs : P s) : P (State.tmTick s n) := by
  unfold State.tmTick
  repeat' first
      | with_reducible assumption | with_reducible refine fun _ => ?_ | with_reducible apply closed_tmArrive _ hP
      | with_reducible apply closed_tmCommit _ hP | with_reducible apply closed_ifDo _ hP.closed | split

theorem closed_tokenTick (P : State → Prop) (hP : Open P) (s : State) (hs : P s) : P (State.tokenTick s) := by
  unfold State.tokenTick
  repeat' first
      | with_reducible assumption | with_reducible refine fun _ => ?_ | with_reducible apply open_sat _ hP | with_reducible apply closed_ifDo _ hP.closed

theorem closed_slowPeriod (P : State → Prop) (hP : Open P) (s : State) (hs : P s) : P (State.slowPeriod s) := by
  unfold State.slowPeriod
  repeat' first
      | with_reducible assumption | with_reducible refine fun _ => ?_ | with_reducible apply hP.put | with_reducible apply closed_almFire _ hP
      | with_reducible apply closed_slowTick _ hP | with_reducible apply closed_forEach _ hP.closed | with_reducible apply closed_timedTick _ hP
      | with_reducible apply closed_tmTick _ hP | with_reducible apply closed_bkDrain _ hP | with_reducible apply closed_ifDo _ hP.closed
      | with_reducible apply closed_tokenTick _ hP | with_reducible apply closed_slowTnow _ hP | with_reducible apply closed_ite | split

theorem closed_slowUs (P : State → Prop) (hP : Open P) (s : State) (hs : P s) : P (State.slowUs s) := by
  unfold State.slowUs
  repeat' first
      | with_reducible assumption | with_reducible apply hP.put | with_reducible apply closed_slowPeriod _ hP
      | with_reducible apply closed_ifDo _ hP.closed

theorem closed_idle (P : State → Prop) (hP : Open P) (s : State) (hs : P s) : P (State.idle s) := by
  unfold State.idle
  repeat' first
      | with_reducible assumption | with_reducible apply closed_fastUs _ hP | with_reducible apply closed_slowUs _ hP
      | with_reducible apply closed_ifDo _ hP.closed | with_reducible apply closed_blanksEnd _ hP | with_reducible apply closed_criersBack _ hP
      | with_reducible apply closed_ite

theorem closed_putCtrs (P : State → Prop) (hP : Open P) (s : State) (n : Nat) (l : List Nat) (hs : P s) : P (State.putCtrs s n l) := by
  unfold State.putCtrs
  repeat' first
      | with_reducible assumption | with_reducible refine fun _ => ?_ | with_reducible apply hP.put | with_reducible apply closed_forEach _ hP.closed
      | with_reducible apply closed_ifDo _ hP.closed

theorem closed_judge (P : State → Prop) (hP : Open P) (s : State) (n v tag : Nat) (hs : P s) : P (State.judge s n v tag) := by
  unfold State.judge
  repeat' first | with_reducible assumption | with_reducible apply hP.put | with_reducible apply closed_putCtrs _ hP

theorem closed_railCount (P : State → Prop) (hP : Open P) (s : State) (r : Nat) (hs : P s) : P (State.railCount s r) := by
  unfold State.railCount
  repeat' first | with_reducible assumption | with_reducible apply hP.put

theorem closed_pmSet (P : State → Prop) (hP : Open P) (s : State) (f : Fld) (p bit : Nat) (hs : P s) : P (State.pmSet s f p bit) := by
  unfold State.pmSet
  repeat' first
      | with_reducible assumption | with_reducible refine fun _ => ?_ | with_reducible apply hP.put | with_reducible apply open_setBit _ hP
      | with_reducible apply closed_ifDo _ hP.closed

theorem closed_pmLatch (P : State → Prop) (hP : Open P) (s : State) (n zone : Nat) (hs : P s) : P (State.pmLatch s n zone) := by
  unfold State.pmLatch
  repeat' first
      | with_reducible assumption | with_reducible refine fun _ => ?_ | with_reducible apply closed_forEach _ hP.closed
      | with_reducible apply closed_pmSet _ hP | with_reducible apply closed_ifDo _ hP.closed | split

theorem closed_zoneFault (P : State → Prop) (hP : Open P) (s : State) (n zone : Nat) (hs : P s) : P (State.zoneFault s n zone) := by
  unfold State.zoneFault
  repeat' first
      | with_reducible assumption | with_reducible refine fun _ => ?_ | with_reducible apply closed_forEach _ hP.closed
      | with_reducible apply closed_ifDo _ hP.closed | with_reducible apply closed_railFault _ hP.closed

theorem closed_zoneTo (P : State → Prop) (hP : Open P) (s : State) (n zone : Nat) (hs : P s) : P (State.zoneTo s n zone) := by
  unfold State.zoneTo
  repeat' first
      | with_reducible assumption | with_reducible refine fun _ => ?_ | with_reducible apply hP.put | with_reducible apply closed_raise _ hP.closed
      | with_reducible apply closed_ifDo _ hP.closed | with_reducible apply closed_pmLatch _ hP | with_reducible apply closed_irq _ hP.closed
      | with_reducible apply closed_zoneFault _ hP

theorem closed_judgeAll (P : State → Prop) (hP : Open P) (s : State) (vals : List (Nat × Nat)) (tag : Nat) (hs : P s) : P (State.judgeAll s vals tag) := by
  unfold State.judgeAll
  repeat' first
      | with_reducible assumption | with_reducible refine fun _ => ?_ | exact trivial | with_reducible apply hP.put
      | with_reducible apply closed_tryGoods _ hP | with_reducible apply closed_railCount _ hP | with_reducible apply closed_zoneTo _ hP
      | with_reducible apply closed_endBlind _ hP | with_reducible apply closed_forEach _ hP.closed | with_reducible apply closed_ifDo _ hP.closed
      | with_reducible apply closed_crierCheck _ hP | with_reducible apply closed_judge _ hP | with_reducible apply closed_foldl | split

theorem closed_zeroTake (P : State → Prop) (hP : Open P) (s : State) (x : Nat) (z : Int) (hs : P s) : P (State.zeroTake s x z) := by
  unfold State.zeroTake
  repeat' first
      | with_reducible assumption | with_reducible refine fun _ => ?_ | with_reducible apply hP.put | with_reducible apply closed_forEach _ hP.closed

theorem closed_zerosTake (P : State → Prop) (hP : Open P) (s : State) (m : ScanSample) (hs : P s) : P (State.zerosTake s m) := by
  unfold State.zerosTake
  repeat' first
      | with_reducible assumption | with_reducible refine fun _ => ?_ | with_reducible apply closed_forEach _ hP.closed
      | with_reducible apply closed_zeroTake _ hP

theorem closed_scanJudge (P : State → Prop) (hP : Open P) (s : State) (m : ScanSample) (hs : P s) : P (State.scanJudge s m).2 := by
  unfold State.scanJudge
  have hz : P (s.zerosTake m) := closed_zerosTake P hP _ _ hs
  lift_lets
  intro live vals z bad
  change P z at hz
  clear_value z bad
  have h : P ((z.checks m).put Reg.SCN_COUNT_COUNT 0 (z.get Reg.SCN_COUNT_COUNT 0 + 1)) := hP.put _ _ _ _ (closed_checks P hP _ _ hz)
  intro liveBad tag t noCheck n
  change P t at h
  have hn : ∀ u, P u → P (noCheck u) := fun u hu => closed_forEach P hP.closed u _ _ hu (fun _ _ h => hP.put _ _ _ _ h)
  have hr : ∀ u l, P u → P (State.forEach u l State.convFlt) :=
    fun u l hu => closed_forEach P hP.closed u _ _ hu (fun _ _ h => closed_convFlt P hP _ _ h)
  clear_value t noCheck
  repeat' first
      | with_reducible assumption | with_reducible apply hr | with_reducible apply hn | with_reducible apply hP.put
      | with_reducible apply closed_ifDo _ hP.closed | with_reducible apply closed_raise _ hP.closed | with_reducible apply closed_irq _ hP.closed
      | with_reducible apply closed_judgeAll _ hP | with_reducible apply closed_fenceConv _ hP | with_reducible apply closed_enterBlind _ hP
      | with_reducible apply closed_forEach _ hP.closed | split | intro _

theorem closed_scanEnd (P : State → Prop) (hP : Open P) (s : State) (m : ScanSample) (hs : P s) : P (State.scanEnd s m) := by
  unfold State.scanEnd
  repeat' first
      | with_reducible assumption | with_reducible apply hP.put | with_reducible apply closed_scanStart _ hP | with_reducible apply closed_scanJudge _ hP
      | with_reducible apply closed_ite

theorem closed_searchEnd (P : State → Prop) (hP : Open P) (s : State) (res : Nat) (hs : P s) : P (State.searchEnd s res) := by
  unfold State.searchEnd
  repeat' first
      | with_reducible assumption | with_reducible apply hP.put | with_reducible apply open_flag _ hP | with_reducible apply closed_feed _ hP
      | with_reducible apply closed_irq _ hP.closed

theorem closed_searchStep (P : State → Prop) (hP : Open P) (s : State) (dip inReg : Bool) (hs : P s) : P (State.searchStep s dip inReg) := by
  unfold State.searchStep
  repeat' first
      | with_reducible assumption | with_reducible refine fun _ => ?_ | with_reducible apply hP.put | with_reducible apply closed_searchEnd _ hP
      | with_reducible apply closed_ifDo _ hP.closed | with_reducible apply closed_dipLimit _ hP | with_reducible apply closed_ite

theorem closed_shutdownStep (P : State → Prop) (hP : Open P) (s : State) (hs : P s) : P (State.shutdownStep s) := by
  unfold State.shutdownStep
  repeat' first
      | with_reducible assumption | with_reducible refine fun _ => ?_ | exact trivial | with_reducible apply hP.put
      | with_reducible apply closed_branchTop _ hP.closed | with_reducible apply closed_sdTop _ hP.closed | with_reducible apply closed_railOff _ hP.closed
      | with_reducible apply closed_enterOff _ hP.closed | with_reducible apply closed_ite | split | with_reducible apply hP.top | rfl
      | with_reducible apply wf_loadWords | with_reducible apply wf_copyCells

theorem closed_shutdownTimeout (P : State → Prop) (hP : Open P) (s : State) (hs : P s) : P (State.shutdownTimeout s) := by
  unfold State.shutdownTimeout
  repeat' first | with_reducible assumption | with_reducible apply closed_raise _ hP.closed | with_reducible apply closed_release _ hP.closed

theorem closed_prStart (P : State → Prop) (hP : Open P) (s : State) (x : Nat) (hs : P s) : P (State.prStart s x) := by
  unfold State.prStart
  repeat' first
      | with_reducible assumption | with_reducible apply hP.put | with_reducible apply closed_protoReset _ hP.closed
      | with_reducible apply closed_noContract _ hP.closed | with_reducible apply closed_portEnds _ hP | with_reducible apply closed_sourceOff _ hP.closed
      | split

theorem closed_spiFrame (P : State → Prop) (hP : Open P) (s : State) (w : Writer) (hs : P s) : P (State.spiFrame s w) := by
  unfold State.spiFrame
  repeat' first | with_reducible assumption | with_reducible refine fun _ => ?_ | with_reducible apply hP.put | with_reducible apply closed_ifDo _ hP.closed

theorem closed_sense (P : State → Prop) (hP : Open P) (s : State) (n : Nat) (m : LoopSense) (hs : P s) : P (State.sense s n m) := by
  unfold State.sense
  repeat' first | with_reducible assumption | with_reducible refine fun _ => ?_ | with_reducible apply hP.put | with_reducible apply closed_foldl

theorem closed_smbSend (P : State → Prop) (hP : Open P) (s : State) (cmd : BitVec 8) (data : List (BitVec 8)) (hs : P s) : P (State.smbSend s cmd data) := by
  unfold State.smbSend
  repeat' first | with_reducible assumption | with_reducible refine fun _ => ?_ | with_reducible apply hP.top

theorem closed_nack (P : State → Prop) (hP : Open P) (s : State) (bit : Nat) (hs : P s) : P (State.nack s bit) := by
  unfold State.nack
  repeat' first
      | with_reducible assumption | with_reducible refine fun _ => ?_ | with_reducible apply closed_cml _ hP | split | with_reducible apply hP.top | rfl

theorem closed_phaseFrom (P : State → Prop) (hP : Open P) (s : State) (vbat : Nat) (hs : P s) : P (State.phaseFrom s vbat) := by
  unfold State.phaseFrom
  repeat' first
      | with_reducible assumption | with_reducible apply closed_setPhase _ hP.closed | with_reducible apply open_mark _ hP
      | with_reducible apply closed_ite

theorem closed_phaseMove (P : State → Prop) (hP : Open P) (s : State) (vbat : Nat) (hs : P s) : P (State.phaseMove s vbat) := by
  unfold State.phaseMove
  repeat' first
      | with_reducible assumption
      | (lift_lets; intro x; (first | have hx : P x := by (repeat' first | with_reducible assumption | with_reducible refine fun _ => ?_ | exact trivial | with_reducible apply hP.put | with_reducible apply closed_ifDo _ hP.closed | with_reducible apply open_mark _ hP | with_reducible apply closed_ite | split) | have hx : True := trivial); clear_value x)
      | with_reducible refine fun _ => ?_ | exact trivial | with_reducible apply hP.put | with_reducible apply closed_phaseFrom _ hP
      | with_reducible apply closed_setPhase _ hP.closed | with_reducible apply closed_ifDo _ hP.closed | split

theorem closed_relatch (P : State → Prop) (hP : Open P) (s : State) (p : Nat) (hs : P s) : P (State.relatch s p) := by
  unfold State.relatch
  repeat' first
      | with_reducible assumption | with_reducible refine fun _ => ?_ | with_reducible apply closed_pmSet _ hP
      | with_reducible apply closed_ifDo _ hP.closed | split

theorem closed_pageClear (P : State → Prop) (hP : Open P) (s : State) (p : Nat) (hs : P s) : P (State.pageClear s p) := by
  unfold State.pageClear
  repeat' first | with_reducible assumption | with_reducible apply hP.put | with_reducible apply closed_relatch _ hP

theorem closed_smbWrite (P : State → Prop) (hP : Open P) (s : State) (cmd : BitVec 8) (data : List (BitVec 8)) (pec : Option (BitVec 8)) (f : State → State) (hs : P s) (hf : ∀ x0, P x0 → P (f x0)) :
    P (State.smbWrite s cmd data pec f) := by
  unfold State.smbWrite
  repeat' first
      | with_reducible assumption | with_reducible refine fun _ => ?_ | with_reducible apply hP.put | with_reducible apply hf
      | with_reducible apply closed_cml _ hP | split | with_reducible apply hP.top | rfl

theorem closed_openSession (P : State → Prop) (hP : Open P) (s : State) (k : Nat) (hs : P s) : P (State.openSession s k) := by
  unfold State.openSession
  repeat' first | with_reducible assumption | with_reducible apply hP.put | with_reducible apply closed_raise _ hP.closed

theorem closed_respond (P : State → Prop) (hP : Open P) (s : State) (scope : Nat) (key sig : BitVec 512) (hs : P s) : P (State.respond s scope key sig) := by
  unfold State.respond
  repeat' first
      | with_reducible assumption | with_reducible apply hP.put | with_reducible apply open_mark _ hP | with_reducible apply closed_spendNonce _ hP | split

theorem closed_respondEnd (P : State → Prop) (hP : Open P) (s : State) (hs : P s) : P (State.respondEnd s) := by
  unfold State.respondEnd
  repeat' first
      | with_reducible assumption | with_reducible apply hP.put | with_reducible apply open_sat _ hP | with_reducible apply closed_openSession _ hP
      | with_reducible apply closed_spendNonce _ hP | with_reducible apply closed_ite

theorem closed_keepArch (P : State → Prop) (hP : Open P) (s old : State) (st : Nat) (hs : P s) : P (State.keepArch s old st) := by
  unfold State.keepArch
  repeat' first
      | with_reducible assumption | with_reducible refine fun _ => ?_ | with_reducible apply hP.put | with_reducible apply closed_forEach _ hP.closed
      | with_reducible apply closed_foldl

theorem closed_spareLost (P : State → Prop) (hP : Open P) (s : State) (hs : P s) : P (State.spareLost s) := by
  unfold State.spareLost
  repeat' first
      | with_reducible assumption | with_reducible apply hP.put | with_reducible apply closed_fencePair _ hP
      | with_reducible apply closed_raise _ hP.closed

theorem closed_takeover (P : State → Prop) (hP : Open P) (s : State) (st : Nat) (issued : Bool) (hs : P s) : P (State.takeover s st issued) := by
  unfold State.takeover
  repeat' first
      | with_reducible assumption | with_reducible apply hP.put | with_reducible apply open_sat _ hP | with_reducible apply closed_fencePair _ hP
      | with_reducible apply closed_raise _ hP.closed | with_reducible apply closed_setSl _ hP | with_reducible apply closed_spareFor _ hP

theorem closed_mismatch (P : State → Prop) (hP : Open P) (s : State) (p : Nat) (issued : Bool) (hs : P s) : P (State.mismatch s p issued) := by
  unfold State.mismatch
  repeat' first
      | with_reducible assumption | with_reducible apply closed_secondFailure _ hP | with_reducible apply closed_bootMismatch _ hP
      | with_reducible apply closed_takeover _ hP | with_reducible apply closed_ifDo _ hP.closed | with_reducible apply closed_spareLost _ hP | split

theorem closed_runOne (P : State → Prop) (hP : Open P) (s : State) (st : Nat) (f : State → State) (hs : P s) (hf : ∀ x0, P x0 → P (f x0)) :
    P (State.runOne s st f) := by
  unfold State.runOne
  repeat' first
      | with_reducible assumption | with_reducible apply hP.put | with_reducible apply hf | with_reducible apply closed_keepArch _ hP
      | with_reducible apply closed_mismatch _ hP | with_reducible apply closed_ite

theorem closed_opAdd (P : State → Prop) (hP : Open P) (st : Stl) (rd ra rb : RegN) (s : State) (hs : P s) : P (opAdd st rd ra rb s) := by
  unfold opAdd
  repeat' first | with_reducible assumption | with_reducible apply closed_alu _ hP

theorem closed_opAddi (P : State → Prop) (hP : Open P) (st : Stl) (rd ra : RegN) (imm : BitVec 14) (s : State) (hs : P s) : P (opAddi st rd ra imm s) := by
  unfold opAddi
  repeat' first | with_reducible assumption | with_reducible apply closed_alu _ hP

theorem closed_refuse (P : State → Prop) (hP : Open P) (s : State) (src : Nat) (hs : P s) : P (State.refuse s src).after := by
  unfold State.refuse
  repeat' first | with_reducible assumption | with_reducible apply closed_raise _ hP.closed

theorem closed_confirm (P : State → Prop) (hP : Open P) (s : State) (hs : P s) : P (confirm s).after := by
  unfold confirm
  repeat' first | with_reducible assumption

theorem closed_keeperDoes (P : State → Prop) (hP : Open P) (s : State) (why : Nat) (r : Option Nat) (f : State → State) (hs : P s) (hf : ∀ x0, P x0 → P (f x0)) :
    P (State.keeperDoes s why r f).after := by
  unfold State.keeperDoes
  repeat' first
      | with_reducible assumption | with_reducible apply hP.put | with_reducible apply hf | with_reducible apply closed_refuse _ hP
      | with_reducible apply closed_confirm _ hP | split

theorem closed_onUnit (P : State → Prop) (hP : Open P) (s : State) (u : Option Nat) (why : State → Nat → Nat) (f : Nat → State → State) (hs : P s) (hf : ∀ x0 x1, P x1 → P (f x0 x1)) :
    P (State.onUnit s u why f).after := by
  unfold State.onUnit
  repeat' first | with_reducible assumption | with_reducible apply hf | with_reducible apply closed_keeperDoes _ hP | split | with_reducible apply closed_id

theorem closed_sideEffect (P : State → Prop) (hP : Open P) (s : State) (st c : Nat) (f : State → Answer) (g : Bool → Nat → State → State) (hs : P s) (hf : ∀ x0, P x0 → P ((f x0).after)) (hg : ∀ x0 x1 x2, P x2 → P (g x0 x1 x2)) :
    P (State.sideEffect s st c f g) := by
  unfold State.sideEffect
  repeat' first
      | with_reducible assumption | with_reducible refine fun _ => ?_ | with_reducible apply hP.put | with_reducible apply hg
      | with_reducible apply closed_retire _ hP | with_reducible apply closed_complete1 _ hP | with_reducible apply closed_ifDo _ hP.closed

theorem closed_railAction (P : State → Prop) (hP : Open P) (s : State) (st : Nat) (cls : BitVec 4) (f : State → Answer) (hs : P s) (hf : ∀ x0, P x0 → P ((f x0).after)) :
    P (State.railAction s st cls f) := by
  unfold State.railAction
  repeat' first
      | with_reducible assumption | with_reducible refine fun _ => ?_ | with_reducible apply closed_unlessFault _ hP
      | with_reducible apply closed_sideEffect _ hP

theorem closed_opAdmit (P : State → Prop) (hP : Open P) (st : Stl) (cls : BitVec 4) (unit : BitVec 8) (s : State) (hs : P s) : P (opAdmit st cls unit s) := by
  unfold opAdmit
  repeat' first
      | with_reducible assumption | with_reducible refine fun _ => ?_ | with_reducible apply closed_doAdmit _ hP | with_reducible apply closed_onUnit _ hP
      | with_reducible apply closed_railAction _ hP

theorem closed_opAnd (P : State → Prop) (hP : Open P) (st : Stl) (rd ra rb : RegN) (s : State) (hs : P s) : P (opAnd st rd ra rb s) := by
  unfold opAnd
  repeat' first | with_reducible assumption | with_reducible apply closed_alu _ hP

theorem closed_opAndi (P : State → Prop) (hP : Open P) (st : Stl) (rd ra : RegN) (imm : BitVec 14) (s : State) (hs : P s) : P (opAndi st rd ra imm s) := by
  unfold opAndi
  repeat' first | with_reducible assumption | with_reducible apply closed_alu _ hP

theorem closed_opAsr (P : State → Prop) (hP : Open P) (st : Stl) (rd ra rb : RegN) (s : State) (hs : P s) : P (opAsr st rd ra rb s) := by
  unfold opAsr
  repeat' first | with_reducible assumption | with_reducible apply closed_alu _ hP

theorem closed_opAsri (P : State → Prop) (hP : Open P) (st : Stl) (rd ra : RegN) (imm : BitVec 14) (s : State) (hs : P s) : P (opAsri st rd ra imm s) := by
  unfold opAsri
  repeat' first | with_reducible assumption | with_reducible apply closed_aluImm _ hP

theorem closed_opBr (P : State → Prop) (hP : Open P) (st : Stl) (cond : BitVec 4) (off : BitVec 20) (s : State) (hs : P s) : P (opBr st cond off s) := by
  unfold opBr
  repeat' first | with_reducible assumption | with_reducible apply closed_branchTo _ hP | with_reducible apply closed_id

theorem closed_pushCall (P : State → Prop) (hP : Open P) (s : State) (st a : Nat) (hs : P s) : P (State.pushCall s st a) := by
  unfold State.pushCall
  repeat' first | with_reducible assumption | with_reducible apply hP.put

theorem closed_opCall (P : State → Prop) (hP : Open P) (st : Stl) (cond : BitVec 4) (off : BitVec 20) (s : State) (hs : P s) : P (opCall st cond off s) := by
  unfold opCall
  repeat' first
      | with_reducible assumption | with_reducible refine fun _ => ?_ | with_reducible apply closed_pushCall _ hP
      | with_reducible apply closed_branchTo _ hP

theorem closed_opCmp (P : State → Prop) (hP : Open P) (st : Stl) (ra rb : RegN) (s : State) (hs : P s) : P (opCmp st ra rb s) := by
  unfold opCmp
  repeat' first | with_reducible assumption | with_reducible apply closed_aluFlags _ hP

theorem closed_opCmpi (P : State → Prop) (hP : Open P) (st : Stl) (ra : RegN) (imm : BitVec 14) (s : State) (hs : P s) : P (opCmpi st ra imm s) := by
  unfold opCmpi
  repeat' first | with_reducible assumption | with_reducible apply closed_aluFlags _ hP

theorem closed_opCopyb (P : State → Prop) (hP : Open P) (st : Stl) (rd ra rb : RegN) (s : State) (hs : P s) : P (opCopyb st rd ra rb s) :=
  closed_ite P _ _ _ (closed_plain P hP _ _ _ hs (fun _ h => h)) (closed_unlessFault P hP _ _ _ _ _ hs (fun _ h =>
    closed_retire P hP _ _ (hP.top _ _ _ _ _ _ _ _ _ _ _ _ _ _ _ _ _ id (wf_copyWords _ _ _ _) id h)))

theorem closed_onOutput (P : State → Prop) (hP : Open P) (s : State) (u : Option (Nat × Nat)) (why : State → Nat → Nat → Nat) (f : Nat → Nat → State → State) (hs : P s) (hf : ∀ x0 x1 x2, P x2 → P (f x0 x1 x2)) :
    P (State.onOutput s u why f).after := by
  unfold State.onOutput
  repeat' first | with_reducible assumption | with_reducible apply hf | with_reducible apply closed_keeperDoes _ hP | split | with_reducible apply closed_id

theorem closed_opDisb (P : State → Prop) (hP : Open P) (st : Stl) (cls : BitVec 4) (unit : BitVec 8) (s : State) (hs : P s) : P (opDisb st cls unit s) := by
  unfold opDisb
  repeat' first
      | with_reducible assumption | with_reducible refine fun _ => ?_ | with_reducible apply closed_doDisb _ hP
      | with_reducible apply closed_railAction _ hP | with_reducible apply closed_onOutput _ hP

theorem closed_opEnab (P : State → Prop) (hP : Open P) (st : Stl) (cls : BitVec 4) (unit : BitVec 8) (s : State) (hs : P s) : P (opEnab st cls unit s) := by
  unfold opEnab
  repeat' first
      | with_reducible assumption | with_reducible refine fun _ => ?_ | with_reducible apply closed_doEnab _ hP
      | with_reducible apply closed_railAction _ hP | with_reducible apply closed_onOutput _ hP

theorem closed_opFence (P : State → Prop) (hP : Open P) (st : Stl) (cls : BitVec 4) (unit : BitVec 8) (s : State) (hs : P s) : P (opFence st cls unit s) := by
  unfold opFence
  repeat' first
      | with_reducible assumption | with_reducible refine fun _ => ?_ | with_reducible apply closed_doFence _ hP | with_reducible apply closed_onUnit _ hP
      | with_reducible apply closed_railAction _ hP

theorem closed_opHalt (P : State → Prop) (hP : Open P) (st : Stl) (s : State) (hs : P s) : P (opHalt st s) := by
  unfold opHalt
  repeat' first
      | with_reducible assumption | with_reducible refine fun _ => ?_ | with_reducible apply closed_plain _ hP | with_reducible apply closed_setSl _ hP

theorem closed_opJr (P : State → Prop) (hP : Open P) (st : Stl) (ra : RegN) (s : State) (hs : P s) : P (opJr st ra s) := by
  unfold opJr
  repeat' first | with_reducible assumption | with_reducible apply closed_branchTo _ hP | with_reducible apply closed_id

theorem closed_zoneFlags (P : State → Prop) (hP : Open P) (s : State) (st zone : Nat) (hs : P s) : P (State.zoneFlags s st zone) := by
  unfold State.zoneFlags
  repeat' first | with_reducible assumption | with_reducible apply open_mark _ hP

theorem closed_opJudge (P : State → Prop) (hP : Open P) (st : Stl) (rd ra : RegN) (imm : BitVec 14) (s : State) (hs : P s) : P (opJudge st rd ra imm s) := by
  unfold opJudge
  repeat' first
      | with_reducible assumption | with_reducible refine fun _ => ?_ | with_reducible apply closed_retire _ hP
      | with_reducible apply closed_unlessFault _ hP | with_reducible apply closed_zoneFlags _ hP | with_reducible apply closed_setReg _ hP

theorem closed_opLd (P : State → Prop) (hP : Open P) (st : Stl) (rd ra : RegN) (imm : BitVec 14) (s : State) (hs : P s) : P (opLd st rd ra imm s) := by
  unfold opLd
  repeat' first
      | with_reducible assumption | with_reducible refine fun _ => ?_ | with_reducible apply closed_retire _ hP
      | with_reducible apply closed_unlessFault _ hP | with_reducible apply closed_setReg _ hP

theorem closed_load (P : State → Prop) (hP : Open P) (s : State) (st : Nat) (rd : RegN) (v : Word) (hs : P s) : P (State.load s st rd v) := by
  unfold State.load
  repeat' first
      | with_reducible assumption | with_reducible refine fun _ => ?_ | with_reducible apply closed_plain _ hP | with_reducible apply closed_setReg _ hP

theorem closed_opLdi (P : State → Prop) (hP : Open P) (st : Stl) (rd : RegN) (imm : BitVec 20) (s : State) (hs : P s) : P (opLdi st rd imm s) := by
  unfold opLdi
  repeat' first | with_reducible assumption | with_reducible apply closed_load _ hP

theorem closed_logRecord (P : State → Prop) (hP : Open P) (s : State) (st id mask : Nat) (user : List (BitVec 8)) (hs : P s) :
    P (State.logRecord s st id mask user).after := by
  unfold State.logRecord
  repeat' first
      | with_reducible assumption
      | (lift_lets; intro x; (first | have hx : P x.2 := by (repeat' first | with_reducible assumption | with_reducible refine fun _ => ?_ | exact trivial | with_reducible apply hP.put | with_reducible apply closed_stageOther _ hP.closed | with_reducible apply hP.drop | with_reducible apply closed_ite | split | with_reducible apply closed_id) | have hx : True := trivial); clear_value x)
      | exact trivial | with_reducible apply hP.put | with_reducible apply closed_refuse _ hP | with_reducible apply closed_confirm _ hP
      | with_reducible apply hP.drop | with_reducible apply closed_ite | split | with_reducible apply closed_id

theorem closed_opLog (P : State → Prop) (hP : Open P) (st : Stl) (rd ra : RegN) (imm : BitVec 14) (s : State) (hs : P s) : P (opLog st rd ra imm s) := by
  unfold opLog
  repeat' first
      | with_reducible assumption | with_reducible refine fun _ => ?_ | with_reducible apply closed_unlessFault _ hP
      | with_reducible apply closed_sideEffect _ hP | with_reducible apply closed_logRecord _ hP

theorem closed_opLogb (P : State → Prop) (hP : Open P) (st : Stl) (rd ra rb : RegN) (s : State) (hs : P s) : P (opLogb st rd ra rb s) := by
  unfold opLogb
  repeat' first
      | with_reducible assumption | with_reducible refine fun _ => ?_ | with_reducible apply closed_unlessFault _ hP
      | with_reducible apply closed_sideEffect _ hP | with_reducible apply closed_plain _ hP | with_reducible apply closed_logRecord _ hP
      | with_reducible apply closed_ite | with_reducible apply closed_id

theorem closed_opLui (P : State → Prop) (hP : Open P) (st : Stl) (rd : RegN) (imm : BitVec 20) (s : State) (hs : P s) : P (opLui st rd imm s) := by
  unfold opLui
  repeat' first | with_reducible assumption | with_reducible apply closed_load _ hP

theorem closed_opMeas (P : State → Prop) (hP : Open P) (st : Stl) (rd ra : RegN) (imm : BitVec 14) (s : State) (hs : P s) : P (opMeas st rd ra imm s) := by
  unfold opMeas
  repeat' first
      | with_reducible assumption | with_reducible refine fun _ => ?_ | with_reducible apply closed_retire _ hP
      | with_reducible apply closed_unlessFault _ hP | with_reducible apply closed_setReg _ hP

theorem closed_opMeasb (P : State → Prop) (hP : Open P) (st : Stl) (rd ra rb : RegN) (s : State) (hs : P s) : P (opMeasb st rd ra rb s) :=
  closed_ite P _ _ _ (closed_plain P hP _ _ _ hs (fun _ h => h)) (closed_unlessFault P hP _ _ _ _ _ hs (fun _ h =>
    closed_retire P hP _ _ (hP.top _ _ _ _ _ _ _ _ _ _ _ _ _ _ _ _ _ id (wf_measWords _ _ _ _) id h)))

theorem closed_opMul16 (P : State → Prop) (hP : Open P) (st : Stl) (rd ra rb : RegN) (s : State) (hs : P s) : P (opMul16 st rd ra rb s) := by
  unfold opMul16
  repeat' first | with_reducible assumption | with_reducible apply closed_alu _ hP

theorem closed_opOr (P : State → Prop) (hP : Open P) (st : Stl) (rd ra rb : RegN) (s : State) (hs : P s) : P (opOr st rd ra rb s) := by
  unfold opOr
  repeat' first | with_reducible assumption | with_reducible apply closed_alu _ hP

theorem closed_opOri (P : State → Prop) (hP : Open P) (st : Stl) (rd ra : RegN) (imm : BitVec 14) (s : State) (hs : P s) : P (opOri st rd ra imm s) := by
  unfold opOri
  repeat' first | with_reducible assumption | with_reducible apply closed_alu _ hP

theorem closed_opPin (P : State → Prop) (hP : Open P) (st : Stl) (rd ra : RegN) (imm : BitVec 14) (s : State) (hs : P s) : P (opPin st rd ra imm s) := by
  unfold opPin
  repeat' first
      | with_reducible assumption | with_reducible refine fun _ => ?_ | with_reducible apply closed_retire _ hP
      | with_reducible apply closed_unlessFault _ hP | with_reducible apply closed_busRead _ hP | with_reducible apply closed_complete1 _ hP
      | with_reducible apply closed_setReg _ hP | split

theorem closed_opPout (P : State → Prop) (hP : Open P) (st : Stl) (rd ra : RegN) (imm : BitVec 14) (s : State) (hs : P s) : P (opPout st rd ra imm s) := by
  unfold opPout
  repeat' first
      | with_reducible assumption | with_reducible refine fun _ => ?_ | with_reducible apply closed_unlessFault _ hP
      | with_reducible apply closed_sideEffect _ hP | with_reducible apply closed_busWrite _ hP

theorem closed_opRaise (P : State → Prop) (hP : Open P) (st : Stl) (ra : RegN) (imm : BitVec 14) (s : State) (hs : P s) : P (opRaise st ra imm s) := by
  unfold opRaise
  repeat' first
      | with_reducible assumption | with_reducible refine fun _ => ?_ | with_reducible apply closed_refuse _ hP | with_reducible apply closed_confirm _ hP
      | with_reducible apply closed_unlessFault _ hP | with_reducible apply closed_sideEffect _ hP | with_reducible apply closed_raise _ hP.closed | split

theorem closed_opRamp (P : State → Prop) (hP : Open P) (st : Stl) (cls : BitVec 4) (unit : BitVec 8) (rp : RegN) (s : State) (hs : P s) :
    P (opRamp st cls unit rp s) := by
  unfold opRamp
  repeat' first
      | with_reducible assumption | with_reducible refine fun _ => ?_ | with_reducible apply closed_railAction _ hP
      | with_reducible apply closed_doRamp _ hP | with_reducible apply closed_onOutput _ hP

theorem closed_opRdt (P : State → Prop) (hP : Open P) (st : Stl) (rd : RegN) (s : State) (hs : P s) : P (opRdt st rd s) := by
  unfold opRdt
  repeat' first | with_reducible assumption | with_reducible apply closed_load _ hP

theorem closed_receive (P : State → Prop) (hP : Open P) (s : State) (st k : Nat) (hs : P s) : P (State.receive s st k).after := by
  unfold State.receive
  repeat' first
      | with_reducible assumption | with_reducible refine fun _ => ?_ | with_reducible apply closed_ifDo _ hP.closed
      | with_reducible apply closed_mboxDrop _ hP | split

theorem closed_opRecv (P : State → Prop) (hP : Open P) (st : Stl) (rd : RegN) (imm : BitVec 14) (s : State) (hs : P s) : P (opRecv st rd imm s) := by
  unfold opRecv
  repeat' first
      | with_reducible assumption | with_reducible refine fun _ => ?_ | with_reducible apply closed_refuse _ hP
      | with_reducible apply closed_unlessFault _ hP | with_reducible apply closed_sideEffect _ hP | with_reducible apply closed_setReg _ hP
      | with_reducible apply closed_receive _ hP | with_reducible apply open_mark _ hP | split

theorem closed_opRet (P : State → Prop) (hP : Open P) (st : Stl) (s : State) (hs : P s) : P (opRet st s) := by
  unfold opRet
  repeat' first
      | with_reducible assumption | with_reducible apply hP.put | with_reducible apply closed_progFault _ hP | with_reducible apply closed_retireAt _ hP
      | with_reducible apply closed_ite

theorem closed_opSeal (P : State → Prop) (hP : Open P) (st : Stl) (s : State) (hs : P s) : P (opSeal st s) := by
  unfold opSeal
  repeat' first
      | with_reducible assumption | with_reducible refine fun _ => ?_ | with_reducible apply closed_refuse _ hP | with_reducible apply closed_confirm _ hP
      | with_reducible apply closed_unlessFault _ hP | with_reducible apply closed_sideEffect _ hP | with_reducible apply closed_closeWindow _ hP | split

theorem closed_opSend (P : State → Prop) (hP : Open P) (st : Stl) (rd ra : RegN) (imm : BitVec 14) (s : State) (hs : P s) : P (opSend st rd ra imm s) := by
  unfold opSend
  repeat' first
      | with_reducible assumption | with_reducible refine fun _ => ?_ | with_reducible apply closed_refuse _ hP | with_reducible apply closed_confirm _ hP
      | with_reducible apply closed_unlessFault _ hP | with_reducible apply closed_mboxPut _ hP | with_reducible apply closed_sideEffect _ hP | split

theorem closed_opShl (P : State → Prop) (hP : Open P) (st : Stl) (rd ra rb : RegN) (s : State) (hs : P s) : P (opShl st rd ra rb s) := by
  unfold opShl
  repeat' first | with_reducible assumption | with_reducible apply closed_alu _ hP

theorem closed_opShli (P : State → Prop) (hP : Open P) (st : Stl) (rd ra : RegN) (imm : BitVec 14) (s : State) (hs : P s) : P (opShli st rd ra imm s) := by
  unfold opShli
  repeat' first | with_reducible assumption | with_reducible apply closed_aluImm _ hP

theorem closed_opShr (P : State → Prop) (hP : Open P) (st : Stl) (rd ra rb : RegN) (s : State) (hs : P s) : P (opShr st rd ra rb s) := by
  unfold opShr
  repeat' first | with_reducible assumption | with_reducible apply closed_alu _ hP

theorem closed_opShri (P : State → Prop) (hP : Open P) (st : Stl) (rd ra : RegN) (imm : BitVec 14) (s : State) (hs : P s) : P (opShri st rd ra imm s) := by
  unfold opShri
  repeat' first | with_reducible assumption | with_reducible apply closed_aluImm _ hP

theorem closed_opSt (P : State → Prop) (hP : Open P) (st : Stl) (rd ra : RegN) (imm : BitVec 14) (s : State) (hs : P s) : P (opSt st rd ra imm s) := by
  unfold opSt
  repeat' first
      | with_reducible assumption | with_reducible refine fun _ => ?_ | exact trivial | with_reducible apply hP.put
      | with_reducible apply closed_retire _ hP | with_reducible apply closed_unlessFault _ hP | split | with_reducible apply hP.top | rfl
      | with_reducible apply wf_storeWord

theorem closed_opSub (P : State → Prop) (hP : Open P) (st : Stl) (rd ra rb : RegN) (s : State) (hs : P s) : P (opSub st rd ra rb s) := by
  unfold opSub
  repeat' first | with_reducible assumption | with_reducible apply closed_alu _ hP

theorem closed_setWait (P : State → Prop) (hP : Open P) (s : State) (st kind sel : Nat) (inv : Bool) (p : Nat) (dl : Option Nat) (hs : P s) :
    P (State.setWait s st kind sel inv p dl) := by
  unfold State.setWait
  repeat' first | with_reducible assumption | with_reducible apply hP.put | with_reducible apply open_mark _ hP | split

theorem closed_opWait (P : State → Prop) (hP : Open P) (st : Stl) (inv : Bool) (sel : BitVec 5) (ra : RegN) (tmo : BitVec 16) (s : State) (hs : P s) :
    P (opWait st inv sel ra tmo s) := by
  unfold opWait
  repeat' first
      | with_reducible assumption | with_reducible refine fun _ => ?_ | with_reducible apply closed_unlessFault _ hP
      | with_reducible apply closed_setWait _ hP | with_reducible apply closed_firstLook _ hP

theorem closed_opWaitt (P : State → Prop) (hP : Open P) (st : Stl) (inv : Bool) (sel : BitVec 5) (ra : RegN) (imm : BitVec 16) (s : State) (hs : P s) :
    P (opWaitt st inv sel ra imm s) := by
  unfold opWaitt
  repeat' first
      | with_reducible assumption | with_reducible refine fun _ => ?_ | with_reducible apply closed_unlessFault _ hP
      | with_reducible apply closed_setWait _ hP | with_reducible apply closed_firstLook _ hP

theorem closed_opXor (P : State → Prop) (hP : Open P) (st : Stl) (rd ra rb : RegN) (s : State) (hs : P s) : P (opXor st rd ra rb s) := by
  unfold opXor
  repeat' first | with_reducible assumption | with_reducible apply closed_alu _ hP

theorem closed_opXori (P : State → Prop) (hP : Open P) (st : Stl) (rd ra : RegN) (imm : BitVec 14) (s : State) (hs : P s) : P (opXori st rd ra imm s) := by
  unfold opXori
  repeat' first | with_reducible assumption | with_reducible apply closed_alu _ hP

theorem closed_opYield (P : State → Prop) (hP : Open P) (st : Stl) (s : State) (hs : P s) : P (opYield st s) := by
  unfold opYield
  repeat' first
      | with_reducible assumption | with_reducible refine fun _ => ?_ | with_reducible apply closed_unlessFault _ hP
      | with_reducible apply closed_setWait _ hP | with_reducible apply closed_firstLook _ hP

theorem closed_opOf (P : State → Prop) (hP : Open P) (i : Instr) (s : State) (hs : P s) : P (opOf i s) := by
  unfold opOf
  repeat' first
      | with_reducible assumption | with_reducible refine fun _ => ?_ | exact trivial | with_reducible apply hP.put
      | with_reducible apply closed_opWaitt _ hP | with_reducible apply closed_opShl _ hP | with_reducible apply closed_opAdmit _ hP
      | with_reducible apply closed_opMul16 _ hP | with_reducible apply closed_opRdt _ hP | with_reducible apply closed_opDisb _ hP
      | with_reducible apply closed_opRecv _ hP | with_reducible apply closed_opFence _ hP | with_reducible apply closed_opWait _ hP
      | with_reducible apply closed_opRamp _ hP | with_reducible apply closed_opLogb _ hP | with_reducible apply closed_opRaise _ hP
      | with_reducible apply closed_opShri _ hP | with_reducible apply closed_opLd _ hP | with_reducible apply closed_opSend _ hP
      | with_reducible apply closed_opShli _ hP | with_reducible apply closed_opOr _ hP | with_reducible apply closed_opLui _ hP
      | with_reducible apply closed_opSub _ hP | with_reducible apply closed_opCall _ hP | with_reducible apply closed_opJr _ hP
      | with_reducible apply closed_opMeasb _ hP | with_reducible apply closed_opAndi _ hP | with_reducible apply closed_opAnd _ hP
      | with_reducible apply closed_opJudge _ hP | with_reducible apply closed_opSeal _ hP | with_reducible apply closed_opAsri _ hP
      | with_reducible apply closed_opRet _ hP | with_reducible apply closed_opBr _ hP | with_reducible apply closed_opCmpi _ hP
      | with_reducible apply closed_opYield _ hP | with_reducible apply closed_opHalt _ hP | with_reducible apply closed_opAddi _ hP
      | with_reducible apply closed_opLog _ hP | with_reducible apply closed_opEnab _ hP | with_reducible apply closed_opPout _ hP
      | with_reducible apply closed_opPin _ hP | with_reducible apply closed_opOri _ hP | with_reducible apply closed_opCopyb _ hP
      | with_reducible apply closed_opSt _ hP | with_reducible apply closed_opAsr _ hP | with_reducible apply closed_opShr _ hP
      | with_reducible apply closed_opXori _ hP | with_reducible apply closed_opXor _ hP | with_reducible apply closed_opLdi _ hP
      | with_reducible apply closed_opAdd _ hP | with_reducible apply closed_opMeas _ hP | with_reducible apply closed_opCmp _ hP
      | with_reducible apply closed_ite | split

theorem closed_runWord (P : State → Prop) (hP : Open P) (s : State) (st : Stl) (w : Word) (hs : P s) : P (State.runWord s st w) := by
  unfold State.runWord
  repeat' first | with_reducible assumption | with_reducible apply closed_opOf _ hP | with_reducible apply closed_progFault _ hP | split

theorem closed_stepOne (P : State → Prop) (hP : Open P) (s : State) (st : Stl) (hs : P s) : P (State.stepOne s st) := by
  unfold State.stepOne
  repeat' first
      | with_reducible assumption | with_reducible refine fun _ => ?_ | with_reducible apply closed_runOne _ hP | with_reducible apply closed_endWait _ hP
      | with_reducible apply closed_runWord _ hP | split

theorem closed_settleFail (P : State → Prop) (hP : Open P) (s : State) (x : Nat) (hs : P s) : P (State.settleFail s x) := by
  unfold State.settleFail
  repeat' first | with_reducible assumption | with_reducible apply closed_raise _ hP.closed | with_reducible apply open_portFlag _ hP

theorem closed_setStale (P : State → Prop) (hP : Open P) (s : State) (b : Bool) (hs : P s) : P (State.setStale s b) := by
  unfold State.setStale
  repeat' first
      | with_reducible assumption | with_reducible refine fun _ => ?_ | with_reducible apply closed_ifDo _ hP.closed
      | with_reducible apply closed_irq _ hP.closed | with_reducible apply open_mark _ hP

theorem closed_gaugeStart (P : State → Prop) (hP : Open P) (s : State) (v i : Rat) (hs : P s) : P (State.gaugeStart s v i) := by
  unfold State.gaugeStart
  repeat' first
      | with_reducible assumption | with_reducible refine fun _ => ?_ | exact trivial | with_reducible apply hP.put | with_reducible apply closed_ocvX _ hP
      | with_reducible apply closed_gaugeReport _ hP | with_reducible apply closed_gaugeLoad _ hP | with_reducible apply closed_ifDo _ hP.closed
      | with_reducible apply closed_setStale _ hP | with_reducible apply closed_drawFree _ hP | with_reducible apply closed_gaugeCorrect _ hP
      | with_reducible apply closed_gaugeRef _ hP | with_reducible apply closed_ite | split | with_reducible apply hP.top | rfl
      | with_reducible apply wf_storeWord | with_reducible apply wf_copyWords | with_reducible apply wf_measWords | with_reducible apply wf_loadWords
      | with_reducible apply wf_copyCells

theorem closed_linksReset (P : State → Prop) (hP : Open P) (s : State) (hs : P s) : P (State.linksReset s) := by
  unfold State.linksReset
  repeat' first | with_reducible assumption | with_reducible refine fun _ => ?_ | with_reducible apply hP.put | with_reducible apply closed_foldl

theorem closed_stepsInput (P : State → Prop) (hP : Open P) (s : State) (i : Nat) (hs : P s) : P (State.stepsInput s i) := by
  unfold State.stepsInput
  repeat' first
      | with_reducible assumption | with_reducible refine fun _ => ?_ | with_reducible apply hP.put | with_reducible apply closed_rest _ hP.closed
      | with_reducible apply closed_ifDo _ hP.closed | split

theorem closed_portAbort (P : State → Prop) (hP : Open P) (s : State) (x : Nat) (hs : P s) : P (State.portAbort s x) := by
  unfold State.portAbort
  repeat' first
      | with_reducible assumption | with_reducible apply hP.put | with_reducible apply open_portFlag _ hP
      | with_reducible apply closed_unattach _ hP.closed

theorem closed_sinkLow (P : State → Prop) (hP : Open P) (s : State) (x : Nat) (hs : P s) : P (State.sinkLow s x) := by
  unfold State.sinkLow
  repeat' first
      | with_reducible assumption | with_reducible refine fun _ => ?_ | with_reducible apply hP.put | with_reducible apply closed_portAbort _ hP
      | with_reducible apply closed_lostInput _ hP | with_reducible apply closed_ifDo _ hP.closed

theorem closed_tripNote (P : State → Prop) (hP : Open P) (s : State) (x : Nat) (hs : P s) : P (State.tripNote s x) := by
  unfold State.tripNote
  repeat' first | with_reducible assumption | with_reducible apply hP.put | with_reducible apply open_sat _ hP

theorem closed_sinkOv (P : State → Prop) (hP : Open P) (s : State) (x : Nat) (hs : P s) : P (State.sinkOv s x) := by
  unfold State.sinkOv
  repeat' first
      | with_reducible assumption | with_reducible refine fun _ => ?_ | exact trivial | with_reducible apply hP.put
      | with_reducible apply closed_sendHardReset _ hP | with_reducible apply closed_portAbort _ hP | with_reducible apply open_flag _ hP
      | with_reducible apply closed_notReady _ hP | with_reducible apply closed_lostInput _ hP | with_reducible apply closed_raise _ hP.closed
      | with_reducible apply open_portFlag _ hP | with_reducible apply closed_tripNote _ hP | with_reducible apply closed_ifDo _ hP.closed
      | with_reducible apply closed_setInSt _ hP | with_reducible apply closed_unattach _ hP.closed | split

theorem closed_lossBy (P : State → Prop) (hP : Open P) (s : State) (i : Nat) (cause : LossCause) (hs : P s) : P (State.lossBy s i cause) := by
  unfold State.lossBy
  repeat' first
      | with_reducible assumption | with_reducible apply hP.put | with_reducible apply closed_sinkOv _ hP | with_reducible apply open_flag _ hP
      | with_reducible apply closed_reverse _ hP | with_reducible apply closed_lostInput _ hP | with_reducible apply closed_sinkLow _ hP
      | with_reducible apply open_mark _ hP | split

theorem closed_holdUpgrade (P : State → Prop) (hP : Open P) (s : State) (i : Nat) (hs : P s) : P (State.holdUpgrade s i) := by
  unfold State.holdUpgrade
  repeat' first | with_reducible assumption | with_reducible refine fun _ => ?_ | with_reducible apply hP.put | with_reducible apply closed_ifDo _ hP.closed

theorem closed_lcStepped (P : State → Prop) (hP : Open P) (s : State) (hs : P s) : P (State.lcStepped s) := by
  unfold State.lcStepped
  repeat' first | with_reducible assumption | with_reducible apply hP.put

theorem closed_partWords (P : State → Prop) (hP : Open P) (s : State) (st : Stl) (w : Word) (moved : Nat) (hs : P s) : P (State.partWords s st w moved) := by
  unfold State.partWords
  repeat' first
      | with_reducible assumption | with_reducible refine fun _ => ?_ | split | with_reducible apply hP.top | with_reducible apply wf_copyWords
      | with_reducible apply wf_measWords

theorem closed_issueOnly (P : State → Prop) (hP : Open P) (s : State) (st : Stl) (w : Word) (moved : Nat) (hs : P s) :
    P (State.issueOnly s st w moved).1 := by
  unfold State.issueOnly
  repeat' first
      | with_reducible assumption
      | (lift_lets; intro x; (first | have hx : P x := by (repeat' first | with_reducible assumption | exact trivial | with_reducible apply hP.put | with_reducible apply closed_runWord _ hP | with_reducible apply closed_ite | split) | have hx : True := trivial); clear_value x)
      | exact trivial | with_reducible apply hP.put | with_reducible apply closed_keepArch _ hP | with_reducible apply closed_partWords _ hP
      | with_reducible apply closed_ite | split

theorem closed_ptrOn (P : State → Prop) (hP : Open P) (s : State) (p n : Nat) (hs : P s) : P (State.ptrOn s p n) := by
  unfold State.ptrOn
  repeat' first | with_reducible assumption | with_reducible apply hP.put

theorem closed_readBurst (P : State → Prop) (hP : Open P) (s : State) (w : Writer) (a n : Nat) (hs : P s) : P (State.readBurst s w a n).2 := by
  induction n generalizing s a with
  | zero => exact hs
  | succ k ih => exact ih _ _ (closed_busRead P hP _ _ _ hs)

theorem closed_writeBurst (P : State → Prop) (hP : Open P) (s : State) (w : Writer) (a : Nat) (l : List Word) (hs : P s) : P (State.writeBurst s w a l) := by
  induction l generalizing s a with
  | nil => exact hs
  | cons v t ih => exact ih _ _ (closed_busWrite P hP _ _ _ _ hs)

theorem closed_refusedReq (P : State → Prop) (hP : Open P) (s : State) (x : Nat) (hs : P s) : P (State.refusedReq s x) := by
  unfold State.refusedReq
  repeat' first
      | with_reducible assumption | with_reducible refine fun _ => ?_ | with_reducible apply hP.put | with_reducible apply open_portFlag _ hP
      | with_reducible apply closed_ifDo _ hP.closed

theorem closed_hashDone (P : State → Prop) (hP : Open P) (s : State) (hs : P s) : P (State.hashDone s) := by
  unfold State.hashDone
  repeat' first | with_reducible assumption | with_reducible apply hP.put | with_reducible apply open_setBit _ hP

theorem closed_portRelease (P : State → Prop) (hP : Open P) (s : State) (x : Nat) (hs : P s) : P (State.portRelease s x) := by
  unfold State.portRelease
  repeat' first
      | with_reducible assumption | with_reducible refine fun _ => ?_ | with_reducible apply hP.put | with_reducible apply closed_portAct _ hP
      | with_reducible apply closed_ifDo _ hP.closed

theorem closed_ptEnd (P : State → Prop) (hP : Open P) (s : State) (res : Nat) (hs : P s) : P (State.ptEnd s res) := by
  unfold State.ptEnd
  repeat' first
      | with_reducible assumption | (with_reducible refine fun _ => ?_)
      | (lift_lets; intro x; (first | have hx : P x := by (repeat' first | with_reducible assumption | with_reducible refine fun _ => ?_ | exact trivial | with_reducible apply hP.put | with_reducible apply open_flag _ hP | with_reducible apply closed_batGone _ hP | with_reducible apply closed_stepCut _ hP.closed | with_reducible apply closed_ifDo _ hP.closed | with_reducible apply closed_gaugeRestart _ hP | with_reducible apply closed_ite | split) | have hx : True := trivial); clear_value x)
      | with_reducible refine fun _ => ?_ | exact trivial | with_reducible apply hP.put | with_reducible apply open_flag _ hP
      | with_reducible apply closed_batGone _ hP | with_reducible apply closed_raise _ hP.closed | with_reducible apply closed_bfetRefresh _ hP.closed
      | with_reducible apply closed_bfetClose _ hP | with_reducible apply closed_ite | split

theorem closed_softBegins (P : State → Prop) (hP : Open P) (s : State) (n vPre : Nat) (hs : P s) : P (State.softBegins s n vPre) := by
  unfold State.softBegins
  repeat' first | with_reducible assumption | with_reducible apply hP.put

theorem closed_prRdy (P : State → Prop) (hP : Open P) (s : State) (x : Nat) (hs : P s) : P (State.prRdy s x) := by
  unfold State.prRdy
  repeat' first
      | with_reducible assumption | with_reducible apply hP.put | with_reducible apply closed_sourceStart _ hP | with_reducible apply closed_swapDone _ hP
      | split

theorem closed_quietEnd (P : State → Prop) (hP : Open P) (s : State) (n : Nat) (hs : P s) : P (State.quietEnd s n) := by
  unfold State.quietEnd
  repeat' first
      | with_reducible assumption | with_reducible apply hP.put | with_reducible apply closed_admitUnit _ hP | with_reducible apply open_sat _ hP | split

theorem closed_sendVolt (P : State → Prop) (hP : Open P) (s : State) (cmd : BitVec 8) (f : Fld) (hs : P s) : P (State.sendVolt s cmd f) := by
  unfold State.sendVolt
  repeat' first | with_reducible assumption | with_reducible apply closed_smbSend _ hP | with_reducible apply closed_nack _ hP | split

theorem closed_rev (P : State → Prop) (hP : Open P) (s : State) (x : Nat) (rev3 : Bool) (hs : P s) : P (State.rev s x rev3) := by
  unfold State.rev
  repeat' first | with_reducible assumption | with_reducible apply hP.put

theorem closed_loadCal (P : State → Prop) (hP : Open P) (s : State) (hs : P s) : P (State.loadCal s) := by
  unfold State.loadCal
  repeat' first
      | with_reducible assumption | with_reducible refine fun _ => ?_ | with_reducible apply hP.put | with_reducible apply closed_forEach _ hP.closed
      | with_reducible apply closed_foldl

theorem closed_returnErase (P : State → Prop) (hP : Open P) (s : State) (hs : P s) : P (State.returnErase s) := by
  unfold State.returnErase
  repeat' first
      | with_reducible assumption | with_reducible refine fun _ => ?_ | exact trivial | with_reducible apply hP.put
      | with_reducible apply closed_ifDo _ hP.closed | with_reducible apply closed_findHead _ hP | with_reducible apply closed_ite | split
      | with_reducible apply hP.top | rfl | with_reducible apply Cells.wf_filter

theorem closed_romBoot (P : State → Prop) (hP : Open P) (s : State) (hs : P s) : P (State.romBoot s) := by
  unfold State.romBoot
  repeat' first
      | with_reducible assumption | with_reducible refine fun _ => ?_ | exact trivial | with_reducible apply hP.put
      | with_reducible apply closed_returnErase _ hP | with_reducible apply closed_writeResetRec _ hP | with_reducible apply closed_forEach _ hP.closed
      | with_reducible apply closed_stageCritical _ hP.closed | with_reducible apply closed_fclkOn _ hP | with_reducible apply closed_raise _ hP.closed
      | with_reducible apply closed_loadCal _ hP | with_reducible apply closed_ifDo _ hP.closed | with_reducible apply closed_bootSlot _ hP
      | with_reducible apply closed_findHead _ hP | with_reducible apply closed_flushStaging _ hP | with_reducible apply closed_ite | split
      | with_reducible apply hP.top | rfl | with_reducible apply wf_storeWord | with_reducible apply wf_copyWords | with_reducible apply wf_measWords
      | with_reducible apply wf_loadWords | with_reducible apply wf_copyCells

theorem closed_runEnd (P : State → Prop) (hP : Open P) (s : State) (hs : P s) : P (State.runEnd s) := by
  unfold State.runEnd
  repeat' first
      | with_reducible assumption | with_reducible refine fun _ => ?_ | with_reducible apply hP.put | with_reducible apply closed_portsActive _ hP
      | with_reducible apply closed_scanStart _ hP | with_reducible apply closed_pwrRefuse _ hP.closed | with_reducible apply closed_forEach _ hP.closed
      | with_reducible apply closed_enterHold _ hP | with_reducible apply closed_fclkOn _ hP | with_reducible apply closed_ifDo _ hP.closed
      | with_reducible apply closed_ite

theorem closed_searchBack (P : State → Prop) (hP : Open P) (s : State) (dip whole : Bool) (hs : P s) : P (State.searchBack s dip whole) := by
  unfold State.searchBack
  repeat' first
      | with_reducible assumption | with_reducible refine fun _ => ?_ | with_reducible apply hP.put | with_reducible apply closed_ifDo _ hP.closed
      | with_reducible apply closed_dipLimit _ hP | split

theorem closed_otpCut (P : State → Prop) (hP : Open P) (s : State) (hs : P s) : P (State.otpCut s) := by
  unfold State.otpCut
  repeat' first
      | with_reducible assumption | with_reducible apply hP.put | with_reducible apply closed_hashDone _ hP | with_reducible apply closed_ifDo _ hP.closed
      | with_reducible apply closed_drawFree _ hP | with_reducible apply closed_lcStepped _ hP | with_reducible apply closed_ite

theorem closed_journalCut (P : State → Prop) (hP : Open P) (s : State) (hs : P s) : P (State.journalCut s) :=
  hP.top _ _ _ _ _ _ _ _ _ _ _ _ _ _ _ _ _ id id (wf_storeBytes _ _ _) (closed_freeBytes P hP s 60 hs)

theorem closed_unitEnds (P : State → Prop) (hP : Open P) (s : State) (hs : P s) : P (State.unitEnds s) := by
  unfold State.unitEnds
  repeat' first
      | with_reducible assumption | with_reducible apply closed_daybookUnit _ hP | with_reducible apply closed_queueUnit _ hP
      | with_reducible apply closed_journalCut _ hP | split

theorem closed_mainDown (P : State → Prop) (hP : Open P) (s : State) (completed : Bool) (hs : P s) : P (State.mainDown s completed) := by
  unfold State.mainDown
  repeat' first
      | with_reducible assumption | with_reducible refine fun _ => ?_ | exact trivial | with_reducible apply hP.put
      | with_reducible apply closed_otpCut _ hP | with_reducible apply closed_portsClamp _ hP | with_reducible apply closed_loseStaging _ hP
      | with_reducible apply closed_unitEnds _ hP | with_reducible apply closed_domainReset _ hP | with_reducible apply closed_release _ hP.closed
      | with_reducible apply open_mark _ hP | with_reducible apply hP.drop | with_reducible apply closed_ite | split | with_reducible apply hP.top | rfl
      | with_reducible apply wf_copyWords | with_reducible apply wf_measWords | with_reducible apply wf_loadWords | with_reducible apply wf_copyCells

theorem closed_noPd (P : State → Prop) (hP : Open P) (s : State) (x : Nat) (hs : P s) : P (State.noPd s x) := by
  unfold State.noPd
  repeat' first | with_reducible assumption | with_reducible apply hP.put | with_reducible apply open_portFlag _ hP

theorem closed_requestNow (P : State → Prop) (hP : Open P) (s : State) (x : Nat) (hs : P s) : P (State.requestNow s x) := by
  unfold State.requestNow
  repeat' first | with_reducible assumption | with_reducible apply closed_request _ hP.closed

theorem closed_storeCaps (P : State → Prop) (hP : Open P) (s : State) (x : Nat) (epr : Bool) (pdos : List Word) (hs : P s) :
    P (State.storeCaps s x epr pdos) := by
  unfold State.storeCaps
  repeat' first
      | with_reducible assumption | with_reducible refine fun _ => ?_ | with_reducible apply hP.put | with_reducible apply closed_forEach _ hP.closed
      | with_reducible apply closed_ifDo _ hP.closed | with_reducible apply open_mark _ hP

theorem closed_recovery (P : State → Prop) (hP : Open P) (s : State) (x : Nat) (hs : P s) : P (State.recovery s x) := by
  unfold State.recovery
  repeat' first | with_reducible assumption | with_reducible apply closed_raise _ hP.closed | with_reducible apply closed_unattach _ hP.closed

theorem closed_sourceTrip (P : State → Prop) (hP : Open P) (s : State) (x : Nat) (bit : Fld) (hs : P s) : P (State.sourceTrip s x bit) := by
  unfold State.sourceTrip
  repeat' first
      | with_reducible assumption | with_reducible refine fun _ => ?_ | with_reducible apply closed_recovery _ hP | with_reducible apply open_portFlag _ hP
      | with_reducible apply closed_ifDo _ hP.closed

theorem closed_supplyReady (P : State → Prop) (hP : Open P) (s : State) (x : Nat) (hs : P s) : P (State.supplyReady s x) := by
  unfold State.supplyReady
  repeat' first
      | with_reducible assumption | with_reducible refine fun _ => ?_ | with_reducible apply hP.put | with_reducible apply closed_swapDone _ hP
      | with_reducible apply closed_tx _ hP.closed | with_reducible apply closed_vconnOn _ hP.closed | with_reducible apply closed_sendCaps _ hP.closed
      | with_reducible apply closed_ifDo _ hP.closed

theorem closed_headCrcBad (P : State → Prop) (hP : Open P) (s : State) (hs : P s) : P (State.headCrcBad s) := by
  unfold State.headCrcBad
  repeat' first | with_reducible assumption | with_reducible apply open_sat _ hP

theorem closed_lastCrc (P : State → Prop) (hP : Open P) (s : State) (hs : P s) : P (State.lastCrc s) := by
  unfold State.lastCrc
  repeat' first | with_reducible assumption | with_reducible apply open_setBit _ hP

theorem closed_latchUnknown (P : State → Prop) (hP : Open P) (s : State) (hs : P s) : P (State.latchUnknown s) := by
  unfold State.latchUnknown
  repeat' first
      | with_reducible assumption | with_reducible refine fun _ => ?_ | with_reducible apply closed_pmSet _ hP
      | with_reducible apply closed_ifDo _ hP.closed | split

theorem closed_statusReg (P : State → Prop) (hP : Open P) (s : State) (cmd : BitVec 8) (f : Fld) (value pack : Nat → Nat) (wr pec : Option (BitVec 8)) (hs : P s) :
    P (State.statusReg s cmd f value pack wr pec) := by
  unfold State.statusReg
  repeat' first
      | with_reducible assumption | with_reducible refine fun _ => ?_ | with_reducible apply hP.put | with_reducible apply closed_smbSend _ hP
      | with_reducible apply closed_alertOff _ hP | with_reducible apply closed_relatch _ hP | with_reducible apply closed_smbWrite _ hP | split

theorem closed_takeoverEnd (P : State → Prop) (hP : Open P) (s : State) (st dur : Nat) (hs : P s) : P (State.takeoverEnd s st dur) := by
  unfold State.takeoverEnd
  repeat' first
      | with_reducible assumption | with_reducible refine fun _ => ?_ | with_reducible apply hP.put | with_reducible apply closed_stallRestart _ hP
      | with_reducible apply closed_copyImem _ hP | with_reducible apply closed_ifDo _ hP.closed | with_reducible apply closed_record _ hP.closed
      | with_reducible apply closed_setSl _ hP | with_reducible apply closed_stallStart _ hP | split

theorem closed_passTicks (P : State → Prop) (hP : Open P) (s : State) (k : Nat) (hs : P s) : P (State.passTicks s k) := by
  unfold State.passTicks
  repeat' first | with_reducible assumption | with_reducible apply closed_passTime _ hP

theorem closed_tmWait (P : State → Prop) (hP : Open P) (s : State) (n d : Nat) (hs : P s) : P (State.tmWait s n d) := by
  unfold State.tmWait
  repeat' first | with_reducible assumption | with_reducible apply closed_passTime _ hP | with_reducible apply closed_passTicks _ hP | split

theorem closed_trimStart (P : State → Prop) (hP : Open P) (s : State) (temp : Int) (hs : P s) : P (State.trimStart s temp) := by
  unfold State.trimStart
  repeat' first | with_reducible assumption | with_reducible refine fun _ => ?_ | with_reducible apply hP.put | with_reducible apply closed_ifDo _ hP.closed

theorem closed_wakeCauses (P : State → Prop) (hP : Open P) (s : State) (l : List Nat) (hs : P s) : P (State.wakeCauses s l) := by
  unfold State.wakeCauses
  repeat' first | with_reducible assumption | with_reducible apply open_mark _ hP

theorem closed_vaoUp (P : State → Prop) (hP : Open P) (s : State) (r : Nat) (also : List Nat) (core ana : Bool) (hs : P s) :
    P (State.vaoUp s r also core ana) := by
  unfold State.vaoUp
  repeat' first
      | with_reducible assumption | with_reducible refine fun _ => ?_ | with_reducible apply hP.put | with_reducible apply closed_wakeCauses _ hP
      | with_reducible apply closed_portsClamp _ hP | with_reducible apply closed_forEach _ hP.closed | with_reducible apply closed_qualify _ hP
      | with_reducible apply closed_ifDo _ hP.closed | with_reducible apply closed_clearCauses _ hP | with_reducible apply open_mark _ hP
      | with_reducible apply closed_selectInput _ hP | split

theorem closed_vconnTake (P : State → Prop) (hP : Open P) (s : State) (x : Nat) (hs : P s) : P (State.vconnTake s x) := by
  unfold State.vconnTake
  repeat' first
      | with_reducible assumption | with_reducible apply hP.put | with_reducible apply closed_swapDone _ hP | with_reducible apply closed_tx _ hP.closed
      | with_reducible apply closed_ite

theorem closed_limit (P : State → Prop) (hP : Open P) (s : State) (cmd : BitVec 8) (f : Fld) (wr : Bool) (hs : P s) : P (State.limit s cmd f wr) := by
  unfold State.limit
  repeat' first
      | with_reducible assumption | with_reducible refine fun _ => ?_ | with_reducible apply closed_sendVolt _ hP | split | with_reducible apply hP.top
      | rfl

theorem closed_gaugeUpdate (P : State → Prop) (hP : Open P) (s : State) (m : GaugeSample) (hs : P s) : P (State.gaugeUpdate s m) := by
  unfold State.gaugeUpdate
  repeat' first
      | with_reducible assumption | with_reducible refine fun _ => ?_ | exact trivial | with_reducible apply hP.put
      | with_reducible apply closed_gaugePredict _ hP | with_reducible apply closed_gaugeStep _ hP | with_reducible apply closed_gaugeReport _ hP
      | with_reducible apply closed_cellCheck _ hP | with_reducible apply closed_gaugeLearn _ hP | with_reducible apply closed_levels _ hP
      | with_reducible apply closed_ifDo _ hP.closed | with_reducible apply closed_jrnlLearn _ hP | with_reducible apply closed_ite | split
      | with_reducible apply hP.top | rfl | with_reducible apply wf_storeWord | with_reducible apply wf_copyWords | with_reducible apply wf_measWords
      | with_reducible apply wf_loadWords | with_reducible apply wf_copyCells

theorem closed_gaugeSecond (P : State → Prop) (hP : Open P) (s : State) (m : GaugeSample) (hs : P s) : P (State.gaugeSecond s m) := by
  unfold State.gaugeSecond
  repeat' first
      | with_reducible assumption | with_reducible refine fun _ => ?_ | with_reducible apply closed_chgFault _ hP
      | with_reducible apply closed_raise _ hP.closed | with_reducible apply closed_gaugeUpdate _ hP | with_reducible apply closed_ifDo _ hP.closed

end Sys2Proof.Machine
end

