-- ==== Sys2Proof/Tests/Slice0.lean ====
section
/-! SUPPORT. The checks of the model by fixed values: ill-formed commands are refused by WellFormed, words written out from the spec's formats decode
to what they stand for, single steps give what the spec's rules and tables say, and every statement's hypotheses are met by a state and operands. -/

namespace Sys2Proof.Tests
open Sys2Proof Sys2Proof.Machine
set_option Elab.async false

/- States built from that after reset. -/

/-- The state after reset with fields set. -/
def made (l : List (Fld × Nat × Nat)) : State := l.foldl (fun s p => s.put p.1 p.2.1 p.2.2) State.reset

/-- The part in RUN on FCLK, with every region open to the host links. -/
def live (l : List (Fld × Nat × Nat)) : State :=
  made ([(Hid.MAIN, 0, 3), (Hid.FCLK, 0, 2), (Reg.PWR_STATE_CUR, 0, 2), (Reg.PWR_STATE_BOOTING, 0, 0), (Reg.SEC_PMAP_REGIONS, 0, 0xFFFFF)] ++ l)

/-- Identity 1 executes, with every region open to it. -/
def runs1 (l : List (Fld × Nat × Nat)) : State := live ([(Reg.STL_STAT_STATE, 1, 1), (Reg.SEC_PMAP_REGIONS, 3, 0xFFFFF)] ++ l)

/-- A general register of identity 1. -/
def r1 (r v : Nat) : Fld × Nat × Nat := (Hid.S_R, 16 + r, v)

/- WellFormed refuses ill-formed terms: one for each check. -/

theorem test_wf_shift : WellFormed (.tShli 0 1 1 32) = false ∧ WellFormed (.tShri 0 1 1 32) = false ∧ WellFormed (.tAsri 0 1 1 32) = false ∧
    WellFormed (.tShli 0 1 1 31) = true := by decide
theorem test_wf_class : WellFormed (.tRamp 0 0 0 0) = false ∧ WellFormed (.tEnab 0 6 0) = false ∧ WellFormed (.tDisb 0 6 0) = false ∧
    WellFormed (.tFence 0 0 0) = false ∧ WellFormed (.tAdmit 0 15 0) = false ∧ WellFormed (.tAdmit 0 5 0) = true := by decide
theorem test_wf_selector : WellFormed (.tWait 0 false 21 0 0) = false ∧ WellFormed (.tWaitt 0 false 31 0 0) = false ∧
    WellFormed (.tWait 0 false 20 0 0) = true := by decide
theorem test_wf_unassigned : WellFormed (.unassignedOpcode 0 0xB8000000) = false ∧ WellFormed (.unassignedOpcode 0 0xC4000000) = true := by decide
theorem test_wf_key : WellFormed (.softRstKeyBad .spi 0xA5) = false ∧ WellFormed (.softRstKeyBad .spi 0) = false := by decide
theorem test_wf_request : WellFormed (.pwrReqUndefined .spi 6) = false ∧ WellFormed (.pwrReqUndefined .spi 3) = true := by decide
theorem test_wf_rule : WellFormed (.orderViolDetect 0) = false ∧ WellFormed (.orderViolDetect 3) = false := by decide
theorem test_wf_frame : WellFormed (.spiWriteFrame 0 1 [7] 0) = false ∧ WellFormed (.spiWriteFrame 0 0 [7] 0) = true := by decide
theorem test_wf_block : WellFormed (.mfrRegDataWrite (List.replicate 256 0) none) = false := by decide +kernel
theorem test_wf_tpert : WellFormed (.tpertApply .spi 0x77FC 0) = false ∧ WellFormed (.tpertApply .spi 0x8000 0) = false := by decide

/- Words written out from the formats of R168 with the opcodes of R171. -/

/-- Format A: opcode, rd, ra, rb, zeros. -/
theorem test_decode_a : decode 2 0b000001_0011_0100_0101_00000000000000#32 = some (.tAdd 2 3 4 5) ∧
    decode 2 0b001001_1111_0000_0001_00000000000000#32 = some (.tMul16 2 15 0 1) ∧
    decode 2 0b001010_0000_0100_0101_00000000000000#32 = some (.tCmp 2 4 5) ∧
    decode 2 0b001011_0000_0100_0000_00000000000000#32 = some (.tJr 2 4) ∧
    decode 2 0b110000_0001_0010_0011_00000000000000#32 = some (.tCopyb 2 1 2 3) := by decide
/-- Format B: opcode, rd, ra, four zeros, imm14. -/
theorem test_decode_b : decode 0 0b001100_0001_0010_0000_11111111111111#32 = some (.tAddi 0 1 2 0x3FFF) ∧
    decode 0 0b010111_0001_0010_0000_00000000000011#32 = some (.tSt 0 1 2 3) ∧
    decode 0 0b011000_0001_0010_0000_10000000000000#32 = some (.tPin 0 1 2 0x2000) ∧
    decode 0 0b101010_0000_0010_0000_00000001110000#32 = some (.tRaise 0 2 112) ∧
    decode 0 0b101100_0110_0000_0000_00000000000001#32 = some (.tRecv 0 6 1) := by decide
/-- Format C: opcode, rd, two zeros, imm20; format D: opcode, cond, two zeros, off20. -/
theorem test_decode_cd : decode 3 0b010101_1000_00_10000000000000000001#32 = some (.tLui 3 8 0x80001) ∧
    decode 3 0b011010_1111_00_11111111111111111110#32 = some (.tBr 3 15 0xFFFFE) ∧
    decode 3 0b011011_0000_00_00000000000000000010#32 = some (.tCall 3 0 2) := by decide
/-- Format E: opcode, class, unit, rp, zeros; format W: opcode, sel, inv, ra, imm16. -/
theorem test_decode_ew : decode 1 0b100000_0001_00000111_0011_0000000000#32 = some (.tRamp 1 1 7 3) ∧
    decode 1 0b100011_0101_00001111_0000_0000000000#32 = some (.tFence 1 5 15) ∧
    decode 1 0b011101_10100_1_0010_0000000000000111#32 = some (.tWait 1 true 20 2 7) := by decide
/-- A bit that a format holds at 0, and a field that an instruction does not use, make the word none. -/
theorem test_decode_zeros : decode 0 0b000001_0011_0100_0101_00000000000001#32 = none ∧ decode 0 0b001100_0001_0010_0001_00000000000000#32 = none ∧
    decode 0 0b001010_0001_0100_0101_00000000000000#32 = none ∧ decode 0 0b101101_0000_0000_0000_00000000000001#32 = none := by decide

/-- A command's own state, where it completes. -/
def after (i : Instr) (s : State) : State :=
  match exec i s with
  | .next t => t
  | _ => s

/- One step each, with the results that the rules give. -/

/-- ADD wraps, with C and V (R189): 0x7FFFFFFF + 1. -/
theorem test_add_overflow : let t := after (.tAdd 1 3 1 2) (runs1 [r1 1 0x7FFFFFFF, r1 2 1])
    t.reg 1 3 = 0x80000000 ∧ t.is Hid.S_V 1 = true ∧ t.is Hid.S_C 1 = false ∧ t.is Hid.S_N 1 = true ∧ t.pc 1 = 1 := by decide +kernel
/-- SUB sets C when no borrow occurs (R189). -/
theorem test_sub_borrow : let t := after (.tSub 1 1 1 2) (runs1 [r1 1 1, r1 2 2])
    t.reg 1 1 = 0xFFFFFFFF ∧ t.is Hid.S_C 1 = false ∧ t.is Hid.S_V 1 = false := by decide +kernel
/-- A result written to s0 is discarded (R161), its flags are not. -/
theorem test_add_s0 : let t := after (.tAdd 1 0 1 2) (runs1 [r1 1 0xFFFFFFFF, r1 2 1])
    t.reg 1 0 = 0 ∧ t.is Hid.S_Z 1 = true ∧ t.is Hid.S_C 1 = true := by decide +kernel
/-- A shift by 32 leaves the last bit out in C (R190); an arithmetic one leaves the sign. -/
theorem test_shift_by_32 : let t := after (.tShl 1 3 1 2) (runs1 [r1 1 0x80000001, r1 2 32])
    t.reg 1 3 = 0 ∧ t.is Hid.S_C 1 = true := by decide +kernel
theorem test_asr_by_255 : let t := after (.tAsr 1 3 1 2) (runs1 [r1 1 0x80000000, r1 2 255])
    t.reg 1 3 = 0xFFFFFFFF ∧ t.is Hid.S_C 1 = true := by decide +kernel
/-- A store and a load of one word are little-endian (R164, R193). -/
theorem test_store_bytes : let t := after (.tSt 1 2 1 1) (runs1 [r1 1 0x100, r1 2 0x11223344])
    Cells.look t.sdata 0x104 = 0x44 ∧ Cells.look t.sdata 0x107 = 0x11 ∧ Cells.look t.sdata 0x103 = 0 := by decide +kernel
/-- A misaligned load faults with code 3 (R186). -/
theorem test_load_misaligned : let t := after (.tLd 1 2 1 0) (runs1 [r1 1 0x102])
    t.sl 1 = 4 ∧ t.get Reg.STL_STAT_FCODE 1 = 3 ∧ t.pc 1 = 0 := by decide +kernel
/-- A branch backwards (R197), and one out of the memory. -/
theorem test_branch_back : (after (.tBr 1 0 0xFFFFE) (runs1 [(Hid.S_PC, 1, 5)])).pc 1 = 3 := by decide +kernel
theorem test_branch_out : (after (.tBr 1 0 0xFFFFA) (runs1 [(Hid.S_PC, 1, 5)])).get Reg.STL_STAT_FCODE 1 = 2 := by decide +kernel
/-- The ninth CALL overflows the stack (R197). -/
theorem test_call_overflow : (after (.tCall 1 0 1) (runs1 [(Hid.S_CSD, 1, 8)])).get Reg.STL_STAT_FCODE 1 = 5 := by decide +kernel
/-- The CRC-8 check value of "123456789" (R368), and CRC-32's (R159). -/
theorem test_crc8 : crc8 [0x31, 0x32, 0x33, 0x34, 0x35, 0x36, 0x37, 0x38, 0x39] = 0xF4 := by decide +kernel
theorem test_crc32 : crc32 [0x31, 0x32, 0x33, 0x34, 0x35, 0x36, 0x37, 0x38, 0x39] = 0xCBF43926 := by decide +kernel

/- Worked examples of the spec. -/

/-- 15_host_links.md, an ON request over SPI: the CRC of the frame is 0xCB, and its word requests ON. -/
theorem test_spi_on_request : crc8 [0x02, 0x08, 0x00, 0x00, 0x00, 0x00, 0x00, 0x01] = 0xCB ∧
    (after (.spiWriteFrame 0x0800 0 [1] 0xCB) (live [])).get Hid.SPI_LAST 0 = 0 ∧
    (after (.spiWriteFrame 0x0800 0 [1] 0xCC) (live [])).get Reg.HL_SPI_ERR_WR_CRC 0 = 1 := by decide +kernel

/-- 15_host_links.md, reading the core rail: READ_VOUT 0x0D71 and READ_IOUT 0xD3B0 on PAGE 0. -/
theorem test_pmbus_core_rail : let s := live [(Reg.SEQ_OUT_OUT_KIND, 0, 1), (Reg.SEQ_JDG_CHAN, 0, 22), (Reg.CH_CFG_MODE, 22, 0), (Reg.CH_DATA_VALUE, 22, 0x5604),
      (Reg.PM_LOOP_ICH, 0, 160), (Reg.PM_LOOP_RSH, 0, 25), (Reg.CH_CFG_MODE, 160, 2), (Reg.CH_DATA_VALUE, 160, 0x84B8)]
    (after .readVout s).out.take 2 = [0x71, 0x0D] ∧ (after .readIout s).out.take 2 = [0xB0, 0xD3] := by decide +kernel

/-- 14_interrupts_and_timers.md, serving a reasserted source: priority 9 is claimed before priority 6, and a completion lets the source pend again. -/
theorem test_claim_order : let s := live [(Hid.IC_ENA, 1, 2 ^ 28), (Hid.IC_ENA, 2, 4), (Reg.IS_PRI_PRI4, 7, 6), (Reg.IS_PRI_PRI2, 8, 9), (Reg.PORT_EVT_ATTACH, 0, 1),
      (Hid.IS_SOFT, 2, 4)]
    let t := after (.irqClaim .spi 0) s
    t.out = [0x042] ∧ (after (.irqClaim .spi 0) t).out = [0x03C] := by decide +kernel

/-- 12_ledger_faults.md, a phase that keeps failing: the third event within the window escalates to SEVERE, and the count starts again. -/
theorem test_third_fault_escalates : let s := live [(Reg.LS_STAT_COUNT, 5, 2), (Hid.LS_WIN, 5, 1)]
    let u := (s.classify 5).2
    (s.classify 5).1.1 = 3 ∧ u.get Reg.LS_STAT_COUNT 5 = 0 ∧ u.get Reg.LS_STAT_ESC 5 = 1 ∧ u.get Reg.LS_STAT_CUR_CLASS 5 = 3 := by decide +kernel

/- Witnesses: for each statement with hypotheses, states and operands that meet those of each clause, at the ends of the ranges. -/

/-- The writes of the commands that have an address of their own, permitted to the SPI link. -/
theorem witness_Permitted_link : ∀ a ∈ [0x4, 0x10, 0x18, 0x404, 0x408, 0x800, 0x80C, 0x840, 0x84C, 0x1228, 0x13E8, 0x2000, 0x2BF8, 0x2C00, 0x2CF4, 0x3004,
    0x3800, 0x3894, 0x401C, 0x4808, 0x481C, 0x501C, 0x54DC, 0x54FC, 0x5578, 0x5800, 0x59F0, 0x5A00, 0x6000, 0x604C, 0x605C, 0x6068, 0x7004, 0x7080],
    Permitted (live []) .spi a 1 := by unfold Permitted; decide +kernel

/-- The identity's own watchdog, and its writes. -/
theorem witness_Permitted_stall : Permitted (runs1 []) (.stl 1) 0x6044 0x5A ∧ Permitted (runs1 []) (.stl 1) 0x404 1 := by unfold Permitted; decide +kernel

/-- Test perturbation and the NVM window, from a session and the links. -/
theorem witness_PerturbationAndNvm :
    (∀ a ∈ [0x7800, 0x7FFC], Permitted (live [(Reg.SEC_DBG_SESSION, 0, 4)]) .debug a 0x100) ∧
    (∀ a ∈ [0x8000, 0xBFFC], Permitted (live [(Reg.NVM_PAGE_PAGE, 0, 0)]) .spi a 1 ∧ (pageRegion (live []).nvmPage).isSome = true) ∧
    (live []).nvmq.length < 16 ∧
    (let s := { live [] with nvmq := List.replicate 16 (0, 0) }
     Permitted s .spi 0x8000 1 ∧ (pageRegion s.nvmPage).isSome = true ∧ 16 ≤ s.nvmq.length) ∧
    (let s := live [(Reg.NVM_PAGE_PAGE, 0, 127)]
     pageRegion s.nvmPage = none ∧ Permitted s .spi 0x8000 1) ∧
    (live [(Hid.NVM_JOB, 0, 3)]).vao = true ∧ (live [(Hid.NVM_JOB, 0, 3)]).get Hid.NVM_JOB 0 = 3 := by unfold Permitted; decide +kernel

/-- An identity that executes, at either end of its memory. -/
theorem witness_Ready : Ready (runs1 []) 1 ∧ Ready (runs1 [(Hid.S_PC, 1, 0x1FFE)]) 1 ∧
    (runs1 [(Hid.S_PC, 1, 0x1FFF)]).executes 1 = true ∧ (runs1 [(Hid.S_PC, 1, 0x1FFF)]).pc 1 = 0x1FFF ∧ (runs1 [(Hid.S_PC, 1, 0x1FFF)]).mmArmed 1 = false := by
  unfold Ready; decide +kernel

/-- Each completer has a new issue, and one that it has completed. -/
theorem witness_New : ∀ c, c < 6 → New (runs1 []) 1 c ∧ (runs1 [(Hid.CP_V, 4 * c + 1, 1), (Hid.CP_ISN, 4 * c + 1, 1)]).reissue 1 c = true := by
  unfold New; decide +kernel

/-- Words at the ends of the shared data, and beyond. -/
theorem witness_LoadAndStoreWords : (let s := runs1 [r1 1 0xFFFC]; (s.reg 1 1).toNat + 4 * (0 : BitVec 14).toNat = 0xFFFC) ∧
    (let s := runs1 [r1 1 0xFFFF0000]; (s.reg 1 1).toNat + 4 * (0x3FFF : BitVec 14).toNat = 0xFFFFFFFC) ∧
    (let s := runs1 [r1 1 1]; ((s.reg 1 1).toNat + 4 * (0 : BitVec 14).toNat) % 4 ≠ 0) := by decide +kernel

/-- Blocks side by side, a block to the end of the shared data, and one word too far or too close. -/
theorem witness_BlocksCopiedAndMeasured : (let s := runs1 [r1 1 0xFFFC, r1 2 0xFFF8, r1 3 1]
    let dst := (s.reg 1 1).toNat; let src := (s.reg 1 2).toNat; let n := (s.reg 1 3).toNat
    0 < n ∧ dst % 4 = 0 ∧ src % 4 = 0 ∧ dst + 4 * n ≤ 0x10000 ∧ src + 4 * n ≤ 0x10000 ∧ src + 4 * n ≤ dst) ∧
    (let s := runs1 [r1 1 0xFD00, r1 2 0, r1 3 192]
     0 < (s.reg 1 3).toNat ∧ (s.reg 1 1).toNat + 4 * (s.reg 1 3).toNat ≤ 0x10000 ∧ (s.reg 1 2).toNat + (s.reg 1 3).toNat ≤ 192) := by decide +kernel

/-- The last channel, and the first that is none. -/
theorem witness_ChannelsMeasuredAndJudged : ((runs1 [r1 1 190]).reg 1 1).toNat + (1 : BitVec 14).toNat ≤ 191 ∧
    191 < ((runs1 [r1 1 191]).reg 1 1).toNat + (1 : BitVec 14).toNat := by decide +kernel

/-- Branch targets at both ends of the memory and beyond; the call stack empty, full, and between. -/
theorem witness_ControlTransfers : (let s := runs1 [(Hid.S_PC, 1, 0x1FFE)]; (s.pc 1 : Int) + (1 : BitVec 20).toInt = 0x1FFF) ∧
    (let s := runs1 [(Hid.S_PC, 1, 1)]; (s.pc 1 : Int) + (0xFFFFF : BitVec 20).toInt = 0) ∧
    (let s := runs1 []; (s.pc 1 : Int) + (0xFFFFF : BitVec 20).toInt < 0) ∧
    (let s := runs1 [(Hid.S_CSD, 1, 7), (Hid.S_CS, 15, 0x1FFF)]; s.get Hid.S_CSD 1 < 8 ∧ 0 < s.get Hid.S_CSD 1 ∧ s.get Hid.S_CS (8 + 7) ≤ 0x1FFF) ∧
    (runs1 [(Hid.S_CSD, 1, 8)]).get Hid.S_CSD 1 = 8 ∧ (runs1 []).get Hid.S_CSD 1 = 0 ∧
    ((runs1 [r1 1 0x1FFF]).reg 1 1).toNat ≤ 0x1FFF ∧ 0x1FFF < ((runs1 [r1 1 0x2000]).reg 1 1).toNat ∧
    condHolds false false false false false 2 = true ∧ condHolds false false false false false 1 = false := by decide +kernel

theorem witness_ZeroCountsDoNothing : (runs1 []).reg 1 3 = 0 := by decide +kernel

/-- A wait whose condition holds and one whose condition does not; a deadline reached and one not. -/
theorem witness_WaitsAtFirstEvaluation : (runs1 []).standby = false ∧ paramBad 3 71 = false ∧
    ((runs1 []).waitCond 1 3 71 0 != false) = true ∧ ((runs1 []).waitCond 1 3 71 0 != true) = false ∧
    reached (runs1 []).tnow 0 = true ∧ reached (runs1 []).tnow 1 = false ∧
    ((runs1 []).irqFor 1 0 || !((runs1 []).mbox 1).isEmpty) = false ∧
    (let s := { runs1 [] with mail := [(1, 0)] }; (s.irqFor 1 0 || !(s.mbox 1).isEmpty) = true) := by decide +kernel

theorem witness_WaitsEndLater : let s := runs1 [(Reg.STL_STAT_STATE, 1, 2), (Hid.S_WKIND, 1, 1), (Hid.S_WSEL, 1, 5), (Hid.S_WDLV, 1, 1), (Hid.S_PC, 1, 0x1FFE)]
    s.waits 1 = true ∧ s.standby = false ∧ s.mmArmed 1 = false ∧ s.pc 1 < 0x1FFF ∧ s.waitOver 1 = true ∧ s.is Hid.S_WDLV 1 = true := by decide +kernel

/-- A word that is none, and one that is. -/
theorem witness_UnassignedWords : decode 1 0xC4000000 = none ∧ decode 1 0xFC000000 = none ∧ decode 1 0x00000000 = none ∧
    (decode 1 0xBC000000).isSome = true := by decide +kernel

/-- Each bad operand at the end of its range. -/
theorem witness_BadOperandsFault : 32 ≤ (32 : BitVec 14).toNat ∧ 5 < (6 : BitVec 4).toNat ∧ 20 < (21 : BitVec 5).toNat ∧ paramBad 1 8 = true ∧
    paramBad 13 0x500 = true ∧
    (let s := runs1 [r1 1 2, r1 3 1]; 0 < (s.reg 1 3).toNat ∧ (s.reg 1 1).toNat % 4 ≠ 0) ∧
    (let s := runs1 [r1 1 0xFFFC, r1 3 2]; 0 < (s.reg 1 3).toNat ∧ (s.reg 1 1).toNat % 4 = 0 ∧ (s.reg 1 2).toNat % 4 = 0 ∧
      0x10000 < (s.reg 1 1).toNat + 4 * (s.reg 1 3).toNat) ∧
    (let s := runs1 [r1 1 4, r1 2 0, r1 3 2]; (s.reg 1 2).toNat < (s.reg 1 1).toNat + 8 ∧ (s.reg 1 1).toNat < (s.reg 1 2).toNat + 8) ∧
    (let s := runs1 [r1 2 192, r1 3 1]; 192 < (s.reg 1 2).toNat + (s.reg 1 3).toNat ∧ (s.reg 1 1).toNat + 4 * (s.reg 1 3).toNat ≤ 0x10000) ∧
    30 < ((runs1 [r1 3 31]).reg 1 3).toNat ∧ ((runs1 [r1 2 1]).reg 1 2).toNat % 4 ≠ 0 ∧ 0xFFE8 < ((runs1 [r1 2 0xFFEC]).reg 1 2).toNat := by decide +kernel

/-- A register that does not act on read, a running timer's count, and two registers that act. -/
theorem witness_PortReads : actsOnRead 0x404 = false ∧ cntTimer 0x404 = none ∧ actsOnRead 0x5814 = false ∧ cntTimer 0x5814 = some 0 ∧
    cntTimer 0x59F8 = some 15 ∧ (runs1 [(Reg.TM_CTRL_RUN, 15, 1)]).tmRun 15 = true ∧ (runs1 []).tmRun 0 = false ∧
    actsOnRead 0x5540 = true ∧ actsOnRead 0x5558 = true ∧ actsOnRead 0xFFFC = true ∧ actsOnRead 0x555C = false := by decide +kernel

theorem witness_PortWrites : ((runs1 []).issue 1 1).denied (.stl 1) 0x404 1 = false ∧
    ((runs1 [(Reg.SEC_PMAP_REGIONS, 3, 0)]).issue 1 1).denied (.stl 1) 0x404 1 = true := by decide +kernel

/-- Loop 0 on rail 0, owned by identity 1, with the Keeper ON. -/
def railed (l : List (Fld × Nat × Nat)) : State :=
  runs1 ([(Reg.SEQ_OUT_OUT_KIND, 0, 1), (Reg.SEQ_OUT_OUT_NUM, 0, 0), (Reg.SEQ_OUT_OWNER, 0, 1), (Reg.KPR_STAT_STATE, 0, 2), (Reg.LP_REF_TARGET, 0, 1000)] ++ l)

theorem witness_RailActions : railUnit 2 63 = some (2, 63) ∧ railUnit 1 8 = none ∧ railUnit 2 64 = none ∧ fenceUnitOf 3 23 = some 23 ∧ fenceUnitOf 5 15 = some 71 ∧
    fenceUnitOf 3 24 = none ∧ fenceUnitOf 4 4 = none ∧
    (let b := (railed [(Reg.SEQ_OUT_RSTATE, 0, 2)]).issue 1 0
     b.whyRamp 1 0 250 = 0 ∧ b.whyRamp 1 0 249 = 9 ∧ b.whyRamp 1 0 3300 = 0 ∧ b.whyRamp 1 0 3301 = 9 ∧ b.whyEnab 1 1 0 = 0 ∧ b.whyDisb 1 1 0 = 0) ∧
    (let b := (runs1 []).issue 1 0
     b.whyEnab 1 2 63 ≠ 0 ∧ b.whyDisb 1 2 63 ≠ 0 ∧ b.whyFence 1 71 = 0 ∧ b.whyAdmit 1 71 = 0 ∧ b.whyFence 1 23 ≠ 0 ∧ b.whyAdmit 1 23 ≠ 0) := by decide +kernel

/-- Five records free and four; no token, and one; a source inside SRC_GAP and at its end. -/
theorem witness_ProgramsLog : (0xFFE8 : Word).toNat % 4 = 0 ∧ (runs1 []).staging.length + 5 ≤ 16 ∧ (runs1 []).get Reg.DBK_STAT_TOKENS 0 ≠ 0 ∧
    (runs1 []).gapOf 7 = none ∧ (runs1 [(Reg.DBK_STAT_TOKENS, 0, 0)]).get Reg.DBK_STAT_TOKENS 0 = 0 ∧
    (let s := { runs1 [(Reg.DBK_CFG_SRC_GAP, 0, 1)] with gap := [{ src := 7, last := 0, rep := 0 }] }
     s.gapOf 7 = some { src := 7, last := 0, rep := 0 } ∧ s.inGap { src := 7, last := 0, rep := 0 } = true ∧
     s.inGap { src := 7, last := 2 ^ 48 - 33, rep := 0 } = false) := by decide +kernel

/-- Sources that programs may raise and may not; mailboxes with room and full. -/
theorem witness_EventsMailboxesAndSeal : (let s := runs1 [(Reg.LS_CFG_RAISABLE, 127, 1), (Reg.STL_STAT_STATE, 2, 2)]
    s.is Reg.LS_CFG_RAISABLE 127 = true ∧ s.is Reg.LS_CFG_RAISABLE 100 = false ∧ s.sl 2 ≠ slAbsent) ∧
    (let s := { runs1 [] with mail := List.replicate 8 (2, 0) ++ List.replicate 16 (4, 0) ++ [(1, 5)] }
     (s.mail.filter (fun e => e.1 == 2)).length = 8 ∧ (s.mail.filter (fun e => e.1 == 4)).length = 16 ∧
     (s.mail.filter (fun e => e.1 == 1)).map Prod.snd = 5 :: []) ∧ ((runs1 []).mail.filter (fun e => e.1 == 1)).map Prod.snd = [] ∧
    (made [(Hid.MAIN, 0, 3), (Reg.STL_STAT_STATE, 0, 1), (Hid.BOOTWIN, 0, 1)]).executes 0 = true ∧
    (made [(Hid.BOOTWIN, 0, 1)]).is Hid.BOOTWIN 0 = true ∧ (runs1 []).is Hid.BOOTWIN 0 = false := by decide +kernel

theorem witness_DecodeOfEncode : WellFormed (.tAdmit 3 5 255) = true ∧ encode (.tAdmit 3 5 255) = some (3, 0b100100_0101_11111111_00000000000000#32) := by
  decide +kernel

theorem witness_FieldsTakeWritesByType : 0 < Reg.LP_REF_TARGET.count ∧ 0 < Reg.LP_REF_TARGET.width ∧ Reg.PWR_STATE_REQ_BAD.ty = .w1c ∧
    Reg.DEV_ID_PART_ID.ty = .ro ∧ Reg.SOFT_RST_KEY.ty = .wo ∧ Reg.PP_CFG_CELLS.ty = .rwl ∧ Reg.PP_CFG_CELLS.key 0 ≠ Reg.PP_CFG_CHEM.key 0 := by decide +kernel

theorem witness_RegisterWrites : (made [(Hid.MAIN, 0, 1)]).linked .spi = false ∧ (live []).linked .spi = true ∧ (live []).denied .spi 0x404 1 = false ∧
    (live [(Reg.SEC_PMAP_REGIONS, 0, 0)]).denied .spi 0x404 1 = true ∧ (live [(Reg.SEC_PSTAT_COUNT, 0, 255)]).get Reg.SEC_PSTAT_COUNT 0 ≤ 255 := by
  decide +kernel

theorem witness_Queues : ∀ b, b < 5 → (State.reset.mail.filter (fun e => e.1 == b)).length ≤ mboxSize b := by decide +kernel

theorem witness_SuppliesRiseAndFall : (made [(Hid.MAIN, 0, 0)]).vao = false ∧ (made [(Hid.MAIN, 0, 0)]).legBlocked = false ∧ (live []).vao = true ∧
    (live []).carries = true ∧ (made [(Hid.MAIN, 0, 1), (Hid.WARM, 0, 1)]).carries = true ∧ (made [(Hid.MAIN, 0, 1)]).get Hid.MAIN 0 = 1 ∧
    (live [(Reg.SUP_STAT_HOSTIO_LOW, 0, 1)]).is Reg.SUP_STAT_HOSTIO_LOW 0 = true ∧ Permitted (live []) .spi 0x10 1 := by unfold Permitted; decide +kernel
theorem witness_ResetsAndBoot : (let s := made [(Hid.MAIN, 0, 1)]; s.get Hid.MAIN 0 = 1 ∧ s.is Hid.WARM 0 = false ∧ s.is Hid.ORD_HOLD 0 = false) ∧
    (let s := made [(Hid.MAIN, 0, 1), (Hid.ORD_HOLD, 0, 1)]; s.get Hid.MAIN 0 = 1 ∧ s.is Hid.WARM 0 = false ∧ s.is Hid.ORD_HOLD 0 = true) ∧
    (made []).up = true ∧ (live []).up = true ∧ Permitted (live []) .spi 0x4 0xA5 ∧ Permitted (live []) .spi 0x4 1 ∧ Permitted (live []) .spi 0x4 255 ∧
    (let s := made [(Hid.MAIN, 0, 1), (Hid.WARM, 0, 1)]; s.get Hid.MAIN 0 = 1 ∧ s.is Hid.WARM 0 = true) ∧ (made [(Hid.MAIN, 0, 2)]).get Hid.MAIN 0 = 2 ∧
    (live [(Hid.BOOTWIN, 0, 1)]).is Hid.BOOTWIN 0 = true := by unfold Permitted; decide +kernel

theorem witness_PowerRequests : (let b := (live [(Hid.TRANS, 0, 2)]).arrive .spi; b.trans ≠ 0 ∧ b.get Hid.HELDREQ 0 ≠ 14) ∧ ((live []).arrive .spi).trans = 0 ∧
    (let b := (live [(Reg.PWR_STATE_CUR, 0, 1)]).arrive .spi; b.standby = true ∧ b.is Hid.SAFE 0 = false) ∧
    (let b := (live [(Reg.PWR_STATE_CUR, 0, 1), (Hid.SAFE, 0, 1)]).arrive .spi; b.trans = 0 ∧ b.standby = true ∧ b.cur = 1 ∧ b.is Hid.SAFE 0 = true) ∧
    (let b := (live []).arrive .spi; b.standby = false ∧ b.anyLoop = false ∧ b.sequencing = false ∧ b.cur ≠ 1 ∧ b.cur ≠ 4) ∧
    ((live [(Reg.KPR_STAT_STATE, 0, 1)]).arrive .spi).sequencing = true ∧ ((live [(Reg.LP_STAT_STATE, 7, 3)]).arrive .spi).anyLoop = true ∧
    (let b := (live [(Reg.PWR_STATE_CUR, 0, 1), (Hid.IN_QUAL, 2, 1)]).arrive .spi; b.cur = 1 ∧ b.is Hid.SAFE 0 = false ∧ b.anyInput = true) ∧
    (let b := (live [(Reg.PWR_STATE_CUR, 0, 1), (Reg.PP_STAT_BATT_ABSENT, 0, 1)]).arrive .spi; b.anyInput = false ∧ b.batAvail = false) ∧
    ((live [(Reg.PWR_STATE_CUR, 0, 4)]).arrive .spi).cur = 4 ∧ Permitted (live []) .spi 0x404 3 ∧ Permitted (live []) .spi 0x404 15 := by
  unfold Permitted; decide +kernel

theorem witness_PowerTransitionsAndClock : (live [(Hid.TRANS, 0, 2)]).trans = 2 ∧ (let s := live [(Hid.TRANS, 0, 1), (Hid.IN_QUAL, 0, 1), (Hid.BURST, 0, 1)]
    s.trans = 1 ∧ s.anyInput = true) ∧ (let s := live [(Hid.TRANS, 0, 1), (Reg.PP_STAT_BFET, 0, 2)]; s.trans = 1 ∧ s.anyInput = false ∧ s.batAvail = true) ∧
    (let s := live [(Hid.TRANS, 0, 1), (Reg.PP_STAT_BATT_ABSENT, 0, 1)]; s.trans = 1 ∧ s.anyInput = false ∧ s.batAvail = false) ∧
    (let s := live [(Reg.PWR_STATE_CUR, 0, 4)]; s.vao = true ∧ s.cur = 4) ∧
    (let s := live [(Reg.PWR_STATE_CUR, 0, 1), (Reg.STBY_CFG_SCAN_P, 0, 1), (Hid.BURST_ANY, 0, 1), (Hid.BURST_NOW, 0, 1)]
     s.burstDue = true ∧ s.is Hid.BURST_NOW 0 = true) ∧ (live [(Reg.PWR_STATE_CUR, 0, 1), (Reg.STBY_CFG_SCAN_P, 0, 1)]).is Hid.BURST_ANY 0 = false ∧
    (made [(Hid.MAIN, 0, 0), (Hid.LEGWIN, 0, 1)]).get Hid.LEGWIN 0 = 1 ∧ (made [(Hid.MAIN, 0, 0), (Hid.LEGWIN, 0, 2)]).get Hid.LEGWIN 0 = 2 ∧
    (live [(Hid.FCLK, 0, 1)]).get Hid.FCLK 0 = 1 ∧ (let s := live []; s.get Hid.FCLK 0 = 2 ∧ s.is Reg.BK_STAT_ON_RC 0 = false ∧ s.is Hid.FLOCK 0 = false) ∧
    (let s := live [(Reg.PWR_STATE_CUR, 0, 1)]; s.runs = true ∧ s.fclkHeld = false) ∧ (let s := live []; s.standby = false ∧ s.runs = true) := by decide +kernel

/-- The next burst one millisecond after the last, with half a microsecond's worth of it left; the dwell in HOLD over, without an input and with one. -/
theorem witness_TimedTransitions : (let s := live [(Reg.PWR_STATE_CUR, 0, 1), (Reg.STBY_CFG_SCAN_P, 0, 1), (Hid.BURST_ANY, 0, 1), (Hid.TNOW, 0, 999)]
      let b := s.passTime (s.get Hid.BURST_T 0 + 1000 * s.scanP - s.usec)
      s.burstDue = true ∧ s.is Hid.BURST_ANY 0 = true ∧ s.is Hid.BURST_NOW 0 = false ∧ b.burstDue = true) ∧
    (let s := live [(Reg.PWR_STATE_CUR, 0, 3), (Hid.TNOW, 0, 199999)]
     let b := (s.passTime (s.get Hid.HOLD_T0 0 + 200000 - s.usec)).put Hid.DWELL_DONE 0 1
     s.hold = true ∧ s.is Hid.DWELL_DONE 0 = false ∧ b.hold = true ∧ b.anyInput = false) ∧
    (let s := live [(Reg.PWR_STATE_CUR, 0, 3), (Hid.IN_QUAL, 0, 1), (Hid.TNOW, 0, 200000)]
     let b := (s.passTime (s.get Hid.HOLD_T0 0 + 200000 - s.usec)).put Hid.DWELL_DONE 0 1
     s.hold = true ∧ b.hold = true ∧ b.anyInput = true ∧ b.trans = 0) := by decide +kernel

/-- Loop 7 with phase 23 in it, in a state. -/
def phased (st : Nat) (l : List (Fld × Nat × Nat)) : State :=
  live ([(Reg.LP_STAT_STATE, 7, st), (Reg.LP_REF_TARGET, 7, 1000), (Reg.LP_REF_VREF_NOW, 7, 1000), (Reg.PH_CFG_ASSIGN, 23, 1), (Reg.PH_CFG_LOOP, 23, 7)] ++ l)

/-- The pre-start check, at the level of a short and above it; the end of a soft start and of a ramp down. -/
theorem witness_LoopChecks : (let s := phased 1 []
    let b := s.sense 7 { vsen := 3601000, isen := [] }
    let g := s.sense 7 { vsen := 100000, isen := [] }
    let c := g.passTime (g.get Hid.LP_CHK_T 7 + 100 - g.usec)
    s.up = true ∧ b.lp 7 = 1 ∧ b.shortSeen 7 0 3601000 = true ∧ b.usec ≤ b.get Hid.LP_CHK_T 7 + 100 ∧ g.shortSeen 7 0 100000 = false ∧ c.lp 7 = 1) ∧
    (let s := phased 2 [(Reg.LP_REF_VREF_NOW, 7, 999)]
     let c := s.passTime (s.rampLeft 7 (s.get Reg.LP_REF_TARGET 7))
     s.lp 7 = 2 ∧ c.lp 7 = 2) ∧
    (let s := phased 4 [(Reg.LP_REF_VREF_NOW, 7, 1)]
     let c := s.passTime (s.rampLeft 7 0)
     s.lp 7 = 4 ∧ c.lp 7 = 4 ∧ c.is Hid.LP_RESTART 7 = false) := by decide +kernel

/-- Rush and braking, where they start, end by their level and by their time; the window of PG entered and left; the frame. -/
theorem witness_LoopEvents : (let s := phased 3 [(Reg.LP_PROT_RUSH_TH, 7, 10), (Reg.LP_PROT_BRAKE_TH, 7, 10)]
      let low := s.sense 7 { vsen := 989999, isen := [(23, 1200000)] }
      let high := s.sense 7 { vsen := 1010001, isen := [(23, 1200000)] }
      low.lp 7 = 3 ∧ low.is Reg.LP_PROT_RUSH_TH 7 = true ∧ low.inEvent 7 = false ∧ low.rushLevel 7 1 = true ∧ low.get Hid.LP_RUSH_U 7 ≤ low.usec ∧
      high.is Reg.LP_PROT_BRAKE_TH 7 = true ∧ high.brakeLevel 7 1 = true ∧ high.get Hid.LP_BRK_U 7 ≤ high.usec ∧
      (low.put Hid.LP_RUSH 7 1).is Hid.LP_RUSH 7 = true ∧ (low.put Hid.LP_RUSH 7 1).rushLevel 7 (1 / 2) = true ∧
      (high.put Hid.LP_BRAKE 7 1).is Hid.LP_BRAKE 7 = true ∧ (high.put Hid.LP_BRAKE 7 1).brakeLevel 7 (1 / 2) = true) ∧
    (let s := phased 3 [(Reg.LP_PROT_RUSH_TH, 7, 10), (Reg.LP_PROT_BRAKE_TH, 7, 10), (Hid.LP_RUSH, 7, 1), (Hid.LP_BRAKE, 7, 1)]
     let even := s.sense 7 { vsen := 1000000, isen := [(23, 1200000)] }
     even.is Hid.LP_RUSH 7 = true ∧ even.rushLevel 7 (1 / 2) = false ∧ even.is Hid.LP_BRAKE 7 = true ∧ even.brakeLevel 7 (1 / 2) = false) ∧
    (let s := phased 3 [(Reg.LP_PG_PG_WIN, 7, 5), (Reg.LP_PG_PG_ON_DLY, 7, 1)]
     let b := s.sense 7 { vsen := 1005000, isen := [(23, 1200000)] }
     let c := b.passTime (b.pgOnDly 7 - b.get Hid.LP_PGT 7)
     b.pgMay 7 = true ∧ b.is Reg.LP_STAT_PG 7 = false ∧ c.pgMay 7 = true) ∧
    (let s := phased 3 [(Reg.LP_PG_PG_WIN, 7, 5), (Reg.LP_STAT_PG, 7, 1)]
     let b := s.sense 7 { vsen := 1005001, isen := [(23, 1200000)] }
     b.is Reg.LP_STAT_PG 7 = true ∧ b.inPgWin 7 = false) ∧
    (let s := live [(Reg.MLC_FRAME_SRC, 0, 1)]; s.is Reg.MLC_FRAME_SRC 0 = true ∧ s.is Reg.MLC_SYNC_STAT_HOLDING 0 = false) := by decide +kernel

/-- A phase over its limit, a fault of each cause, and the re-admission with and without a current. -/
theorem witness_Phases : (let s := phased 3 [(Reg.LP_LIMIT_IPH_MAX, 7, 1)]
      let b := s.put Hid.PH_VISEN 23 3000000
      s.get Reg.PH_CFG_LOOP 23 = 7 ∧ b.faultLive 23 = true ∧ b.overLimit 23 = true) ∧
    (let d := (phased 3 []).sense 7 { vsen := 1000000, isen := [(23, 3200001)] }
     d.faultLive 23 = true ∧ d.phaseCause 23 { range := 1000000, stage := 0, imbalance := 0 } = 1) ∧
    ((phased 3 []).sense 7 { vsen := 1000000, isen := [(23, 3200000)] }).phaseCause 23 { range := 1000000, stage := 1000, imbalance := 0 } = 2 ∧
    (let s := phased 3 [(Hid.PH_WAIT, 23, 1), (Reg.PH_STAT_FENCED, 23, 1)]
     s.is Hid.PH_WAIT 23 = true ∧ s.is Reg.PH_STAT_FENCED 23 = true ∧ s.is Reg.PH_CFG_ASSIGN 23 = true ∧ s.lp 7 = 3 ∧ s.inEvent 7 = false) ∧
    (phased 0 [(Hid.PH_WAIT, 23, 1), (Reg.PH_STAT_FENCED, 23, 1)]).switching 7 = false ∧
    (let s := phased 3 [(Hid.PH_CHECK, 23, 1), (Reg.PH_STAT_FENCED, 23, 1)]
     let b := s.put Hid.PH_VISEN 23 1200000
     let c := b.passTime (b.get Hid.PH_CHK_T 23 + b.periods 7 1 - b.usec)
     let d := (s.put Hid.PH_VISEN 23 3000000).passTime (b.get Hid.PH_CHK_T 23 + b.periods 7 1 - b.usec)
     b.is Hid.PH_CHECK 23 = true ∧ c.is Hid.PH_CHECK 23 = true ∧ ampsApart (c.amps 23) 0 ≤ 2 ∧ d.is Hid.PH_CHECK 23 = true ∧ 2 < ampsApart (d.amps 23) 0) := by
  decide +kernel

/-- A crier that watches channel 0. -/
theorem witness_ScalesAndCriers : (live []).fclk = true ∧
    (let s := live [(Reg.PWR_STATE_CUR, 0, 1), (Hid.BURST, 0, 1)]; s.up = true ∧ s.fclk = true ∧ s.is Hid.BURST 0 = true) ∧
    (let s := live [(Reg.CR_CFG_EN, 15, 1), (Reg.CR_CFG_HI_EN, 15, 1), (Reg.CR_CFG_LO_EN, 15, 1), (Hid.CR_BLANK, 15, 1), (Reg.CR_STAT_OUT_LO, 15, 1),
       (Reg.CR_CFG_FILT, 15, 1)]
     s.crierOn 15 = true ∧ s.crierSide 15 true = true ∧ s.crierOut 15 true = false ∧ s.crierOut 15 false = true ∧ s.is Hid.CR_BLANK 15 = true ∧
     s.crierTrips 15 true 10000000 100 = true ∧ s.crierTrips 15 true 10000000 99 = false ∧ s.crierFrees 15 false 10000000 100 = true ∧
     (s.passTime (s.get Hid.CR_BLANK_T 15 + 5 - s.usec)).is Hid.CR_BLANK 15 = true ∧
     (s.passTime (s.get Hid.CR_BLANK_T 15 + 5 - s.usec)).crierOn 15 = true) ∧
    (let s := live [(Reg.CR_CFG_EN, 0, 1), (Reg.CR_CFG_LO_EN, 0, 1), (Reg.CR_THR_LO, 0, 65535)]
     s.crierOn 0 = true ∧ s.crierSide 0 false = true ∧ s.crierOut 0 false = false ∧ s.crierTrips 0 false 0 10000 = true ∧ s.is Hid.CR_BLANK 0 = false) ∧
    (let s := live [(Hid.CR_BLANK, 0, 1)]
     let b := s.passTime (s.get Hid.CR_BLANK_T 0 + 5 - s.usec)
     s.is Hid.CR_BLANK 0 = true ∧ b.is Hid.CR_BLANK 0 = true ∧ b.crierOn 0 = false) := by decide +kernel

theorem witness_KeeperSequences : (let s := live [(Reg.KPR_STAT_PEND_ON, 0, 1)]; s.kp = 0 ∧ s.is Reg.KPR_STAT_PEND_ON 0 = true ∧ s.is Hid.EXT 0 = false) ∧
    (let s := live [(Hid.SD_RUN, 0, 1)]; s.vao = true ∧ s.is Hid.SD_RUN 0 = true ∧ s.is Hid.WARM 0 = false) ∧
    (let s := live [(Reg.SEQ_OUT_RSTATE, 71, 1)]; s.rail 71 = 1 ∧ s.is Reg.SCN_STAT_BLIND 0 = false) ∧
    (let s := live [(Reg.SCN_STAT_BLIND, 0, 1), (Reg.KPR_CFG_BLIND_TMO, 0, 1)]
     s.is Reg.SCN_STAT_BLIND 0 = true ∧ s.is Reg.KPR_CFG_BLIND_TMO 0 = true ∧ s.is Hid.BLIND_SD 0 = false) ∧
    (live [(Reg.SQ_CFG_MODE, 63, 0)]).sqMode 63 ≠ 3 ∧ (live [(Reg.SQ_CFG_MODE, 63, 3)]).sqMode 63 = 3 ∧ (live []).is Hid.SQ_PG 63 = false ∧
    (let s := live [(Reg.SEQ_OUT_OUT_KIND, 5, 2), (Reg.SEQ_OUT_OUT_NUM, 5, 63), (Reg.SEQ_OUT_RSTATE, 5, 1), (Reg.SEQ_JDG_CHAN, 5, 255), (Reg.SEQ_JDG_PG_SRC, 5, 255)]
     s.railOf 2 63 = some 5 ∧ s.rail 5 = 1 ∧ s.hasChan 5 = false ∧ s.hasPg 5 = false) := by decide +kernel

theorem witness_Daybook : (live [(Hid.NVM_JOB, 0, 2)]).get Hid.NVM_JOB 0 = 2 ∧ (live [(Hid.NVM_JOB, 0, 2)]).carries = true ∧
    (live [(Reg.DBK_CFG_TIMED_S, 0, 1)]).timedIsDue = false ∧
    (let s := live [(Reg.DBK_CFG_TIMED_S, 0, 1), (Reg.DBK_STAT_TOKENS, 0, 64), (Hid.BK_TICK, 0, 2 ^ 15)]
     s.vao = true ∧ s.timedIsDue = true ∧ s.linked .spi = true) := by decide +kernel

theorem witness_StallsFailAndStart : (let s := runs1 []
    s.runs = true ∧ s.is Hid.BOOTWIN 0 = false ∧ s.carried 1 = some 1 ∧ s.sl 1 = slRun ∧ s.get Reg.STL_SPARE_SPARE 0 = 0 ∧ s.is Hid.S_SHBAD 1 = false ∧
    s.carried 4 = none) ∧ (runs1 [(Hid.S_SHBAD, 1, 1)]).is Hid.S_SHBAD 1 = true ∧ (runs1 [(Reg.STL_SPARE_SPARE, 0, 1)]).get Reg.STL_SPARE_SPARE 0 ≠ 0 ∧
    (let s := runs1 [(Hid.BOOTWIN, 0, 1)]; s.is Hid.BOOTWIN 0 = true ∧ s.carried 1 = some 1 ∧ s.get Reg.STL_SPARE_SPARE 0 = 0) ∧
    (let s := live [(Reg.STL_STAT_STATE, 3, 5), (Reg.STL_SPARE_FOR, 0, 3), (Reg.STL_SPARE_SPARE, 0, 1)]
     s.runs = true ∧ s.get Reg.STL_SPARE_SPARE 0 ≠ 0 ∧ s.get Reg.STL_SPARE_FOR 0 = 3 ∧ s.sl 3 = slTakeover) ∧
    (let s := live [(Hid.S_LEN, 3, 1)]; Permitted s .spi 0x6000 8 ∧ Permitted s .spi 0x6000 0x800 ∧ s.sl 3 = slStopped ∧ s.is Hid.S_LEN 3 = true) := by
  unfold Permitted; decide +kernel

theorem witness_WatchdogsAndMailboxes : (let s := runs1 [(Reg.STL_WDCFG_TMO, 1, 1), (Reg.STL_WDCFG_RST, 1, 0), (Hid.S_WDC, 1, 499)]
    s.wdRuns 1 = true ∧ s.is Reg.STL_WDCFG_RST 1 = false ∧ 0 < s.wdTop 1 / 2 - s.get Hid.S_WDC 1 ∧
    ∀ k : Stl, s.wdRuns k = true → s.get Hid.S_WDC k + (s.wdTop 1 / 2 - s.get Hid.S_WDC 1) < s.wdTop k) ∧
    (let s := runs1 [(Reg.STL_WDCFG_TMO, 1, 1), (Reg.STL_WDCFG_RST, 1, 1), (Hid.S_WDC, 1, 999)]; s.wdRuns 1 = true ∧ s.is Reg.STL_WDCFG_RST 1 = true) ∧
    (0x5A : Word).toNat % 256 = 0x5A ∧
    (({ live [] with mail := List.replicate 7 (0, 0) } : State).mail.filter (fun e => e.1 == 0)).length < 8 ∧
    8 ≤ (({ live [] with mail := List.replicate 8 (0, 0) } : State).mail.filter (fun e => e.1 == 0)).length := by decide +kernel

theorem witness_InputsComeAndGo : (live []).canRange 0 = true ∧ (live [(Reg.PORT_STAT_TC, 1, 2)]).canRange 2 = true ∧ (live []).get Hid.TSTEP 0 ≠ 5 ∧
    (let s := live [(Hid.TSTEP, 0, 5), (Hid.TRANS, 0, 3)]; s.get Hid.TSTEP 0 = 5 ∧ s.trans = 3) ∧ (live [(Hid.TSTEP, 0, 5), (Hid.TRANS, 0, 4)]).trans = 4 ∧
    (live []).inSt 0 = 0 ∧ (live []).inEn 0 = true ∧ (live []).sel = none ∧
    (live []).moving 1 = false ∧ (live [(Hid.PE_EXCH, 1, 2)]).moving 1 = true ∧
    (let s := live [(Reg.PP_STAT_DCIN_ST, 0, 1), (Hid.IN_OK, 0, 1), (Reg.PP_STAT_P1_ST, 0, 1), (Hid.IN_OK, 2, 1)]
     s.inSt 0 = 1 ∧ s.is Hid.IN_OK 0 = true ∧ s.inSt 2 = 1 ∧ s.is Hid.IN_OK 2 = true) ∧
    (let s := live [(Reg.PP_STAT_SEL, 0, 3), (Reg.PP_STAT_P1_ST, 0, 3), (Reg.PP_STAT_DCIN_ST, 0, 2), (Reg.PP_CFG_UPGRADE, 0, 1), (Reg.PP_STAT_BFET, 0, 2),
       (Hid.CONV_ON, 0, 1)]
     s.sel = some 2 ∧ s.mayUpgrade 0 = true ∧ s.inSt 2 = 3 ∧ s.convOn = true ∧ s.sel.isSome = true ∧ s.batAvail = true ∧
     s.is Reg.PP_STAT_SUPPL 0 = false ∧ s.is Hid.CONV_REL 0 = false) ∧
    (let s := live [(Reg.PP_STAT_SEL, 0, 3), (Reg.PP_STAT_P1_ST, 0, 4), (Reg.PP_STAT_DCIN_ST, 0, 2), (Reg.PP_CFG_UPGRADE, 0, 1), (Reg.PP_STAT_BFET, 0, 2), (Hid.CONV_REL, 0, 1)]
     s.sel = some 2 ∧ s.mayUpgrade 0 = true ∧ s.inSt 2 ≠ 3 ∧ s.sel.isSome = true ∧ s.batAvail = true ∧ s.is Hid.CONV_REL 0 = true) ∧
    (let s := live [(Reg.PP_STAT_SEL, 0, 1), (Reg.PP_STAT_DCIN_ST, 0, 3), (Hid.CONV_ON, 0, 1)]; s.sel = some 0 ∧ s.inSt 0 = 3 ∧ s.convOn = true) ∧
    (live [(Reg.PP_STAT_DCIN_ST, 0, 4)]).inSt 0 = 4 ∧ (live [(Reg.PP_CTRL_CHG_EN, 0, 1)]).get Reg.PP_CTRL_CHG_EN 0 ≤ 1 := by decide +kernel

theorem witness_BatteryAndBatfet : (live [(Reg.PP_STAT_BFET, 0, 1)]).get Reg.PP_STAT_BFET 0 = 1 ∧
    (let s := live [(Reg.PP_STAT_BATT_ABSENT, 0, 1), (Reg.PP_STAT_BFET, 0, 0), (Hid.IN_QUAL, 0, 1)]
     s.is Reg.PP_STAT_BATT_ABSENT 0 = true ∧ s.onBatt = false ∧ s.is Hid.PT_RUN 0 = false ∧ s.cur ≠ 4) ∧
    (let s := live [(Reg.PP_STAT_BAT, 0, 1), (Reg.CHG_TMR_PT_PERIOD, 0, 1), (Reg.PP_STAT_BFET, 0, 0), (Hid.IN_QUAL, 0, 1)]
     s.batPresent = true ∧ s.get Reg.CHG_TMR_PT_PERIOD 0 ≠ 0 ∧ s.charging = false ∧ s.onBatt = false) ∧
    (live [(Hid.PT_RUN, 0, 1)]).is Hid.PT_RUN 0 = true ∧ (live [(Reg.CHG_STAT_PHASE, 0, 3)]).charging = true ∧ (live [(Reg.CHG_STAT_PHASE, 0, 1)]).charging = true ∧
    (let s := live [(Reg.PP_STAT_BFET, 0, 2)]; s.onBatt = true ∧ s.active = true) ∧
    (let s := live [(Reg.PP_STAT_BFET, 0, 2), (Reg.PWR_STATE_CUR, 0, 3)]; s.onBatt = true ∧ s.hold = true) ∧
    (let s := live [(Reg.PP_STAT_BFET, 0, 2), (Reg.PWR_STATE_CUR, 0, 1)]; s.onBatt = true ∧ s.standby = true) ∧
    (live [(Hid.CONV_REL, 0, 1)]).is Hid.CONV_REL 0 = true := by decide +kernel

theorem witness_ChargerPhases : (let s := live []; s.phase = 0 ∧ s.cells * (s.vpre + 100) ≤ s.cells * (s.vpre + 100) ∧ s.cells * s.vregNow ≤ s.cells * s.vregNow) ∧
    (let s := live [(Reg.PP_CTRL_CHG_EN, 0, 1), (Reg.PP_STAT_BAT, 0, 1), (Hid.IN_QUAL, 0, 1), (Reg.PP_STAT_BFET, 0, 2), (Reg.CHG_LIM_NTC_CH, 0, 255), (Reg.CHG_LIM_NTC_REQ, 0, 0)]
     s.phase = 0 ∧ s.inhibit = 0) ∧
    (let s := live [(Reg.CHG_STAT_PHASE, 0, 1)]; s.phase = 1 ∧ s.phase ≠ 5 ∧ s.preTmo ≤ s.get Hid.CHG_PRE_T 0 + s.preTmo) ∧
    (let s := live [(Reg.CHG_STAT_PHASE, 0, 2)]; s.phase = 2 ∧ 0 < s.safeRate ∧ s.safeTmo ≤ s.get Hid.CHG_SAFE_T 0 + s.safeRate * s.safeTmo) ∧
    (live [(Reg.CHG_STAT_PHASE, 0, 3)]).phase = 3 ∧
    (live [(Reg.CHG_STAT_PHASE, 0, 4)]).phase = 4 ∧ Permitted (live [(Reg.CHG_STAT_PHASE, 0, 4)]) .spi 0x3004 ((live []).ppWord 8) ∧
    (live [(Reg.CHG_STAT_PHASE, 0, 4)]).get Reg.PP_CTRL_CHG_EN 0 ≤ 1 ∧
    (let s := live [(Reg.PWR_STATE_CUR, 0, 1), (Reg.PP_STAT_BAT, 0, 1), (Hid.IN_QUAL, 0, 1)]
     s.standby = true ∧ s.batPresent = true ∧ s.anyInput = true ∧ s.is Hid.CHG_ONCE 0 = false) := by
  unfold Permitted; decide +kernel

theorem witness_PortsAttachAndDetach : (let s := live []; s.tcFree 1 = true ∧ s.tc 1 = 0 ∧ s.presents 1 false = true ∧ s.is Hid.PO_DSC 1 = false) ∧
    (let s := live [(Reg.PORT_CFG_ROLE, 1, 1)]; s.tcFree 1 = true ∧ s.presents 1 true = true ∧ s.role 1 ≠ 2) ∧
    (let s := live [(Reg.PORT_CFG_ROLE, 0, 2), (Reg.PORT_CFG_TRY_SNK, 0, 1), (Hid.PO_RP, 0, 1)]
     s.tcFree 0 = true ∧ s.presents 0 true = true ∧ s.role 0 = 2 ∧ s.is Reg.PORT_CFG_TRY_SNK 0 = true ∧ s.tc 0 ≠ 4 ∧ s.tc 0 = 0 ∧ s.terminates 0 = true) ∧
    (live [(Reg.PORT_STAT_TC, 1, 1)]).tc 1 = 1 ∧ (live [(Reg.PORT_STAT_TC, 1, 4)]).tc 1 = 4 ∧
    (let s := live [(Reg.PORT_STAT_TC, 1, 2), (Reg.PORT_CFG_PD_EN, 1, 1)]
     s.tc 1 ≠ 0 ∧ s.sinkOn 1 = true ∧ s.phy 1 = true ∧ s.get Reg.PORT_STAT_CONTRACT 1 = 0 ∧ s.exch 1 = 0 ∧ s.is Reg.PORT_STAT_NO_PD 1 = false ∧
     s.safeLoss 1 = false) ∧
    (let s := live [(Reg.PORT_STAT_TC, 1, 2), (Reg.PORT_CFG_PD_EN, 1, 1), (Reg.PP_STAT_DCIN_ST, 0, 2), (Hid.PO_HRN, 1, 1), (Hid.PE_EXCH, 1, 8)]
     s.safeLoss 1 = true ∧ s.get Hid.PO_HRN 1 < 2 ∧ s.phy 1 = true ∧ s.exch 1 = 8) ∧
    2 ≤ (live [(Hid.PO_HRN, 1, 2)]).get Hid.PO_HRN 1 ∧
    (let s := live [(Reg.PORT_STAT_TC, 1, 3), (Hid.PO_HR, 1, 2), (Hid.PO_DSC, 1, 1)]
     s.sourceOn 1 = true ∧ s.get Hid.PO_HR 1 = 2 ∧ s.is Hid.PO_DSC 1 = true ∧ s.exch 1 ≠ 7) ∧
    (let s := live [(Reg.PORT_STAT_TC, 1, 3), (Hid.PE_EXCH, 1, 7), (Hid.PO_DSC, 1, 1)]; s.sourceOn 1 = true ∧ s.get Hid.PO_HR 1 ≠ 1 ∧ s.exch 1 = 7) ∧
    (let s := live [(Hid.PO_HR, 1, 1), (Hid.PO_DSC, 1, 1)]; s.is Hid.PO_DSC 1 = true ∧ s.get Hid.PO_HR 1 = 1 ∧ s.exch 1 ≠ 7 ∧ s.sourceOn 1 = false) := by
  decide +kernel

/-- A sink port with PD, its exchange set. -/
def sink (l : List (Fld × Nat × Nat)) : State := live ([(Reg.PORT_STAT_TC, 1, 2), (Reg.PORT_CFG_PD_EN, 1, 1)] ++ l)

theorem witness_SinkPolicyMessages : (let s := sink []; s.hears 1 = true ∧ s.sinkOn 1 = true ∧ s.exch 1 ≠ 7 ∧ s.role 1 ≠ 2 ∧ s.exch 1 = 0) ∧
    (sink [(Hid.PE_EXCH, 1, 7)]).exch 1 = 7 ∧ (sink [(Reg.PORT_CFG_ROLE, 1, 2)]).role 1 = 2 ∧
    (let s := sink [(Hid.PE_EXCH, 1, 1), (Hid.PO_WAITS, 1, 1)]; s.hears 1 = true ∧ s.exch 1 = 1 ∧ s.get Hid.PO_EPR 1 ≠ 4 ∧ s.get Hid.PO_WAITS 1 < 2) ∧
    (let s := sink [(Hid.PE_EXCH, 1, 1), (Hid.PO_WAITS, 1, 2), (Hid.PO_EPR, 1, 4)]; s.exch 1 = 1 ∧ s.get Hid.PO_EPR 1 = 4 ∧ s.get Hid.PO_WAITS 1 = 2) ∧
    (let s := sink [(Hid.PO_RETRY, 1, 1), (Hid.PO_WAITS, 1, 2)]; s.get Hid.PO_RETRY 1 = 1 ∧ s.mayStart 1 = true ∧ s.get Hid.PO_WAITS 1 ≠ 3) ∧
    (let s := sink [(Hid.PO_RETRY, 1, 1), (Hid.PO_WAITS, 1, 3)]; s.mayStart 1 = true ∧ s.get Hid.PO_WAITS 1 = 3) ∧
    (let s := sink [(Hid.PE_EXCH, 1, 2)]; s.exch 1 = 2 ∧ s.get Hid.PO_EPR 1 ≠ 4) ∧ (sink [(Hid.PE_EXCH, 1, 2), (Hid.PO_EPR, 1, 4)]).get Hid.PO_EPR 1 = 4 ∧
    (sink [(Hid.PO_EPR, 1, 1)]).get Hid.PO_EPR 1 = 1 ∧ (sink [(Hid.PE_EXCH, 1, 6)]).exch 1 = 6 ∧
    (let s := sink [(Reg.PORT_STAT_EPR, 1, 1), (Reg.PORT_STAT_CONTRACT, 1, 2)]
     s.is Reg.PORT_STAT_EPR 1 = true ∧ s.get Reg.PORT_STAT_CONTRACT 1 = 2 ∧ s.get Reg.PORT_STAT_CONTRACT 1 ≠ 3 ∧ s.mayStart 1 = true) ∧
    (sink [(Reg.PORT_STAT_CONTRACT, 1, 3)]).get Reg.PORT_STAT_CONTRACT 1 = 3 := by decide +kernel

theorem witness_SourcePolicyAndSupply : (let s := live [(Reg.PORT_STAT_TC, 0, 3), (Reg.PORT_CFG_PD_EN, 0, 1), (Hid.PO_EN, 0, 1)]
    s.sourceOn 0 = true ∧ s.hears 0 = true ∧ s.exch 0 = 0 ∧ s.exch 0 ≠ 7 ∧ s.vao = true ∧ s.is Hid.PO_EN 0 = true ∧
    s.is Hid.PO_SW 0 = false ∧ s.get Hid.PO_HR 0 = 0 ∧ s.phy 0 = true) ∧
    (let s := live [(Reg.PORT_STAT_TC, 0, 3), (Hid.PO_EN, 0, 1), (Hid.PE_EXCH, 0, 7)]; s.sourceOn 0 = true ∧ s.is Hid.PO_SW 0 = false ∧ s.exch 0 = 7) ∧
    (let s := live [(Reg.PORT_STAT_TC, 0, 3), (Hid.PE_EXCH, 0, 5), (Hid.PO_SW, 0, 1)]
     s.sourceOn 0 = true ∧ s.exch 0 = 5 ∧ s.phy 0 = false ∧ s.is Hid.PO_SW 0 = true) ∧
    (let s := live [(Reg.PORT_STAT_TC, 0, 3), (Reg.PORT_CFG_PD_EN, 0, 1), (Hid.PE_EXCH, 0, 5)]; s.exch 0 = 5 ∧ s.phy 0 = true ∧ s.hears 0 = true) := by decide +kernel

theorem witness_SwapsAndOtherMessages : (sink [(Hid.PE_EXCH, 1, 9)]).exch 1 = 9 ∧
    (let s := sink [(Reg.PORT_CFG_ROLE, 1, 2), (Reg.PORT_CFG_PRS_POL, 1, 2), (Reg.PORT_STAT_VCONN, 1, 1), (Hid.PO_DISC, 1, 1), (Hid.PO_RETRY, 1, 2)]
     s.hears 1 = true ∧ s.exch 1 = 0 ∧ s.prAllowed 1 = true ∧ s.is Reg.PORT_CFG_DRS_EN 1 = true ∧ s.is Reg.PORT_STAT_VCONN 1 = true ∧ s.is Hid.PO_DISC 1 = true ∧
     s.get Hid.PO_RETRY 1 = 2 ∧ s.mayStart 1 = true) ∧
    (let s := sink [(Reg.PORT_CFG_DRS_EN, 1, 0), (Hid.PO_RETRY, 1, 3), (Reg.PORT_CFG_VCONN_EN, 1, 1)]
     s.prAllowed 1 = false ∧ s.is Reg.PORT_CFG_DRS_EN 1 = false ∧ s.get Hid.PO_RETRY 1 = 3 ∧ s.mayStart 1 = true ∧ s.is Reg.PORT_STAT_VCONN 1 = false ∧
     s.is Reg.PORT_CFG_VCONN_EN 1 = true ∧ s.is Hid.PO_VCOCP 1 = false) ∧
    (sink [(Reg.PORT_CFG_VCONN_EN, 1, 0)]).is Reg.PORT_CFG_VCONN_EN 1 = false ∧ (sink [(Hid.PO_VCOCP, 1, 1)]).is Hid.PO_VCOCP 1 = true := by decide +kernel

theorem witness_PortProtectionAndCommands : (let s := sink []; s.vao = true ∧ s.sinkOn 1 = true) ∧
    (let s := live [(Reg.PORT_STAT_TC, 0, 5)]; s.tc 0 = 5 ∧ s.is Hid.PO_CCOV 0 = false ∧ s.sinkOn 0 = false ∧ s.tc 0 ≠ 6) ∧
    (live [(Reg.PORT_STAT_TC, 0, 6)]).tc 0 = 6 ∧ (live [(Hid.PO_CCOV, 0, 1)]).is Hid.PO_CCOV 0 = true ∧ (live [(Hid.PO_CCOV, 0, 1)]).tc 0 ≠ 5 ∧
    (live [(Reg.PORT_STAT_VCONN, 0, 1)]).is Reg.PORT_STAT_VCONN 0 = true ∧
    (let s := live []; s.exch 1 = 0 ∧ s.is Hid.PO_CMD 1 = false ∧ s.txOk 1 = true) ∧ (live [(Hid.PE_EXCH, 1, 9)]).exch 1 ≠ 0 ∧
    (let s := live [(Hid.PO_CMD, 1, 6)]; s.up = true ∧ s.is Hid.PO_CMD 1 = true ∧ s.portWaits 1 (s.get Hid.PO_CMD 1) = false) := by decide +kernel

theorem witness_GaugeCommands : (let s := live [(Reg.GG_STAT_VALID, 0, 1), (Reg.GG_STAT_REF_STALE, 0, 0)]
    s.gaugeLive = true ∧ s.is Reg.GG_STAT_REF_STALE 0 = false ∧ s.carries = true ∧ s.shuntAmps (0 : Nat) < (s.iRest : Nat)) ∧
    (let s : State := { live [(Reg.GG_STAT_REF_STALE, 0, 0)] with gauge := { (live []).gauge with hrs0 := 72 } }
     72 * 3600 * 32768 ≤ s.gauge.hrs0 * 3600 * 32768 + (s.tick + 2 ^ 48 - s.gauge.refTick) % 2 ^ 48) ∧
    (live [(Hid.CELLHI2, 0, 1)]).get Hid.CELLHI2 0 = 1 ∧ (live []).get Hid.CELLHI2 0 ≠ 1 ∧ (live [(Hid.NVM_JOB, 0, 1)]).get Hid.NVM_JOB 0 = 1 ∧
    (let s : State := { live [] with gauge := { (live []).gauge with startDue := true } }
     s.gauge.startDue = true ∧ s.is Reg.PP_STAT_BATT_ABSENT 0 = false) := by decide +kernel

theorem witness_LedgerCommands : (live [(Hid.LS_WIN, 127, 1)]).is Hid.LS_WIN 127 = true ∧ isUnit 71 = true ∧
    (let s := live [(Reg.LS_STAT_QUIET, 71, 1), (Reg.LS_TIME_RCV_MAX, 71, 1), (Hid.TNOW, 0, 10 ^ 12)]
     let b := s.passTime (s.get Hid.LS_QT 71 + s.quietUs 71 - s.usec)
     s.is Reg.LS_STAT_QUIET 71 = true ∧ b.up = true ∧ b.get Reg.LS_STAT_RCV 71 < b.get Reg.LS_TIME_RCV_MAX 71) ∧
    (let s := live [(Reg.LS_STAT_QUIET, 71, 1), (Reg.LS_TIME_RCV_MAX, 71, 1), (Reg.LS_STAT_RCV, 71, 1), (Hid.TNOW, 0, 10 ^ 12)]
     let b := s.passTime (s.get Hid.LS_QT 71 + s.quietUs 71 - s.usec)
     s.is Reg.LS_STAT_QUIET 71 = true ∧ b.up = true ∧ b.get Reg.LS_TIME_RCV_MAX 71 ≤ b.get Reg.LS_STAT_RCV 71) ∧
    isLink .smbus = true ∧ isLink (.stl 0) = false ∧ (live []).busDrv = false ∧ (live [(Hid.BUS_ARM, 0, 0)]).is Hid.BUS_ARM 0 = false ∧
    (live [(Hid.BUS_ARM, 0, 1)]).is Hid.BUS_ARM 0 = true := by decide +kernel

theorem witness_LedgerClassifiesAnEvent : (live []).get Reg.LS_STAT_CUR_CLASS 127 ≤ 4 ∧ (live []).grave = false ∧ (live [(Reg.LG_STAT_GRAVE, 0, 1)]).grave = true ∧
    classOf 85 ((live []).get Reg.LS_CFG_CLASS 85) = 4 := by decide +kernel

theorem witness_BackupDomain : (let s := made [(Hid.MAIN, 0, 0), (Hid.DOM_ON, 0, 1)]; s.vao = false ∧ s.domain = true) ∧
    (let s := live [(Hid.DOM_ON, 0, 1), (Hid.VBKUP_OK, 0, 1), (Hid.RTC_DUE, 0, 1), (Reg.RTC_ALM_HI_EN, 0, 1)]
     s.domain = true ∧ s.is Hid.VBKUP_OK 0 = true ∧ s.vao = true ∧ s.is Reg.BK_STAT_VBKUP_LOW 0 = false ∧ s.runs = true ∧ s.is Reg.BK_STAT_ON_RC 0 = false ∧
     s.tick % 2 ^ 20 = 0 ∧ s.is Hid.RTC_DUE 0 = true ∧ s.bkUnder 0x5018 = false ∧ s.bkUnder 0x501C = false ∧ s.almDue = true) ∧
    (let s : State := { live [(Hid.DOM_ON, 0, 1)] with bkq := [(0x5018, 0)] }; s.vao = true ∧ s.domain = true ∧ s.bkq = (0x5018, 0) :: []) := by
  decide +kernel

/-- Source 5 pends for target 0; a claim of target 3 by identity 1. -/
theorem witness_Interrupts : (let s := live [(Hid.IC_ENA, 0, 32), (Hid.IS_SOFT, 0, 32)]
    s.claimPick 0 = some 5 ∧ s.serves .spi 0 = true ∧ s.serves .spi 1 = true ∧ s.serves .spi 2 = false ∧ s.grave = false ∧ s.presentable 0 5 = true) ∧
    (runs1 []).serves (.stl 1) 3 = true ∧ (runs1 []).claimPick 3 = none ∧ isStall (.stl 1) = true ∧ isStall .spi = false ∧
    (let s := live [(Reg.LG_STAT_GRAVE, 0, 1)]; s.grave = true ∧ s.linked .spi = true) ∧
    (0x1FF : Word).toNat % 512 = 0x1FF ∧
    (let s := live [(Reg.IS_ACT_ACT, 7, 2 ^ 31), (Hid.IS_CLM, 255, 1)]; s.arr Reg.IS_ACT_ACT 255 = true ∧ s.get Hid.IS_CLM 255 = 1) ∧
    (live []).arr Reg.IS_ACT_ACT 255 = false := by decide +kernel

theorem witness_Timers : (let s := live [(Reg.TM_CTRL_RUN, 15, 1), (Reg.TM_STAT_MAT_PEND, 15, 1)]
    s.carries = true ∧ s.tmRun 15 = true ∧ s.is Reg.TM_STAT_MAT_PEND 15 = true ∧ s.tmRun 0 = false ∧ s.linked .spi = true) ∧
    (let s := made [(Hid.MAIN, 0, 1), (Hid.WARM, 0, 1), (Reg.TM_CTRL_RUN, 0, 1)]; s.carries = true ∧ s.tmRun 0 = true) := by decide +kernel

theorem witness_SpiFrames : (live []).linked .spi = true ∧ (live []).fclk = true ∧ ([7] : List Word).length = (0 : BitVec 8).toNat + 1 ∧
    (let crc := crc8 (spiHead 0x02 0x404 0 ++ spiBytes [7]); (BitVec.ofNat 8 crc).toNat = crc) ∧
    (let crc := crc8 (spiHead 0x0B 0x404 255); crc = (BitVec.ofNat 8 crc).toNat) ∧ crc8 [0x05] = (BitVec.ofNat 8 (crc8 [0x05])).toNat := by decide +kernel

theorem witness_SmbusRegisterAccess : (live []).smbUp = true ∧
    (let crc := crc8 ((live []).demand.smbHead 0xD0 ++ leBytes 2 0xFFFF); (BitVec.ofNat 8 crc).toNat = crc) ∧
    (let data : List (BitVec 8) := List.replicate 32 0xAA; data ≠ [] ∧ data.length % 4 = 0 ∧ data.length ≤ 32) ∧
    (let s := live [(Reg.HL_SMB_CFG_TMO_EN, 0, 1), (Reg.HL_SMB_CFG_ARA_EN, 0, 1), (Hid.PM_ALERT, 0, 1)]
     s.is Reg.HL_SMB_CFG_TMO_EN 0 = true ∧ s.is Reg.HL_SMB_CFG_ARA_EN 0 = true ∧ s.is Hid.PM_ALERT 0 = true) := by decide +kernel

/-- Pages 7 and 0x20 + 191, with channels in each mode; the page that names every page. -/
theorem witness_Pmbus : (let s := live [(Hid.PM_PAGE, 0, 7), (Reg.PM_LOOP_ICH, 7, 190), (Reg.CH_CFG_MODE, 190, 2), (Reg.CH_DATA_VALUE, 190, 0x8000)]
    s.smbUp = true ∧ s.demand.page ≠ 0xFF ∧ s.demand.page < 8 ∧ s.get Reg.PM_LOOP_ICH 7 = 190 ∧ s.get Reg.CH_CFG_MODE 190 = 2 ∧
    linear11 (shuntAmps (s.get Reg.CH_DATA_VALUE 190) (s.get Reg.PM_LOOP_RSH 7)).1 (shuntAmps (s.get Reg.CH_DATA_VALUE 190) (s.get Reg.PM_LOOP_RSH 7)).2.1
      (shuntAmps (s.get Reg.CH_DATA_VALUE 190) (s.get Reg.PM_LOOP_RSH 7)).2.2 = some 0xC000) ∧
    (let s := live [(Hid.PM_PAGE, 0, 0xDF), (Reg.CH_CFG_MODE, 191, 1)]
     s.demand.pageChan s.demand.page = some 191 ∧ s.demand.get Reg.CH_CFG_MODE 191 = 1 ∧ 8 ≤ s.demand.page) ∧
    (live [(Hid.PM_PAGE, 0, 0x20)]).demand.get Reg.CH_CFG_MODE 0 = 0 ∧
    (live [(Reg.PM_LOOP_VCH, 0, 255)]).demand.pageChan 0 = none ∧ (live [(Hid.PM_PAGE, 0, 0xFF)]).demand.page = 0xFF ∧
    pageOk 7 = true ∧ pageOk 8 = false ∧ pageOk 0x1F = false ∧ pageOk 0x20 = true ∧ pageOk 0xDF = true ∧ pageOk 0xE0 = false ∧ pageOk 0xFF = true ∧
    0x01 ∉ pmCodes := by decide +kernel

theorem witness_SecurityAndDebug : (live [(Hid.OTPJOB, 0, 4)]).get Hid.OTPJOB 0 = 4 ∧ (live [(Hid.OTPJOB, 0, 3)]).get Hid.OTPJOB 0 ≤ 3 ∧
    (let s := live [(Reg.SEC_LC_LC, 0, 1)]; s.lc ≠ lcField ∧ s.session = 0 ∧ s.is Hid.RSPBUSY 0 = false ∧ s.lockedOut = false ∧ s.runs = true) ∧
    (live [(Reg.SEC_LC_LC, 0, 2)]).lc = lcField ∧ (let s := live [(Hid.LOCKOUT, 0, 1), (Hid.TNOW, 0, 9999999)]; s.lockedOut = true ∧ s.is Hid.LOCKOUT 0 = true ∧ s.vao = true) ∧
    (let s := live [(Hid.NONCE_OK, 0, 1), (Hid.TNOW, 0, 59999999)]
     s.is Hid.NONCE_OK 0 = true ∧ s.is Hid.RSPBUSY 0 = false ∧ s.usec < s.get Hid.NONCE_T 0 + 60000000) ∧
    (let s := live [(Hid.NONCE_OK, 0, 1), (Hid.TNOW, 0, 60000000)]; s.is Hid.NONCE_OK 0 = true ∧ s.get Hid.NONCE_T 0 + 60000000 ≤ s.usec) ∧
    (let s := live [(Hid.RSPBUSY, 0, 1), (Hid.RSPOK, 0, 1), (Hid.RSPSCOPE, 0, 3)]
     s.is Hid.RSPBUSY 0 = true ∧ s.is Hid.RSPOK 0 = true ∧ s.get Hid.RSPSCOPE 0 ≤ 3) ∧ (live []).is Hid.RSPOK 0 = false ∧
    (let s := live [(Reg.SEC_DBG_SESSION, 0, 1), (Reg.STL_STAT_STATE, 3, 1), (Hid.S_HALT, 3, 1), (Hid.S_HALT, 0, 1)]
     s.session ≠ 0 ∧ (s.put Hid.EXT 0 0).dbgFull = true ∧ s.sl 3 = slRun ∧ s.is Hid.S_HALT 3 = true ∧
     (((s.put Hid.EXT 0 0).put Hid.S_HALT 3 0).stepOne 3).session ≠ 0 ∧ s.dbgFull = true) ∧
    (let s := live [(Reg.SEC_DBG_SESSION, 0, 1), (Reg.SEC_LC_LC, 0, 3)]
     s.dbgFull = true ∧ s.lc ≠ lcField ∧ s.quietRails = true ∧ s.sqAsserted = false) ∧ (live []).dbgFull = false := by decide +kernel

end Sys2Proof.Tests
end

section
/-! PROOFS. Every command completes, and keeps every property of states that the operations of the part keep (`Open`): the shapes that commands
share first, then the commands. -/

namespace Sys2Proof.Machine
open Sys2Proof

/-- A meaning completes, in a state of the property. -/
def Keeps (P : State → Prop) (o : Out) : Prop := ∃ t, o = .next t ∧ P t

section
variable {P : State → Prop} (hP : Open P) {s : State}
include hP

/- The operations that commands are made of, with their operands left to be found. -/

theorem Open.puts {f : Fld} {n v : Nat} (h : P s) : P (s.put f n v) := hP.put s f n v h

theorem Open.marks {f : Fld} {n : Nat} {b : Bool} (h : P s) : P (s.mark f n b) := open_mark P hP s f n b h

theorem Open.flags {f : Fld} {n v : Nat} (h : P s) : P (s.flag f n v) := open_flag P hP s f n v h

theorem Open.raises {n : Nat} (h : P s) : P (s.raise n) := closed_raise P hP.closed s n h

theorem Open.irqs {n : Nat} (h : P s) : P (s.irq n) := closed_irq P hP.closed s n h

theorem Open.passes {d : Nat} (h : P s) : P (s.passTime d) := closed_passTime P hP s d h

theorem Open.demands (h : P s) : P s.demand := closed_demand P hP.closed s h

theorem Open.ports {f : Fld} {x : Nat} (h : P s) : P (s.portFlag f x) := open_portFlag P hP s f x h

theorem Open.senses {n : Nat} {m : LoopSense} (h : P s) : P (s.sense n m) := closed_sense P hP s n m h

theorem Open.ifs {c : Bool} {f : State → State} (h : P s) (hf : ∀ t, P t → P (f t)) : P (s.ifDo c f) := closed_ifDo P hP.closed s c f h hf

theorem Open.sends {x m : Nat} (h : P s) : P (s.tx x m) := closed_tx P hP.closed s x m h

theorem Open.outs (o : List Word) (h : P s) : P { s with out := o } := hP.top _ _ _ _ _ _ _ _ _ _ _ _ _ _ _ _ _ id id id h

/- The shapes of a command's outcome. -/

omit hP in
theorem keeps_done (h : P s) : Keeps P (done s) := ⟨s, rfl, h⟩

theorem keeps_ended (h : P s) : Keeps P (ended s) := ⟨_, rfl, closed_finish P hP.closed s h⟩

omit hP in
theorem keeps_ite {c : Prop} [Decidable c] {o p : Out} (ho : Keeps P o) (hp : Keeps P p) : Keeps P (if c then o else p) := by
  split
  · exact ho
  · exact hp

theorem keeps_doneIf {c : Bool} {f : State → State} (h : P s) (hf : ∀ t, P t → P (f t)) : Keeps P (done (s.ifDo c f)) :=
  keeps_done (hP.ifs h hf)

theorem keeps_endedIf {c : Bool} {f : State → State} (h : P s) (hf : ∀ t, P t → P (f t)) : Keeps P (ended (s.ifDo c f)) :=
  keeps_ended hP (hP.ifs h hf)

/-- A register write, by any writer. -/
theorem keeps_regWrite {w : Writer} {a v : Nat} (h : P s) : Keeps P (regWrite s w a v) :=
  keeps_ended hP (closed_busWrite P hP _ _ _ _ (closed_spiFrame P hP _ _ h))

/-- A register read, by any reader. -/
theorem keeps_regGet {w : Writer} {a : Nat} (h : P s) : Keeps P (regGet s w a) :=
  keeps_ite (keeps_done h) (keeps_ended hP (hP.outs _ (closed_busRead P hP _ _ _ (closed_spiFrame P hP _ _ h))))

/-- What an identity executes. -/
theorem keeps_tar {st : Nat} {f : State → State} (h : P s) (hf : ∀ t, P t → P (f t)) : Keeps P (tar st s f) :=
  keeps_ite (keeps_ended hP (closed_runOne P hP _ _ _ h hf)) (keeps_done h)

/-- A Tarragon instruction. -/
theorem keeps_instr {i : Instr} {st : Nat} (hi : exec i s = tar st s (opOf i)) (h : P s) : Keeps P (exec i s) :=
  hi ▸ keeps_tar hP h fun t ht => closed_opOf P hP i t ht

/-- A message of a port's partner. -/
theorem keeps_heard {x : Nat} {f : State → State} (h : P s) (hf : ∀ t, P t → P (f t)) : Keeps P (s.heard x f) :=
  keeps_endedIf hP (closed_bmc P hP.closed _ _ h) hf

/-- An SMBus transaction. -/
theorem keeps_smbus {f : State → State} (h : P s) (hf : ∀ t, P t → P (f t)) : Keeps P (smbus s f) :=
  keeps_ite (keeps_ended hP (hf _ (hP.demands h))) (keeps_done h)

/-- An SMBus transaction on a page. -/
theorem keeps_paged {f : State → State} (h : P s) (hf : ∀ t, P t → P (f t)) : Keeps P (paged s f) :=
  keeps_smbus hP h fun t ht => closed_ite P _ _ _ (closed_nack P hP t 6 ht) (hf t ht)

end

/- The commands of the supplies, clocks and power states. -/

section
variable {P : State → Prop} (hP : Open P) {s : State} (hs : P s)
include hP hs

theorem keeps_resetHoldEnd (h p : Bool) (rel : HoldEnd) : Keeps P (execResetHoldEnd h p rel s) :=
  keeps_doneIf hP hs fun _ ht =>
    closed_forEach P hP.closed _ _ _ (hP.puts (hP.puts (hP.puts (hP.puts (hP.marks (hP.marks ht)))))) fun _ _ hu => hP.puts hu

theorem keeps_standbyBurst : Keeps P (execStandbyBurst s) :=
  keeps_endedIf hP hs fun _ ht => hP.ifs (hP.ifs ht fun _ hu => hP.passes hu) fun u hu => closed_burstStart P hP u hu

theorem keeps_vbatLegWindowEnd : Keeps P (execVbatLegWindowEnd s) :=
  keeps_doneIf hP hs fun _ ht => hP.puts (hP.ifs ht fun _ hu => hP.puts hu)

theorem keeps_holdDwellEnd : Keeps P (execHoldDwellEnd s) :=
  keeps_endedIf hP hs fun _ ht => hP.ifs (hP.puts (hP.passes ht)) fun u hu => closed_backToActive P hP u hu

/- The commands of the loops. -/

theorem keeps_phaseCurrentLimit (p : PhaseAt) : Keeps P (execPhaseCurrentLimit p s) :=
  keeps_doneIf hP (hP.puts hs) fun _ ht => hP.puts (hP.puts (hP.puts ht))

theorem keeps_highSideShort (n : LoopN) (m : CheckSense) : Keeps P (execHighSideShort n m s) :=
  keeps_endedIf hP (hP.senses hs) fun _ ht => hP.raises (hP.puts (closed_swOpen P hP.closed _ _ (hP.puts (hP.puts ht))))

theorem keeps_prestartCheckPass (n : LoopN) (m : CheckSense) : Keeps P (execPrestartCheckPass n m s) :=
  keeps_doneIf hP (hP.senses hs) fun _ ht => hP.ifs (hP.passes ht) fun u hu => closed_softBegins P hP u _ _ hu

theorem keeps_softStartEnd (n : LoopN) : Keeps P (execSoftStartEnd n s) :=
  keeps_endedIf hP hs fun _ ht => hP.ifs (hP.passes ht) fun u hu => closed_softEnds P hP u _ hu

theorem keeps_loopStopComplete (n : LoopN) : Keeps P (execLoopStopComplete n s) :=
  keeps_endedIf hP hs fun _ ht => hP.ifs (hP.passes ht) fun u hu => closed_loopStopped P hP u _ hu

theorem keeps_rushStart (l : LoopAt) : Keeps P (execRushStart l s) :=
  keeps_doneIf hP (hP.senses hs) fun _ ht => hP.puts (hP.puts (hP.puts ht))

theorem keeps_rushEnd (l : LoopAt) : Keeps P (execRushEnd l s) :=
  keeps_doneIf hP (hP.senses hs) fun _ ht => closed_rushEnd P hP.closed _ _ (hP.ifs ht fun _ hu => hP.passes hu)

theorem keeps_brakeStart (l : LoopAt) : Keeps P (execBrakeStart l s) :=
  keeps_doneIf hP (hP.senses hs) fun _ ht => hP.puts (hP.puts (hP.puts ht))

theorem keeps_brakeEnd (l : LoopAt) : Keeps P (execBrakeEnd l s) :=
  keeps_doneIf hP (hP.senses hs) fun _ ht => closed_brakeEnd P hP.closed _ _ (hP.ifs ht fun _ hu => hP.passes hu)

theorem keeps_pgAssert (l : LoopAt) : Keeps P (execPgAssert l s) :=
  keeps_endedIf hP (hP.senses hs) fun _ ht => hP.ifs (hP.passes ht) fun u hu => hP.puts (closed_pgHigh P hP u _ hu)

theorem keeps_pgDeassert (l : LoopAt) : Keeps P (execPgDeassert l s) :=
  keeps_endedIf hP (hP.senses hs) fun _ ht => closed_pgLow P hP.closed _ _ (hP.passes ht)

theorem keeps_readmitCheckEnd (k : PhaseN) (visen : Nat) : Keeps P (execReadmitCheckEnd k visen s) :=
  keeps_endedIf hP (hP.puts hs) fun _ ht => hP.ifs (hP.passes ht) fun u hu =>
    closed_ite P _ _ _ (closed_phaseJoin P hP.closed u _ hu) (hP.raises (hP.puts (hP.puts (hP.puts hu))))

theorem keeps_syncLoss : Keeps P (execSyncLoss s) := keeps_doneIf hP hs fun _ ht => hP.irqs (hP.puts (hP.puts (hP.puts ht)))

/- The commands of the criers and the Keeper. -/

omit hs in
theorem Open.crierSees {c : Nat} {hi : Bool} {uv ns : Nat} (h : P s) : P (s.crierSees c hi uv ns) :=
  closed_ite P _ _ _ (closed_crierMove P hP s c hi true h) (hP.ifs h fun t ht => closed_crierMove P hP t c hi false ht)

theorem keeps_crierBlankEnd (c : CrierN) (uv ns : Nat) : Keeps P (execCrierBlankEnd c uv ns s) :=
  keeps_endedIf hP hs fun _ ht => hP.ifs (hP.passes ht) fun _ hu => closed_blankEnds P hP _ _ (hP.crierSees (hP.crierSees hu))

theorem keeps_upTimeout (r : RailN) : Keeps P (execUpTimeout r s) :=
  keeps_endedIf hP hs fun t ht => closed_shutdown P hP.closed _ (hP.raises (closed_setLatch P hP.closed t _ _ _ ht))

theorem keeps_blindTimeout : Keeps P (execBlindTimeout s) :=
  keeps_endedIf hP hs fun _ ht =>
    closed_shutdown P hP.closed _ (closed_record P hP.closed _ _ _ _ _ (closed_setLatch P hP.closed _ _ _ _ (hP.puts ht)))

theorem keeps_sqPgFilter (p : SqN) (level : Bool) : Keeps P (execSqPgFilter p level s) :=
  keeps_endedIf hP hs fun _ ht => hP.ifs (hP.marks ht) fun _ hu => closed_pgChange P hP.closed _ _ _ (hP.marks hu)

theorem keeps_sqRailGoodDelay (p : SqN) : Keeps P (execSqRailGoodDelay p s) := by
  refine keeps_endedIf hP hs fun t ht => ?_
  split
  · exact ht
  · exact hP.ifs ht fun u hu => closed_becomeGood P hP.closed u _ hu

/- The commands of the stalls. -/

theorem keeps_waitResume (st : Stl) : Keeps P (execWaitResume st s) :=
  keeps_ite (keeps_ended hP (closed_runOne P hP s _ _ hs fun t ht => closed_endWait P hP t _ _ ht)) (keeps_done hs)

theorem keeps_waitTimeout (st : Stl) : Keeps P (execWaitTimeout st s) :=
  keeps_ite (keeps_endedIf hP (closed_advanceTo P hP s _ hs) fun u hu =>
    closed_runOne P hP u _ _ hu fun v hv => closed_endWait P hP v _ _ hv) (keeps_done hs)

theorem keeps_unassignedOpcode (st : Stl) (word : Word) : Keeps P (execUnassignedOpcode st word s) :=
  keeps_ite (keeps_tar hP hs fun t ht => closed_runWord P hP t st word ht) (keeps_done hs)

/-- The pair fails after what one of its cores had issued on its own, or after nothing (R222). -/
theorem keeps_lockstepMismatch (pair : PairN) (issue : CoreIssue) : Keeps P (execLockstepMismatch pair issue s) := by
  refine keeps_ite (keeps_done hs) (keeps_ended hP (closed_mismatch P hP _ _ _ ?_))
  split
  · exact closed_issueOnly P hP s _ _ _ hs
  · exact hs

theorem keeps_shadowBankError (st : Stl) : Keeps P (execShadowBankError st s) :=
  keeps_endedIf hP hs fun t ht => closed_ite P _ _ _ (closed_bankBad P hP t _ ht)
    (hP.ifs ht fun u hu => closed_secondFailure P hP _ _ (closed_bankBad P hP u _ hu))

/- The commands of the power path and the charger. -/

theorem keeps_inputInRange (i : InputN) : Keeps P (execInputInRange i s) :=
  keeps_endedIf hP hs fun _ ht =>
    closed_stepsInput P hP _ _ (hP.ifs (hP.puts (hP.puts ht)) fun u hu => closed_setInSt P hP u _ _ hu)

theorem keeps_inputOutOfRange (out : InputLeft) : Keeps P (execInputOutOfRange out s) :=
  keeps_endedIf hP hs fun _ ht =>
    hP.ifs (hP.ifs (closed_notReady P hP _ _ (closed_setInSt P hP _ _ _ (hP.marks (hP.puts ht)))) fun u hu => closed_portAbort P hP u _ hu)
      fun u hu => closed_stepsInput P hP u _ hu

theorem keeps_inputDebounceEnd (ready : InputsSettled) : Keeps P (execInputDebounceEnd ready s) :=
  keeps_endedIf hP hs fun _ ht =>
    closed_selectNext P hP _ (closed_forEach P hP.closed _ _ _ ht fun u _ hu => closed_setInSt P hP u _ _ hu)

theorem keeps_inputUpgrade (i : InputN) : Keeps P (execInputUpgrade i s) :=
  keeps_endedIf hP hs fun t ht => closed_ite P _ _ _ (closed_holdUpgrade P hP t _ ht) (closed_upgrade P hP t _ ht)

theorem keeps_inputLoss (cause : LossCause) : Keeps P (execInputLoss cause s) := by
  refine keeps_ended hP (closed_ite P _ _ _ hs ?_)
  split
  · exact hs
  · exact closed_lossBy P hP s _ _ hs

theorem keeps_inputSwitchFail (i : InputN) : Keeps P (execInputSwitchFail i s) :=
  keeps_endedIf hP hs fun _ ht => closed_afterLoss P hP _ _ _ (closed_openInput P hP _ _ _ (hP.raises (hP.flags ht)))

theorem keeps_searchStep (vin0 vin reg : Nat) : Keeps P (execSearchStep vin0 vin reg s) :=
  keeps_endedIf hP hs fun _ ht => closed_ite P _ _ _ (closed_searchStep P hP _ _ _ (hP.marks ht))
    (hP.ifs (hP.marks ht) fun u hu => closed_searchBack P hP u _ _ hu)

theorem keeps_supplementStart : Keeps P (execSupplementStart s) :=
  keeps_endedIf hP hs fun _ ht => hP.ifs (hP.irqs (hP.flags (hP.puts ht))) fun _ hu => hP.puts hu

theorem keeps_chgClr (w : Writer) (now : ChgSense) : Keeps P (execChgClr w now s) :=
  keeps_endedIf hP (hP.ifs (closed_busWrite P hP _ _ _ _ (closed_spiFrame P hP _ _ hs)) fun u hu => closed_chgFault P hP u _ hu)
    fun u hu => closed_phaseFrom P hP u _ hu

theorem keeps_batteryRemoval : Keeps P (execBatteryRemoval s) :=
  keeps_endedIf hP hs fun t ht => hP.raises (hP.flags (closed_batGone P hP t ht))

theorem keeps_batteryUndervoltage : Keeps P (execBatteryUndervoltage s) :=
  keeps_endedIf hP hs fun _ ht => hP.ifs (hP.raises (hP.flags ht)) fun u hu => closed_batteryEmpty P hP.closed u hu

/- The commands of the cable ports. -/

theorem keeps_typecDetach (x : PortN) : Keeps P (execTypecDetach x s) :=
  keeps_ended hP (closed_ite P _ _ _ (hP.ifs hs fun _ ht => hP.puts ht) (hP.ifs hs fun t ht => closed_detach P hP t _ ht))

theorem keeps_sourceCapTimeout (x : PortN) : Keeps P (execSourceCapTimeout x s) :=
  keeps_endedIf hP hs fun _ ht =>
    closed_ite P _ _ _ (closed_noPd P hP _ _ (hP.puts ht)) (closed_sendHardReset P hP _ _ (open_sat P hP _ _ _ _ (hP.puts ht)))

theorem keeps_sourceCapabilities (x : PortN) (rev3 epr : Bool) (pdos : List Word) : Keeps P (execSourceCapabilities x rev3 epr pdos s) :=
  keeps_heard hP hs fun t ht => closed_ite P _ _ _ (closed_nsup P hP t _ ht)
    (hP.ifs (closed_storeCaps P hP _ _ _ _ (closed_eprCut P hP _ _ (closed_rev P hP t _ _ ht))) fun u hu => closed_requestNow P hP u _ hu)

theorem keeps_acceptMessage (x : PortN) : Keeps P (execAcceptMessage x s) := by
  refine keeps_heard hP hs fun t ht => ?_
  split
  · exact hP.puts (hP.puts ht)
  · exact closed_prStart P hP t _ ht
  · exact closed_flipData P hP t _ ht
  · exact ht

theorem keeps_rejectMessage (x : PortN) : Keeps P (execRejectMessage x s) := by
  refine keeps_heard hP hs fun t ht => ?_
  have refused : P (t.refusedReq x) := closed_refusedReq P hP t _ ht
  split
  · exact refused
  · exact refused
  · exact refused
  · exact hP.puts ht
  · exact ht

theorem keeps_waitMessage (x : PortN) : Keeps P (execWaitMessage x s) := by
  refine keeps_heard hP hs fun t ht => ?_
  have refused : P (t.refusedReq x) := closed_refusedReq P hP t _ ht
  split
  · exact hP.ifs (hP.puts (hP.puts (open_sat P hP t _ _ _ ht))) fun _ hu => hP.ports hu
  · exact hP.puts refused
  · exact hP.puts refused
  · exact ht

theorem keeps_waitRetry (x : PortN) : Keeps P (execWaitRetry x s) :=
  keeps_endedIf hP hs fun t ht => closed_ite P _ _ _ (closed_request P hP.closed t _ _ ht) (closed_requestNow P hP t _ ht)

theorem keeps_psRdy (x : PortN) : Keeps P (execPsRdy x s) := by
  refine keeps_heard hP hs fun t ht => ?_
  split
  · exact closed_afterContract P hP _ _ (closed_newContract P hP t _ ht)
  · exact closed_prRdy P hP t _ ht
  · exact closed_swapDone P hP _ _ (hP.puts (hP.puts ht))
  · exact ht

theorem keeps_requestMessage (x : PortN) (rev3 epr : Bool) (rdo : Word) : Keeps P (execRequestMessage x rev3 epr rdo s) :=
  keeps_heard hP hs fun t ht =>
    have hr := closed_rev P hP t x rev3 ht
    closed_ite P _ _ _ (closed_nsup P hP t _ ht)
      (closed_ite P _ _ _ (hP.sends hr) (closed_ite P _ _ _ (hP.sends hr) (closed_answerRequest P hP _ _ _ hr)))

theorem keeps_prSwap (x : PortN) : Keeps P (execPrSwap x s) :=
  keeps_heard hP hs fun t ht =>
    closed_ite P _ _ _ (hP.sends ht) (closed_ite P _ _ _ (hP.sends (closed_prStart P hP t _ ht)) (hP.sends ht))

theorem keeps_drSwap (x : PortN) : Keeps P (execDrSwap x s) :=
  keeps_heard hP hs fun t ht =>
    closed_ite P _ _ _ (hP.sends ht) (closed_ite P _ _ _ (hP.sends (closed_flipData P hP t _ ht)) (hP.sends ht))

theorem keeps_vconnSwap (x : PortN) : Keeps P (execVconnSwap x s) :=
  keeps_heard hP hs fun t ht =>
    closed_ite P _ _ _ (hP.sends ht) (closed_ite P _ _ _ (hP.sends (hP.puts ht))
      (closed_ite P _ _ _ (closed_vconnTake P hP t _ ht) (hP.sends ht)))

theorem keeps_softResetMessage (x : PortN) : Keeps P (execSoftResetMessage x s) :=
  keeps_heard hP hs fun t ht =>
    hP.ifs (hP.sends (closed_endExchange P hP.closed _ _ (closed_eprCut P hP t _ ht))) fun u hu => closed_sendCaps P hP.closed u _ hu

theorem keeps_hardResetReceived (x : PortN) : Keeps P (execHardResetReceived x s) :=
  keeps_endedIf hP (closed_bmc P hP.closed s _ hs) fun _ ht => closed_hardReset P hP _ _ (hP.ports ht)

theorem keeps_sourceHardResetRestore (x : PortN) : Keeps P (execSourceHardResetRestore x s) :=
  keeps_endedIf hP hs fun _ ht =>
    closed_sendCaps P hP.closed _ _ (closed_vconnOn P hP.closed _ _ (hP.puts (closed_sourceStart P hP _ _ (hP.puts ht))))

theorem keeps_eprModeMessage (x : PortN) (action : BitVec 8) : Keeps P (execEprModeMessage x action s) :=
  keeps_heard hP hs fun t ht =>
    closed_ite P _ _ _ (closed_eprMode P hP t _ _ ht) (closed_ite P _ _ _ (hP.sends ht) (closed_nsup P hP t _ ht))

theorem keeps_discoverIdentityReply (x : PortN) (ack eprCap : Bool) (icap vmax : BitVec 2) :
    Keeps P (execDiscoverIdentityReply x ack eprCap icap vmax s) :=
  keeps_heard hP hs fun _ ht => hP.ifs ht fun _ hu => hP.puts (hP.puts (hP.marks (hP.puts hu)))

theorem keeps_extendedControlMessage (x : PortN) (kind : BitVec 8) : Keeps P (execExtendedControlMessage x kind s) := by
  refine keeps_heard hP hs fun t ht => ?_
  have unsupported : P (t.nsup x) := closed_nsup P hP t _ ht
  split
  · exact closed_ite P _ _ _ (hP.sends ht) unsupported
  · exact closed_ite P _ _ _ (hP.sends ht) unsupported
  · exact ht
  · exact ht
  · exact unsupported

theorem keeps_notSupportedMessage (x : PortN) : Keeps P (execNotSupportedMessage x s) := by
  refine keeps_heard hP hs fun t ht => ?_
  have refused : P (t.refusedReq x) := closed_refusedReq P hP t _ ht
  split
  · exact refused
  · exact refused
  · exact refused
  · exact closed_eprFail P hP t _ ht
  · exact hP.puts ht
  · exact ht

theorem keeps_sourceSettled (x : PortN) : Keeps P (execSourceSettled x s) :=
  keeps_endedIf hP hs fun _ ht => hP.ifs (closed_newContract P hP _ _ (hP.puts ht)) fun _ hu => hP.sends hu

theorem keeps_sourceSettleTimeout (x : PortN) : Keeps P (execSourceSettleTimeout x s) :=
  keeps_endedIf hP hs fun t ht => closed_settleFail P hP _ _ (closed_sendHardReset P hP t _ ht)

theorem keeps_vbusDischarged (x : PortN) : Keeps P (execVbusDischarged x s) :=
  keeps_endedIf hP hs fun _ ht => hP.ifs (hP.ifs (hP.puts ht) fun _ hu => hP.puts hu) fun _ hu => hP.sends hu

theorem keeps_ccOvervoltage (x : PortN) : Keeps P (execCcOvervoltage x s) :=
  keeps_endedIf hP hs fun _ ht =>
    hP.puts (closed_unattach P hP.closed _ _ _ (hP.ifs (hP.raises (hP.ports ht)) fun u hu => closed_portEnds P hP u _ hu))

theorem keeps_ccOvRecovery (x : PortN) : Keeps P (execCcOvRecovery x s) :=
  keeps_endedIf hP hs fun _ ht => hP.ifs (hP.puts ht) fun _ hu => hP.puts hu

/- The commands of the gauge, the Ledger and the backup domain. -/

theorem keeps_relaxedReference (rest : RestSense) : Keeps P (execRelaxedReference rest s) :=
  keeps_endedIf hP hs fun t ht => closed_levels P hP _ (closed_gaugeReport P hP _ (closed_gaugeRef P hP t _ _ _ _ ht))

theorem keeps_ledgerWindowExpiry (n : SrcN) : Keeps P (execLedgerWindowExpiry n s) :=
  keeps_endedIf hP hs fun _ ht => hP.puts (hP.puts (hP.passes ht))

theorem keeps_quietPeriodEnd (n : SrcN) : Keeps P (execQuietPeriodEnd n s) :=
  keeps_endedIf hP hs fun _ ht => hP.ifs (hP.passes ht) fun u hu => closed_quietEnd P hP u _ hu

theorem keeps_fltbusIn : Keeps P (execFltbusIn s) :=
  keeps_endedIf hP hs fun _ ht => hP.ifs (hP.puts ht) fun _ hu => hP.raises (hP.puts hu)

theorem keeps_vbkupLow : Keeps P (execVbkupLow s) :=
  keeps_endedIf hP hs fun _ ht => hP.ifs (hP.puts ht) fun _ hu => hP.raises hu

theorem keeps_crystalLoss : Keeps P (execCrystalLoss s) :=
  keeps_endedIf hP hs fun _ ht => hP.ifs (hP.puts (hP.puts ht)) fun _ hu => hP.raises hu

/- The commands of security and debug. -/

theorem keeps_debugHalt (st : Stl) : Keeps P (execDebugHalt st s) :=
  keeps_endedIf hP hs fun t ht => hP.ifs (closed_tapDbg P hP t ht) fun _ hu =>
    closed_ite P _ _ _ (hP.puts hu) (hP.ifs hu fun _ hv => hP.puts hv)

theorem keeps_debugStep (st : Stl) : Keeps P (execDebugStep st s) :=
  have tapped := closed_tapDbg P hP s hs
  keeps_ite (keeps_ite (keeps_endedIf hP (closed_stepOne P hP _ _ (hP.puts tapped)) fun _ hu => hP.ifs hu fun _ hv => hP.puts hv)
    (keeps_ended hP tapped)) (keeps_done hs)

/- The commands of the host links. -/

theorem keeps_spiReadFrame (addr : BitVec 16) (burst hdrCrc : BitVec 8) (early : Nat) : Keeps P (execSpiReadFrame addr burst hdrCrc early s) :=
  keeps_ite (keeps_done hs) (keeps_ended hP (hP.outs _ (hP.ifs (hP.ifs (closed_readBurst P hP _ _ _ _ (closed_spiFrame P hP s _ hs))
    fun u hu => closed_lastCrc P hP _ (closed_headCrcBad P hP u hu)) fun _ hu => hP.flags hu)))

theorem keeps_spiWriteFrame (addr : BitVec 16) (burst : BitVec 8) (words : List Word) (crc : BitVec 8) :
    Keeps P (execSpiWriteFrame addr burst words crc s) :=
  have framed := closed_spiFrame P hP _ .spi (hP.demands hs)
  keeps_ite (keeps_done hs) (keeps_ite (keeps_ended hP (closed_frameBad P hP _ (hP.demands hs)))
    (keeps_ite (keeps_ended hP (closed_lastCrc P hP _ (open_sat P hP _ _ _ _ framed))) (keeps_ended hP (closed_writeBurst P hP _ _ _ _ framed))))

theorem keeps_spiStatusFrame (hdrCrc : BitVec 8) (early : Bool) : Keeps P (execSpiStatusFrame hdrCrc early s) :=
  keeps_ite (keeps_done hs) (keeps_ended hP (hP.outs _ (hP.ifs (hP.ifs (hP.demands hs) fun u hu => closed_headCrcBad P hP u hu)
    fun _ hu => hP.flags hu)))

theorem keeps_spiFrameBad (kind : SpiBad) : Keeps P (execSpiFrameBad kind s) := by
  refine keeps_ite (keeps_done hs) ?_
  have bad : P s.demand.frameBad := closed_frameBad P hP _ (hP.demands hs)
  cases kind with
  | command => exact keeps_ended hP (hP.puts bad)
  | length => exact keeps_ended hP bad
  | busy => exact keeps_ended hP (hP.puts bad)
  | cut addr words =>
    exact keeps_ended hP (hP.outs _ (closed_frameBad P hP _ (closed_readBurst P hP _ _ _ _ (closed_spiFrame P hP _ _ (hP.demands hs)))))

theorem keeps_mfrRegPtr (wr : Option (BitVec 16)) (pec : Option (BitVec 8)) : Keeps P (execMfrRegPtr wr pec s) := by
  refine keeps_smbus hP hs fun t ht => ?_
  cases wr with
  | none => exact closed_smbSend P hP t _ _ ht
  | some p => exact closed_smbWrite P hP t _ _ _ _ ht fun _ hu => hP.puts hu

theorem keeps_mfrRegLen (wr pec : Option (BitVec 8)) : Keeps P (execMfrRegLen wr pec s) := by
  refine keeps_smbus hP hs fun t ht => ?_
  cases wr with
  | none => exact closed_smbSend P hP t _ _ ht
  | some v => exact closed_smbWrite P hP t _ _ _ _ ht fun _ hu => hP.puts hu

theorem keeps_page (wr pec : Option (BitVec 8)) : Keeps P (execPage wr pec s) := by
  refine keeps_smbus hP hs fun t ht => ?_
  cases wr with
  | none => exact closed_smbSend P hP t _ _ ht
  | some v => exact closed_ite P _ _ _ (closed_smbWrite P hP t _ _ _ _ ht fun _ hu => hP.puts hu) (closed_nack P hP t _ ht)

theorem keeps_statusCml (wr pec : Option (BitVec 8)) : Keeps P (execStatusCml wr pec s) := by
  refine keeps_smbus hP hs fun t ht => ?_
  cases wr with
  | none => exact closed_smbSend P hP t _ _ ht
  | some v => exact closed_smbWrite P hP t _ _ _ _ ht fun _ hu => hP.puts hu

theorem keeps_mfrRegDataWrite (data : List (BitVec 8)) (pec : Option (BitVec 8)) : Keeps P (execMfrRegDataWrite data pec s) :=
  keeps_smbus hP hs fun _ ht => closed_smbWrite P hP _ _ _ _ _ (hP.ifs ht fun _ hu => closed_cml P hP _ _ (hP.puts hu))
    fun u hu => closed_ite P _ _ _ hu (closed_ptrOn P hP _ _ _ (closed_writeBurst P hP u _ _ _ hu))

theorem keeps_clearFaults (pec : Option (BitVec 8)) : Keeps P (execClearFaults pec s) :=
  keeps_smbus hP hs fun t ht => closed_smbWrite P hP t _ _ _ _ ht fun _ hu =>
    closed_alertOff P hP _ (closed_forEach P hP.closed _ _ _ hu fun v _ hv => closed_pageClear P hP v _ hv)

theorem keeps_readIout : Keeps P (execReadIout s) := by
  refine keeps_paged hP hs fun t ht => closed_ite P _ _ _ (closed_nack P hP t _ ht) ?_
  dsimp only
  split
  · exact closed_smbSend P hP t _ _ ht
  · exact closed_smbSend P hP _ _ _ (closed_drawFree P hP t _ ht)

theorem keeps_mfrReadRaw : Keeps P (execMfrReadRaw s) := by
  refine keeps_paged hP hs fun t ht => ?_
  split
  · exact closed_smbSend P hP t _ _ ht
  · exact closed_nack P hP t _ ht

theorem keeps_capability : Keeps P (execCapability s) := keeps_paged hP hs fun t ht => closed_smbSend P hP t _ _ ht

theorem keeps_voutMode : Keeps P (execVoutMode s) := keeps_paged hP hs fun t ht => closed_smbSend P hP t _ _ ht

theorem keeps_pmbusRevision : Keeps P (execPmbusRevision s) := keeps_paged hP hs fun t ht => closed_smbSend P hP t _ _ ht

theorem keeps_mfrId : Keeps P (execMfrId s) := keeps_paged hP hs fun t ht => closed_smbSend P hP t _ _ ht

theorem keeps_mfrModel : Keeps P (execMfrModel s) := keeps_paged hP hs fun t ht => closed_smbSend P hP t _ _ ht

theorem keeps_mfrRevision : Keeps P (execMfrRevision s) := keeps_paged hP hs fun t ht => closed_smbSend P hP t _ _ ht

theorem keeps_statusByte : Keeps P (execStatusByte s) := keeps_paged hP hs fun t ht => closed_smbSend P hP _ _ _ (closed_latchUnknown P hP t ht)

theorem keeps_statusWord : Keeps P (execStatusWord s) := keeps_paged hP hs fun t ht => closed_smbSend P hP _ _ _ (closed_latchUnknown P hP t ht)

theorem keeps_statusVout (wr pec : Option (BitVec 8)) : Keeps P (execStatusVout wr pec s) :=
  keeps_paged hP hs fun t ht => closed_statusReg P hP t _ _ _ _ _ _ ht

theorem keeps_statusIout (wr pec : Option (BitVec 8)) : Keeps P (execStatusIout wr pec s) :=
  keeps_paged hP hs fun t ht => closed_statusReg P hP t _ _ _ _ _ _ ht

theorem keeps_statusTemperature (wr pec : Option (BitVec 8)) : Keeps P (execStatusTemperature wr pec s) :=
  keeps_paged hP hs fun t ht => closed_statusReg P hP t _ _ _ _ _ _ ht

theorem keeps_voutOvFaultLimit (wr : Bool) : Keeps P (execVoutOvFaultLimit wr s) := keeps_paged hP hs fun t ht => closed_limit P hP t _ _ _ ht

theorem keeps_voutOvWarnLimit (wr : Bool) : Keeps P (execVoutOvWarnLimit wr s) := keeps_paged hP hs fun t ht => closed_limit P hP t _ _ _ ht

theorem keeps_voutUvWarnLimit (wr : Bool) : Keeps P (execVoutUvWarnLimit wr s) := keeps_paged hP hs fun t ht => closed_limit P hP t _ _ _ ht

theorem keeps_voutUvFaultLimit (wr : Bool) : Keeps P (execVoutUvFaultLimit wr s) := keeps_paged hP hs fun t ht => closed_limit P hP t _ _ _ ht

theorem keeps_mfrRegDataRead : Keeps P (execMfrRegDataRead s) :=
  keeps_smbus hP hs fun t ht => closed_smbSend P hP _ _ _ (closed_ptrOn P hP _ _ _ (closed_readBurst P hP t _ _ _ ht))

theorem keeps_pmbusInvalidCommand (code : BitVec 8) : Keeps P (execPmbusInvalidCommand code s) :=
  keeps_smbus hP hs fun t ht => closed_ite P _ _ _ ht (closed_nack P hP t _ ht)

theorem keeps_alertResponse (win : Bool) : Keeps P (execAlertResponse win s) :=
  keeps_smbus hP hs fun _ ht => hP.ifs ht fun _ hu => hP.outs _ (hP.puts hu)

theorem keeps_voutCommand (wr : Bool) : Keeps P (execVoutCommand wr s) :=
  keeps_paged hP hs fun t ht => closed_ite P _ _ _ (closed_nack P hP t _ ht) (closed_smbSend P hP t _ _ ht)

theorem keeps_readVout : Keeps P (execReadVout s) := keeps_paged hP hs fun t ht => closed_sendVolt P hP t _ _ ht

/-- Every command completes, and keeps every property of states that putting a field, dropping a retention class and changing the parts outside the
registers each keep. -/
theorem exec_keeps (c : Instr) : Keeps P (exec c s) := by
  cases c with
  -- A register write.
  | orderViolClear _ | hostReset _ | softRstKeyBad _ _ | pwrReqStandby _ | pwrReqRun _ | pwrReqShip _ | pwrReqCancel _ | pwrReqUndefined _ _
  | stbyCfgWrite _ _ | hssClear _ _ | chnCfgWrite _ _ _ | chnThresholdWrite _ _ _ _ | crierCfgWrite _ _ _ _ | keeperOnRequest _
  | keeperOffRequest _ | latchClear _ | daybookAck _ | dbkCfgWrite _ _ | hostSnapshot _ | stallStart _ _ | stallRestart _ _ | watchdogKick _ _ _
  | hostMailboxPost _ _ _ | mailboxPop _ | mailboxFlushHost _ | mailboxFlushRx _ _ | searchRestart _ | batGo _ | retest _ | ppsWrite _ _ _
  | newPack _ | hostAdmit _ _ | rcvClr _ _ | stickyClear _ _ _ | rtcSet _ _ | softwarePend _ _ _ | softwareClear _ _ _ | irqComplete _ _ _
  | timerStart _ _ | timerStop _ _ | gstart _ | gstop _ | timerMatHiWrite _ _ _ | lifecycleRequest _ _ | otpHashProgram _ _
  | tpertLockstepOneshot _ _ | tpertRefFail _ _ | nvmWindowWrite _ _ _ | bootCfgWrite _ _ | registerWrite _ _ _ | cmdRenegotiate _ _
  | cmdPrSwap _ _ | cmdDrSwap _ _ | cmdHardReset _ _ | cmdClrLatch _ _ | eprExit _ _ =>
    exact keeps_regWrite hP hs
  -- A register read.
  | daybookCrcRead _ _ | irqClaim _ _ | timerCountRead _ _ _ => exact keeps_regGet hP hs
  -- A Tarragon instruction.
  | tAdd _ _ _ _ | tSub _ _ _ _ | tAnd _ _ _ _ | tOr _ _ _ _ | tXor _ _ _ _ | tShl _ _ _ _ | tShr _ _ _ _ | tAsr _ _ _ _ | tMul16 _ _ _ _
  | tCmp _ _ _ | tJr _ _ | tAddi _ _ _ _ | tAndi _ _ _ _ | tOri _ _ _ _ | tXori _ _ _ _ | tShli _ _ _ _ | tShri _ _ _ _ | tAsri _ _ _ _
  | tCmpi _ _ _ | tLdi _ _ _ | tLui _ _ _ | tLd _ _ _ _ | tSt _ _ _ _ | tPin _ _ _ _ | tPout _ _ _ _ | tBr _ _ _ | tCall _ _ _ | tRet _
  | tWait _ _ _ _ _ | tWaitt _ _ _ _ _ | tRdt _ _ | tRamp _ _ _ _ | tEnab _ _ _ | tDisb _ _ _ | tFence _ _ _ | tAdmit _ _ _ | tMeas _ _ _ _
  | tMeasb _ _ _ _ | tJudge _ _ _ _ | tLog _ _ _ _ | tLogb _ _ _ _ | tRaise _ _ _ | tSend _ _ _ _ | tRecv _ _ _ | tSeal _ | tYield _ | tHalt _
  | tCopyb _ _ _ _ => exact keeps_instr hP rfl hs
  -- An operation of the part, where its condition holds.
  | preTmoExpiry | safeTmoExpiry | watchdogEarly _ | watchdogExpiry _ => exact keeps_endedIf hP hs fun _ ht => hP.passes ht
  | timerMatch _ | timerOverflow _ | timerMatchCommit _ => exact keeps_endedIf hP hs fun t ht => closed_tmWait P hP t _ _ ht
  | sourceOvercurrent _ | sourceShort _ | sourceOvervoltage _ | sourceReverseCurrent _ => exact keeps_ended hP (closed_sourceTrip P hP s _ _ hs)
  | debugClose | trstLow => exact keeps_endedIf hP hs fun t ht => closed_endSession P hP t ht
  | pingMessage _ | sinkCapabilitiesMessage _ _ => exact keeps_heard hP hs fun _ ht => ht
  | getSourceCap _ | getSinkCap _ => exact keeps_heard hP hs fun t ht => closed_ite P _ _ _ (hP.sends ht) (closed_nsup P hP t _ ht)
  | supplyBrownout _ | pinReset => exact keeps_endedIf hP hs fun t ht => closed_coldReset P hP t _ ht
  | vcollapse | shipPendInputRemoved => exact keeps_doneIf hP hs fun t ht => closed_mainDown P hP t _ ht
  | vbkupRise => exact keeps_done (hP.ifs (hP.puts (hP.puts hs)) fun _ ht => hP.puts ht)
  | vaoRise _ _ _ _ => exact keeps_doneIf hP hs fun t ht => closed_vaoUp P hP t _ _ _ _ ht
  | hostioLow => exact keeps_endedIf hP hs fun _ ht => hP.raises (hP.puts ht)
  | hostioResume => exact keeps_doneIf hP hs fun _ ht => closed_linksReset P hP _ (hP.puts ht)
  | orderViolDetect _ => exact keeps_doneIf hP hs fun _ ht => hP.puts (hP.puts (hP.puts (hP.puts ht)))
  | warmTmoExpiry => exact keeps_endedIf hP hs fun t ht => closed_release P hP.closed t _ ht
  | romBootStage => exact keeps_endedIf hP hs fun t ht => closed_romBoot P hP t ht
  | bootWindowTimeout => exact keeps_endedIf hP hs fun _ ht => closed_closeWindow P hP _ (hP.raises (hP.puts ht))
  | standbyEntryDone => exact keeps_endedIf hP hs fun t ht => closed_rest P hP.closed t _ ht
  | runTransitionEnd => exact keeps_endedIf hP hs fun t ht => closed_runEnd P hP t ht
  | fclkUsable => exact keeps_endedIf hP hs fun t ht => closed_fclkOn P hP t ht
  | fclkLock | drpToggle _ | crystalReturn => exact keeps_doneIf hP hs fun _ ht => hP.puts ht
  | clkFault => exact keeps_endedIf hP hs fun _ ht => hP.raises ht
  | fclkStop | fltbusNHigh | vbkupLowClear => exact keeps_doneIf hP hs fun _ ht => hP.puts (hP.puts ht)
  | phaseFaultDetect _ _ => exact keeps_endedIf hP (hP.senses hs) fun _ ht => hP.raises (hP.puts ht)
  | phaseReadmit _ => exact keeps_doneIf hP hs fun t ht => closed_phaseReadmit P hP t _ ht
  | syncLock _ => exact keeps_doneIf hP hs fun _ ht => hP.puts (hP.puts (hP.puts ht))
  | scanEnd sample => exact keeps_endedIf hP hs fun t ht => closed_scanEnd P hP t sample ht
  | crierTrip _ _ | crierRelease _ _ => exact keeps_endedIf hP hs fun t ht => closed_crierSet P hP t _ _ _ ht
  | toffMinExpiry => exact keeps_endedIf hP hs fun t ht => closed_enterRising P hP t ht
  | shutdownStep => exact keeps_endedIf hP hs fun t ht => closed_shutdownStep P hP t ht
  | shutdownTimeout => exact keeps_endedIf hP hs fun t ht => closed_shutdownTimeout P hP t ht
  | daybookUnitWriteDone ok => exact keeps_endedIf hP hs fun t ht => closed_daybookUnit P hP t ok ht
  | daybookToken => exact keeps_doneIf hP hs fun t ht => open_sat P hP t _ _ _ ht
  | timedRecord => exact keeps_endedIf hP hs fun t ht => closed_timedDue P hP t ht
  | takeoverComplete _ => exact keeps_endedIf hP hs fun t ht => closed_takeoverEnd P hP t _ _ ht
  | spareSelfTest _ => exact keeps_endedIf hP hs fun t ht => closed_spareLost P hP t ht
  | supplementEnd => exact keeps_done (hP.puts hs)
  | batfetSoftstartEnd => exact keeps_endedIf hP hs fun _ ht => closed_bfetRefresh P hP.closed _ (hP.puts ht)
  | batfetSoftstartFail | dischargeShort => exact keeps_endedIf hP hs fun _ ht => hP.raises (hP.flags (hP.puts (hP.puts ht)))
  | chargerPhaseChange _ => exact keeps_endedIf hP hs fun t ht => closed_phaseMove P hP t _ ht
  | chargeTermination => exact keeps_endedIf hP hs fun t ht => closed_setPhase P hP.closed t _ _ ht
  | recharge => exact keeps_endedIf hP hs fun _ ht => closed_setPhase P hP.closed _ _ _ (hP.marks ht)
  | chargeOvercurrent => exact keeps_endedIf hP hs fun t ht => closed_chgFault P hP t _ ht
  | chgNeed => exact keeps_endedIf hP hs fun _ ht => hP.irqs (hP.puts ht)
  | presenceTestPeriod => exact keeps_endedIf hP hs fun t ht => closed_ptStart P hP.closed t ht
  | presenceTestEnd _ => exact keeps_endedIf hP hs fun t ht => closed_ptEnd P hP t _ ht
  | dischargeOvercurrent => exact keeps_endedIf hP hs fun _ ht => hP.raises (hP.flags ht)
  | converterRestart => exact keeps_endedIf hP hs fun _ ht => hP.puts (hP.puts ht)
  | portFeedEntry _ => exact keeps_endedIf hP hs fun t ht => closed_feed P hP t _ ht
  | typecAttach _ a => exact keeps_endedIf hP hs fun t ht => closed_attach P hP t _ a ht
  | rpLevelChange _ _ | errorRecoveryEnd _ | smbusTimeout => exact keeps_endedIf hP hs fun _ ht => hP.puts ht
  | eprKeepaliveTimer _ => exact keeps_doneIf hP hs fun _ ht => hP.sends ht
  | ppsRefresh _ => exact keeps_endedIf hP hs fun t ht => closed_request P hP.closed t _ _ ht
  | bistMessage _ _ => exact keeps_heard hP hs fun _ ht => hP.puts ht
  | unsupportedMessage _ => exact keeps_heard hP hs fun t ht => closed_nsup P hP t _ ht
  | sourceSupplyReady _ => exact keeps_endedIf hP hs fun t ht => closed_supplyReady P hP t _ ht
  | dischargeTimeout _ => exact keeps_endedIf hP hs fun t ht => closed_settleFail P hP t _ ht
  | vbusSinkOv _ => exact keeps_endedIf hP hs fun t ht => closed_sinkOv P hP t _ ht
  | vconnOvercurrent _ => exact keeps_endedIf hP hs fun _ ht => hP.raises (hP.ports (hP.puts (hP.puts ht)))
  | swapRetry _ => exact keeps_endedIf hP hs fun _ ht => closed_portAct P hP _ _ _ (hP.puts ht)
  | portCommandRelease _ => exact keeps_endedIf hP hs fun t ht => closed_portRelease P hP t _ ht
  | gaugeUpdate m => exact keeps_endedIf hP hs fun t ht => closed_gaugeSecond P hP t m ht
  | refStaleSet => exact keeps_doneIf hP hs fun t ht => hP.puts (closed_setStale P hP t _ ht)
  | journalWriteDone ok => exact keeps_endedIf hP hs fun t ht => closed_journalDone P hP t ok ht
  | gaugeStartEstimate _ _ => exact keeps_endedIf hP hs fun t ht => closed_gaugeStart P hP t _ _ ht
  | backupDomainReset => exact keeps_doneIf hP hs fun t ht => hP.puts (closed_domainReset P hP t ht)
  | supplyChangeover _ => exact keeps_doneIf hP hs fun _ ht => hP.marks ht
  | trimWindow temp => exact keeps_doneIf hP hs fun t ht => closed_trimStart P hP t temp ht
  | backupWriteSync => exact keeps_doneIf hP hs fun t ht => closed_bkReach P hP t ht
  | rtcTimeLoad => exact keeps_doneIf hP hs fun t ht => closed_slowTick P hP t ht
  | alarmFire => exact keeps_endedIf hP hs fun t ht => closed_almFire P hP t ht
  | pwrbtnPress => exact keeps_endedIf hP hs fun t ht => closed_button P hP t ht
  | lifecycleOtpDone => exact keeps_endedIf hP hs fun t ht => closed_warmReset P hP _ _ (closed_lcStepped P hP t ht)
  | otpHashDone => exact keeps_endedIf hP hs fun t ht => closed_hashDone P hP t ht
  | debugOpen => exact keeps_endedIf hP hs fun t ht => hP.ifs (closed_tapDbg P hP t ht) fun u hu => closed_openSession P hP u _ hu
  | debugChallenge => exact keeps_endedIf hP hs fun t ht => closed_challenge P hP _ (closed_tapDbg P hP t ht)
  | debugResponse _ key sig => exact keeps_endedIf hP hs fun t ht => closed_respond P hP _ _ key sig (closed_tapDbg P hP t ht)
  | debugResponseVerified => exact keeps_endedIf hP hs fun t ht => closed_respondEnd P hP t ht
  | nonceExpiry => exact keeps_endedIf hP hs fun _ ht => closed_spendNonce P hP _ (hP.passes ht)
  | debugLockoutEnd => exact keeps_endedIf hP hs fun _ ht => hP.puts (hP.passes ht)
  | idcode => exact keeps_endedIf hP hs fun t ht => hP.outs _ (closed_tapDbg P hP t ht)
  | extest => exact keeps_endedIf hP hs fun t ht => closed_extest P hP t ht
  | tpertApply _ _ _ => exact keeps_ite (keeps_regWrite hP hs) (keeps_done hs)
  | nvmUnitWriteDone ok => exact keeps_endedIf hP hs fun t ht => closed_nvmNext P hP.closed _ (closed_queueUnit P hP t ok ht)
  -- Several operations: the lemmas above.
  | resetHoldEnd viohMode viopMode rel => exact keeps_resetHoldEnd hP hs viohMode viopMode rel
  | standbyBurst => exact keeps_standbyBurst hP hs
  | vbatLegWindowEnd => exact keeps_vbatLegWindowEnd hP hs
  | holdDwellEnd => exact keeps_holdDwellEnd hP hs
  | phaseCurrentLimit p => exact keeps_phaseCurrentLimit hP hs p
  | highSideShort n m => exact keeps_highSideShort hP hs n m
  | prestartCheckPass n m => exact keeps_prestartCheckPass hP hs n m
  | softStartEnd n => exact keeps_softStartEnd hP hs n
  | loopStopComplete n => exact keeps_loopStopComplete hP hs n
  | rushStart l => exact keeps_rushStart hP hs l
  | rushEnd l => exact keeps_rushEnd hP hs l
  | brakeStart l => exact keeps_brakeStart hP hs l
  | brakeEnd l => exact keeps_brakeEnd hP hs l
  | pgAssert l => exact keeps_pgAssert hP hs l
  | pgDeassert l => exact keeps_pgDeassert hP hs l
  | readmitCheckEnd k visen => exact keeps_readmitCheckEnd hP hs k visen
  | syncLoss => exact keeps_syncLoss hP hs
  | crierBlankEnd c uv ns => exact keeps_crierBlankEnd hP hs c uv ns
  | upTimeout r => exact keeps_upTimeout hP hs r
  | blindTimeout => exact keeps_blindTimeout hP hs
  | sqPgFilter p level => exact keeps_sqPgFilter hP hs p level
  | sqRailGoodDelay p => exact keeps_sqRailGoodDelay hP hs p
  | waitResume st => exact keeps_waitResume hP hs st
  | waitTimeout st => exact keeps_waitTimeout hP hs st
  | unassignedOpcode st word => exact keeps_unassignedOpcode hP hs st word
  | lockstepMismatch pair issue => exact keeps_lockstepMismatch hP hs pair issue
  | shadowBankError st => exact keeps_shadowBankError hP hs st
  | inputInRange k => exact keeps_inputInRange hP hs k
  | inputOutOfRange out => exact keeps_inputOutOfRange hP hs out
  | inputDebounceEnd ready => exact keeps_inputDebounceEnd hP hs ready
  | inputUpgrade k => exact keeps_inputUpgrade hP hs k
  | inputLoss cause => exact keeps_inputLoss hP hs cause
  | inputSwitchFail k => exact keeps_inputSwitchFail hP hs k
  | searchStep vin0 vin reg => exact keeps_searchStep hP hs vin0 vin reg
  | supplementStart => exact keeps_supplementStart hP hs
  | chgClr w now => exact keeps_chgClr hP hs w now
  | batteryRemoval => exact keeps_batteryRemoval hP hs
  | batteryUndervoltage => exact keeps_batteryUndervoltage hP hs
  | typecDetach x => exact keeps_typecDetach hP hs x
  | sourceCapTimeout x => exact keeps_sourceCapTimeout hP hs x
  | waitRetry x => exact keeps_waitRetry hP hs x
  | hardResetReceived x => exact keeps_hardResetReceived hP hs x
  | sourceHardResetRestore x => exact keeps_sourceHardResetRestore hP hs x
  | sourceSettled x => exact keeps_sourceSettled hP hs x
  | sourceSettleTimeout x => exact keeps_sourceSettleTimeout hP hs x
  | ccOvervoltage x => exact keeps_ccOvervoltage hP hs x
  | ccOvRecovery x => exact keeps_ccOvRecovery hP hs x
  | relaxedReference rest => exact keeps_relaxedReference hP hs rest
  | ledgerWindowExpiry n => exact keeps_ledgerWindowExpiry hP hs n
  | quietPeriodEnd n => exact keeps_quietPeriodEnd hP hs n
  | fltbusIn => exact keeps_fltbusIn hP hs
  | vbkupLow => exact keeps_vbkupLow hP hs
  | crystalLoss => exact keeps_crystalLoss hP hs
  | spiReadFrame addr burst hdrCrc early => exact keeps_spiReadFrame hP hs addr burst hdrCrc early
  | spiWriteFrame addr burst words crc => exact keeps_spiWriteFrame hP hs addr burst words crc
  | spiStatusFrame hdrCrc early => exact keeps_spiStatusFrame hP hs hdrCrc early
  | spiFrameBad kind => exact keeps_spiFrameBad hP hs kind
  | debugHalt st => exact keeps_debugHalt hP hs st
  | debugStep st => exact keeps_debugStep hP hs st
  | vbusDischarged x => exact keeps_vbusDischarged hP hs x
  | sourceCapabilities x rev3 epr pdos => exact keeps_sourceCapabilities hP hs x rev3 epr pdos
  | acceptMessage x => exact keeps_acceptMessage hP hs x
  | rejectMessage x => exact keeps_rejectMessage hP hs x
  | waitMessage x => exact keeps_waitMessage hP hs x
  | psRdy x => exact keeps_psRdy hP hs x
  | requestMessage x rev3 epr rdo => exact keeps_requestMessage hP hs x rev3 epr rdo
  | prSwap x => exact keeps_prSwap hP hs x
  | drSwap x => exact keeps_drSwap hP hs x
  | vconnSwap x => exact keeps_vconnSwap hP hs x
  | softResetMessage x => exact keeps_softResetMessage hP hs x
  | eprModeMessage x action => exact keeps_eprModeMessage hP hs x action
  | discoverIdentityReply x ack eprCap icap vmax => exact keeps_discoverIdentityReply hP hs x ack eprCap icap vmax
  | extendedControlMessage x kind => exact keeps_extendedControlMessage hP hs x kind
  | notSupportedMessage x => exact keeps_notSupportedMessage hP hs x
  | mfrRegPtr wr pec => exact keeps_mfrRegPtr hP hs wr pec
  | mfrRegDataWrite data pec => exact keeps_mfrRegDataWrite hP hs data pec
  | mfrRegLen wr pec => exact keeps_mfrRegLen hP hs wr pec
  | page wr pec => exact keeps_page hP hs wr pec
  | clearFaults pec => exact keeps_clearFaults hP hs pec
  | statusCml wr pec => exact keeps_statusCml hP hs wr pec
  | readIout => exact keeps_readIout hP hs
  | mfrReadRaw => exact keeps_mfrReadRaw hP hs
  | capability => exact keeps_capability hP hs
  | voutMode => exact keeps_voutMode hP hs
  | pmbusRevision => exact keeps_pmbusRevision hP hs
  | mfrId => exact keeps_mfrId hP hs
  | mfrModel => exact keeps_mfrModel hP hs
  | mfrRevision => exact keeps_mfrRevision hP hs
  | statusByte => exact keeps_statusByte hP hs
  | statusWord => exact keeps_statusWord hP hs
  | statusVout wr pec => exact keeps_statusVout hP hs wr pec
  | statusIout wr pec => exact keeps_statusIout hP hs wr pec
  | statusTemperature wr pec => exact keeps_statusTemperature hP hs wr pec
  | voutOvFaultLimit wr => exact keeps_voutOvFaultLimit hP hs wr
  | voutOvWarnLimit wr => exact keeps_voutOvWarnLimit hP hs wr
  | voutUvWarnLimit wr => exact keeps_voutUvWarnLimit hP hs wr
  | voutUvFaultLimit wr => exact keeps_voutUvFaultLimit hP hs wr
  | mfrRegDataRead => exact keeps_mfrRegDataRead hP hs
  | pmbusInvalidCommand code => exact keeps_pmbusInvalidCommand hP hs code
  | alertResponse win => exact keeps_alertResponse hP hs win
  | voutCommand wr => exact keeps_voutCommand hP hs wr
  | readVout => exact keeps_readVout hP hs

end

/- The commands that wait. -/

/-- Leaving the commands that wait as they are is such a property. -/
theorem open_pending (l : List Instr) : Open (fun s => s.pending = l) where
  put := fun s f n v hs => (State.put_pending s f n v).trans hs
  keep := fun _ _ hs => hs
  top := fun _ _ _ _ _ _ _ _ _ _ _ _ _ _ _ _ _ _ _ _ hs => hs

end Sys2Proof.Machine

open Sys2Proof Sys2Proof.Machine

/-- Settles O2: every operation of the part leaves the commands that wait, so every command does, and it completes. -/
theorem everyCommandCompletes : Obligations.EveryCommandCompletes :=
  fun c s => exec_keeps (open_pending s.pending) rfl c
end

section
/-! PROOFS. The registers: what a step and a reset give, what a field takes of a write, and what a register write by any writer does. -/

namespace Sys2Proof.Machine
open Sys2Proof

/- Bits of a number. -/

/-- Taking away the bits that a number shares with another clears them. -/
theorem testBit_sub_and (a b i : Nat) : (a - (a &&& b)).testBit i = (a.testBit i && !b.testBit i) := by
  have low : (a &&& b) % 2 = 1 ↔ a % 2 = 1 ∧ b % 2 = 1 := Nat.and_mod_two_eq_one
  have le : a &&& b ≤ a := Nat.and_le_left
  induction i generalizing a b with
  | zero =>
    have odd : (a - (a &&& b)) % 2 = 1 ↔ a % 2 = 1 ∧ ¬ b % 2 = 1 := by omega
    simp only [Nat.testBit_zero, odd, Bool.decide_and, decide_not]
  | succ i ih =>
    have half : (a - (a &&& b)) / 2 = a / 2 - ((a / 2) &&& (b / 2)) := by
      rw [← Nat.and_div_two]
      omega
    simp only [Nat.testBit_succ, half]
    exact ih _ _ Nat.and_mod_two_eq_one Nat.and_le_left

/-- Of the bits of a number, those that a second one does not hold and a third one has are cleared. -/
theorem testBit_sub_sub_and (a b c i : Nat) : (a - ((a - (a &&& b)) &&& c)).testBit i = (a.testBit i && (!c.testBit i || b.testBit i)) := by
  have within : (a - (a &&& b)) &&& c = a &&& ((a - (a &&& b)) &&& c) := by
    refine Nat.eq_of_testBit_eq fun j => ?_
    simp only [Nat.testBit_and, testBit_sub_and]
    cases a.testBit j <;> rfl
  rw [within, testBit_sub_and, Nat.testBit_and, testBit_sub_and]
  cases a.testBit i <;> cases b.testBit i <;> simp

/-- A bit inside the width of a field's place in a word. -/
theorem testBit_slice (w lsb width i : Nat) (h : i < width) : (w / 2 ^ lsb % 2 ^ width).testBit i = w.testBit (lsb + i) := by
  simp [Nat.testBit_mod_two_pow, Nat.testBit_div_two_pow, h, Nat.add_comm]

/- Fields. -/

/-- A bit of a unit that was put reads as the bit put. -/
theorem State.bit_put (s : State) (f : Fld) (n v i : Nat) (hn : n < f.count) (hi : i < f.width) : (s.put f n v).bit f n i = v.testBit i := by
  simp [State.bit, State.get_put_self s f n v hn, Nat.testBit_mod_two_pow, hi]

section
variable (s : State) (f : Fld) (n w i : Nat) (hn : n < f.count) (hi : i < f.width)
include hn hi

theorem fieldWrite_rw (ht : f.ty = .rw) : (s.fieldWrite f n w).bit f n i = w.testBit (f.lsb + i) := by
  simp only [State.fieldWrite, ht, State.bit_put s f n _ i hn hi, testBit_slice _ _ _ _ hi]

theorem fieldWrite_rwl (ht : f.ty = .rwl) :
    (s.fieldWrite f n w).bit f n i = if s.get Hid.SEALED 0 = 0 then w.testBit (f.lsb + i) else s.bit f n i := by
  by_cases h : s.get Hid.SEALED 0 = 0
  · simp [State.fieldWrite, ht, State.ifDo, State.is, h, State.bit_put s f n _ i hn hi, testBit_slice _ _ _ _ hi]
  · simp [State.fieldWrite, ht, State.ifDo, State.is, h]

theorem fieldWrite_w1c (ht : f.ty = .w1c) :
    (s.fieldWrite f n w).bit f n i = (s.bit f n i && (!w.testBit (f.lsb + i) || s.bit f.held n i)) := by
  simp only [State.fieldWrite, ht, State.bit_put s f n _ i hn hi, testBit_sub_sub_and, testBit_slice _ _ _ _ hi]
  rfl

theorem fieldWrite_clr (ht : f.ty = .clr) : (s.fieldWrite f n w).bit f n i = (s.bit f n i && !w.testBit (f.lsb + i)) := by
  simp only [State.fieldWrite, ht, State.bit_put s f n _ i hn hi, testBit_sub_and, testBit_slice _ _ _ _ hi]
  rfl

theorem fieldWrite_set (ht : f.ty = .set) : (s.fieldWrite f n w).bit f n i = (s.bit f n i || w.testBit (f.lsb + i)) := by
  simp only [State.fieldWrite, ht, State.bit_put s f n _ i hn hi, Nat.testBit_or, testBit_slice _ _ _ _ hi]
  rfl

end

/-- A field that a write does not reach stays as it is. -/
theorem fieldWrite_none (s : State) (f : Fld) (n w : Nat) (ht : f.ty = .ro ∨ f.ty = .wo) : s.fieldWrite f n w = s := by
  rcases ht with ht | ht <;> simp only [State.fieldWrite, ht]

/-- No other unit changes. -/
theorem get_fieldWrite_ne (s : State) (f g : Fld) (n m w : Nat) (h : g.key m ≠ f.key n) : (s.fieldWrite f n w).get g m = s.get g m := by
  have put (v : Nat) : (s.put f n v).get g m = s.get g m := State.get_put_ne s f g n m v h
  unfold State.fieldWrite
  cases f.ty with
  | rwl =>
    dsimp only [State.ifDo]
    split
    · exact put _
    · rfl
  | rw | w1c | clr | set => exact put _
  | ro | wo => rfl

theorem fieldRead_wo (s : State) (f : Fld) (n : Nat) (ht : f.ty = .wo) : s.fieldRead f n = 0 := by simp [State.fieldRead, ht]

/- What follows a command by itself. -/

/-- How far what follows a command by itself has led from `u`: what `Settles` says of it, with the canonical form of the field store. -/
def FollowsFrom (u t : State) : Prop :=
  (Pages.wf u.fld = true → Pages.wf t.fld = true ∧ ∀ f n, aloof (f.key n) → f.kept ≠ .v → f.kept ≠ .w → t.get f n = u.get f n) ∧
  t = { u with fld := t.fld, stack := t.stack, branch := t.branch, staging := t.staging, gap := t.gap, evq := t.evq, gauge := t.gauge, bal := t.bal }

/-- A key that belongs to no field of `follow` is no unit's key of a field that `follows` names. -/
theorem aloof_ne_key (f : Fld) (n k : Nat) (hf : follows f = true) (hn : n < f.count) (hk : aloof k) : k ≠ f.key n := by
  obtain ⟨g, hg, same⟩ := List.any_eq_true.1 hf
  simp only [Bool.and_eq_true, Bool.or_eq_true, beq_iff_eq] at same
  obtain ⟨⟨⟨⟨base, stride⟩, count⟩, lsb⟩, kept⟩ := same
  obtain ⟨ne, neHeld⟩ := hk g hg n (count ▸ hn)
  rcases base with base | base
  · have key : g.key n = f.key n := by simp only [Fld.key, base, stride, lsb, kept]
    exact key ▸ ne.symm
  · have key : g.held.key n = f.key n := by
      simp only [Fld.key, base]
      simp only [Fld.held, stride, lsb, kept]
    exact key ▸ neHeld.symm

theorem State.wf_put (s : State) (f : Fld) (n v : Nat) (h : Pages.wf s.fld = true) : Pages.wf (s.put f n v).fld = true := by
  unfold State.put
  split
  · exact Pages.wf_set _ _ _ h
  · exact h

/-- An entry to STANDBY drops a retention code and leaves the fields of the others. -/
theorem FollowsFrom.drop {u t : State} (h : FollowsFrom u t) (c : Kept) (hc : c = .v ∨ c = .w) : FollowsFrom u (t.drop c) := by
  obtain ⟨flds, rest⟩ := h
  refine ⟨fun hw => ⟨Pages.wf_keep _ (fun k => k % 8 != c.code) (flds hw).1, fun f n ha hv hw' => ?_⟩, ?_⟩
  · rw [State.get_drop t c f n (flds hw).1 (by rcases hc with rfl | rfl <;> assumption)]
    exact (flds hw).2 f n ha hv hw'
  · unfold State.drop
    rw [rest]

/-- What follows a command by itself goes no further. -/
theorem closed_followsFrom (u : State) : Closed (FollowsFrom u) where
  put := by
    intro t f n v hf ⟨flds, rest⟩
    refine ⟨fun hw => ⟨State.wf_put t f n v (flds hw).1, fun g m ha hv hw' => ?_⟩, ?_⟩
    · by_cases hn : n < f.count
      · rw [State.get_put_ne t f g n m v (aloof_ne_key f n _ hf hn ha)]
        exact (flds hw).2 g m ha hv hw'
      · rw [State.put_out t f n v hn]
        exact (flds hw).2 g m ha hv hw'
    · rw [State.put_rest, rest]
  dropV := fun _ h => h.drop .v (.inl rfl)
  dropW := fun _ h => h.drop .w (.inr rfl)
  top := by
    intro t _ _ _ _ _ _ _ ⟨flds, rest⟩
    exact ⟨flds, by rw [rest]⟩

theorem settles_finish (u : State) : Settles u u.finish := by
  have start : FollowsFrom u u := ⟨fun hw => ⟨hw, fun _ _ _ _ _ => rfl⟩, rfl⟩
  obtain ⟨flds, rest⟩ := closed_finish _ (closed_followsFrom u) u start
  exact ⟨rfl, fun hw => (flds hw).2, rest⟩

/- A register write by any writer. -/

/-- All but the field store at some keys and the Ledger events raised is as before. -/
def Reports (s u : State) (l : List Nat) : Prop :=
  (∀ f n, f.key n ∉ l → u.get f n = s.get f n) ∧ u = { s with fld := u.fld, evq := u.evq }

theorem reports_refl (s : State) (l : List Nat) : Reports s s l := ⟨fun _ _ _ => rfl, rfl⟩

theorem reports_put {s u : State} {l : List Nat} (h : Reports s u l) (f : Fld) (n v : Nat) (hk : f.key n ∈ l) : Reports s (u.put f n v) l := by
  obtain ⟨flds, rest⟩ := h
  refine ⟨fun g m hg => ?_, ?_⟩
  · rw [State.get_put_ne u f g n m v (fun e => hg (e ▸ hk)), flds g m hg]
  · rw [State.put_rest, rest]

@[simp] theorem State.get_raise (s : State) (k : Nat) (f : Fld) (n : Nat) : (s.raise k).get f n = s.get f n := by
  unfold State.raise
  split <;> rfl

theorem reports_raise {s u : State} {l : List Nat} (h : Reports s u l) (k : Nat) : Reports s (u.raise k) l := by
  obtain ⟨flds, rest⟩ := h
  refine ⟨fun f n hf => (State.get_raise u k f n).trans (flds f n hf), ?_⟩
  unfold State.raise
  split
  · rw [rest]
  · exact rest

theorem reports_ifDo {s u : State} {l : List Nat} {c : Bool} {f : State → State} (h : Reports s u l) (hf : Reports s (f u) l) :
    Reports s (u.ifDo c f) l := by
  unfold State.ifDo
  split
  · exact hf
  · exact h

/-- The stores that an access and its refusal write. -/
def reportKeys : List Nat :=
  [Reg.SEC_PSTAT_WHO.key 0, Reg.SEC_PSTAT_ADDR.key 0, Reg.SEC_PSTAT_COUNT.key 0, Hid.PM_CML.key 0, Hid.SPI_LAST.key 0,
   Hid.FCLK.key 0, Hid.EXT.key 0, Hid.S_REF.key 0, Hid.S_REF.key 1, Hid.S_REF.key 2, Hid.S_REF.key 3]

theorem sRef_mem_reportKeys (st : Stl) : Hid.S_REF.key st ∈ reportKeys := by fin_cases st <;> decide

theorem reports_arrive (s : State) (w : Writer) : Reports s (s.arrive w) reportKeys := by
  have frame : Reports s (s.spiFrame w) reportKeys := reports_ifDo (reports_refl s _) (reports_put (reports_refl s _) _ _ _ (by decide))
  have demand : Reports s (s.spiFrame w).demand reportKeys := reports_ifDo frame (reports_put frame _ _ _ (by decide))
  have clock : Reports s (if isStall w then s.spiFrame w else (s.spiFrame w).demand) reportKeys := by
    split
    · exact frame
    · exact demand
  unfold State.arrive
  dsimp only
  split
  · exact reports_put clock _ _ _ (by decide)
  · exact clock

/-- A refusal reported (R393), before what the writer's link or stall keeps of it. -/
def State.pstat (s : State) (w : Writer) (a : Nat) : State :=
  ((s.put Reg.SEC_PSTAT_WHO 0 (who w)).put Reg.SEC_PSTAT_ADDR 0 a).sat Reg.SEC_PSTAT_COUNT 0 255

theorem reportRefused_spi (s : State) (a : Nat) : s.reportRefused .spi a = (s.pstat .spi a).setBit Hid.SPI_LAST 0 2 true := rfl
theorem reportRefused_smbus (s : State) (a : Nat) : s.reportRefused .smbus a = (s.pstat .smbus a).setBit Hid.PM_CML 0 1 true := rfl
theorem reportRefused_stl (s : State) (st : Stl) (a : Nat) :
    s.reportRefused (.stl st) a = ((s.pstat (.stl st) a).put Hid.S_REF st 1).raise 80 := rfl
theorem reportRefused_debug (s : State) (a : Nat) : s.reportRefused .debug a = s.pstat .debug a := rfl

theorem reports_pstat {s u : State} (h : Reports s u reportKeys) (w : Writer) (a : Nat) : Reports s (u.pstat w a) reportKeys :=
  reports_put (reports_put (reports_put h _ _ _ (by decide)) _ _ _ (by decide)) _ _ _ (by decide)

theorem reports_reportRefused {s u : State} (h : Reports s u reportKeys) (w : Writer) (a : Nat) :
    Reports s (u.reportRefused w a) reportKeys := by
  cases w with
  | spi => exact reports_put (reports_pstat h _ a) _ _ _ (by decide)
  | smbus => exact reports_put (reports_pstat h _ a) _ _ _ (by decide)
  | stl st => exact reports_raise (reports_put (reports_pstat h _ a) _ _ _ (sRef_mem_reportKeys st)) 80
  | debug => exact reports_pstat h _ a

/-- What the writer keeps stands apart from SEC_PSTAT. -/
theorem get_reportRefused (s : State) (w : Writer) (a : Nat) (f : Fld) (n : Nat) (h1 : Fld.apart Hid.SPI_LAST f = true)
    (h2 : Fld.apart Hid.PM_CML f = true) (h3 : Fld.apart Hid.S_REF f = true) : (s.reportRefused w a).get f n = (s.pstat w a).get f n := by
  cases w with
  | spi => exact State.get_put_apart _ _ _ _ _ _ h1
  | smbus => exact State.get_put_apart _ _ _ _ _ _ h2
  | stl st => exact (State.get_raise _ _ _ _).trans (State.get_put_apart _ _ _ _ _ _ h3)
  | debug => rfl

theorem who_lt (w : Writer) : who w < 8 := by
  cases w with
  | stl st => show 2 + st.val < 8; omega
  | spi | smbus | debug => decide

theorem reportRefused_who (s : State) (w : Writer) (a : Nat) : (s.reportRefused w a).get Reg.SEC_PSTAT_WHO 0 = who w := by
  rw [get_reportRefused s w a _ _ (by decide) (by decide) (by decide), State.pstat, State.sat, State.get_put_apart _ _ _ _ _ _ (by decide),
    State.get_put_apart _ _ _ _ _ _ (by decide), State.get_put_self _ _ _ _ (by decide)]
  exact Nat.mod_eq_of_lt (who_lt w)

theorem reportRefused_addr (s : State) (w : Writer) (a : Nat) (ha : a < 2 ^ 16) : (s.reportRefused w a).get Reg.SEC_PSTAT_ADDR 0 = a := by
  rw [get_reportRefused s w a _ _ (by decide) (by decide) (by decide), State.pstat, State.sat, State.get_put_apart _ _ _ _ _ _ (by decide),
    State.get_put_self _ _ _ _ (by decide)]
  exact Nat.mod_eq_of_lt ha

theorem reportRefused_count (s : State) (w : Writer) (a : Nat) (hc : s.get Reg.SEC_PSTAT_COUNT 0 ≤ 255) :
    (s.reportRefused w a).get Reg.SEC_PSTAT_COUNT 0 = min 255 (s.get Reg.SEC_PSTAT_COUNT 0 + 1) := by
  have before : ((s.put Reg.SEC_PSTAT_WHO 0 (who w)).put Reg.SEC_PSTAT_ADDR 0 a).get Reg.SEC_PSTAT_COUNT 0 = s.get Reg.SEC_PSTAT_COUNT 0 := by
    rw [State.get_put_apart _ _ _ _ _ _ (by decide), State.get_put_apart _ _ _ _ _ _ (by decide)]
  rw [get_reportRefused s w a _ _ (by decide) (by decide) (by decide), State.pstat, State.sat, State.get_put_self _ _ _ _ (by decide), before]
  show _ % 256 = _
  split <;> omega

theorem reportRefused_cml (s : State) (a : Nat) : (s.reportRefused .smbus a).bit Hid.PM_CML 0 1 = true := by
  rw [reportRefused_smbus, State.setBit, State.bit_put _ _ _ _ _ (by decide) (by decide)]
  simp only [if_true, Nat.testBit_or, Nat.testBit_two_pow_self, Bool.or_true]

/-- LAST_PROT alone, where no bit of the frame stood before. -/
theorem reportRefused_last (s : State) (a : Nat) (h : s.get Hid.SPI_LAST 0 = 0) : (s.reportRefused .spi a).get Hid.SPI_LAST 0 = 4 := by
  have before : (s.pstat .spi a).get Hid.SPI_LAST 0 = 0 := by
    rw [State.pstat, State.sat, State.get_put_apart _ _ _ _ _ _ (by decide), State.get_put_apart _ _ _ _ _ _ (by decide),
      State.get_put_apart _ _ _ _ _ _ (by decide), h]
  rw [reportRefused_spi, State.setBit, State.get_put_self _ _ _ _ (by decide), before]
  rfl

theorem reportRefused_ref (s : State) (st : Stl) (a : Nat) : (s.reportRefused (.stl st) a).is Hid.S_REF st = true := by
  rw [reportRefused_stl, State.is, State.get_raise, State.get_put_self _ _ _ _ (show st.val < 4 from st.isLt)]
  rfl

/- The state in which an access acts. -/

/-- An access on its way writes FCLK, EXTEST and LAST of the SPI link, and no field apart from these. -/
theorem get_arrive (s : State) (w : Writer) (f : Fld) (n : Nat) (h1 : Fld.apart Hid.SPI_LAST f = true) (h2 : Fld.apart Hid.FCLK f = true)
    (h3 : Fld.apart Hid.EXT f = true) : (s.arrive w).get f n = s.get f n := by
  have frame : (s.spiFrame w).get f n = s.get f n := by
    unfold State.spiFrame State.ifDo
    split
    · exact State.get_put_apart _ _ _ _ _ _ h1
    · rfl
  have demand (u : State) : u.demand.get f n = u.get f n := by
    unfold State.demand State.ifDo
    split
    · exact State.get_put_apart _ _ _ _ _ _ h2
    · rfl
  have tap (u : State) : u.tapDbg.get f n = u.get f n := State.get_put_apart _ _ _ _ _ _ h3
  unfold State.arrive
  dsimp only
  split <;> split <;> simp only [tap, demand, frame]

/-- A frame clears what the last one left. -/
theorem arrive_last (s : State) (h : s.linked .spi = true) : (s.arrive .spi).get Hid.SPI_LAST 0 = 0 := by
  have frame : (s.spiFrame .spi).get Hid.SPI_LAST 0 = 0 := by
    simp only [State.spiFrame, State.ifDo, h, beq_self_eq_true, Bool.and_self, if_true]
    exact State.get_put_self _ _ _ _ (by decide)
  show ((s.spiFrame .spi).demand).get Hid.SPI_LAST 0 = 0
  unfold State.demand State.ifDo
  split
  · rw [State.get_put_apart _ _ _ _ _ _ (by decide), frame]
  · exact frame

theorem linked_spiFrame (s : State) (w : Writer) : (s.spiFrame w).linked w = s.linked w := by
  cases w with
  | spi =>
    unfold State.spiFrame State.ifDo
    split
    · simp (disch := decide) only [State.linked, State.up, State.is, State.get_put_apart]
    · rfl
  | smbus | stl _ | debug => rfl

theorem denied_arrive (s : State) (w : Writer) (a v : Nat) : (s.arrive w).denied w a v = s.denied w a v := by
  simp (disch := decide) only [State.denied, State.grave, State.mapAllows, State.region, State.nvmPage, State.lc, State.locked, State.arr,
    State.dbgTpert, State.dbgWrites, State.session, State.hold, State.cur, State.bit, State.is, get_arrive]

/-- A write of a linked writer acts on the word at the address below it, or is reported there. -/
theorem busWrite_linked (s : State) (w : Writer) (addr : BitVec 16) (v : Nat) (h : s.linked w = true) :
    ((s.spiFrame w).busWrite w addr.toNat v).2 =
      if s.denied w (addr.toNat / 4 * 4) v then (s.arrive w).reportRefused w (addr.toNat / 4 * 4)
      else (s.arrive w).store w (addr.toNat / 4 * 4) v := by
  have word : addr.toNat / 4 * 4 % 65536 = addr.toNat / 4 * 4 := by omega
  rw [← denied_arrive]
  simp only [State.busWrite, linked_spiFrame, h, word, Bool.not_true, Bool.false_eq_true, if_false]
  exact apply_ite Prod.snd ((s.arrive w).denied w (addr.toNat / 4 * 4) v = true) (true, _) (false, _)

/-- A writer that is not linked makes no access. -/
theorem busWrite_unlinked (s : State) (w : Writer) (a v : Nat) (h : s.linked w = false) : ((s.spiFrame w).busWrite w a v).2 = s := by
  have frame : s.spiFrame w = s := by simp [State.spiFrame, State.ifDo, h]
  simp [State.busWrite, frame, h]

end Sys2Proof.Machine

open Sys2Proof Sys2Proof.Machine

/-- Settles O7: the rules of `fieldWrite` type by type, and its frame. -/
theorem fieldsTakeWritesByType : Obligations.FieldsTakeWritesByType := by
  intro s f n w i hn hi
  refine ⟨fieldWrite_rw s f n w i hn hi, fun ht => ?_, fieldWrite_w1c s f n w i hn hi, fieldWrite_clr s f n w i hn hi,
    fieldWrite_set s f n w i hn hi, fieldWrite_rwl s f n w i hn hi, fieldRead_wo s f n, fun g m => get_fieldWrite_ne s f g n m w⟩
  show (s.fieldWrite f n w).bit f n i = s.bit f n i
  rw [fieldWrite_none s f n w ht]

/-- Settles O8: an unlinked writer's write is none, a permitted one stores in the state in which it arrives, and a refused one is reported there. -/
theorem registerWritesActOrAreReported : Obligations.RegisterWritesActOrAreReported := by
  intro s w addr v a
  have runs (u : State) (hu : ((s.spiFrame w).busWrite w addr.toNat v.toNat).2 = u) :
      exec (.registerWrite w addr v) s = .next u.finish ∧ Settles u u.finish :=
    ⟨by rw [← hu]; rfl, settles_finish u⟩
  refine ⟨fun hl => ?_, fun ⟨hl, hd⟩ => ?_, fun hl hd => ?_⟩
  · exact ⟨_, runs s (busWrite_unlinked s w _ _ hl)⟩
  · exact ⟨_, runs _ ((busWrite_linked s w addr v.toNat hl).trans (if_neg (by simp [a, hd])))⟩
  · obtain ⟨act, settles⟩ := runs _ ((busWrite_linked s w addr v.toNat hl).trans (if_pos hd))
    have short : a < 2 ^ 16 := by omega
    have count : (s.arrive w).get Reg.SEC_PSTAT_COUNT 0 = s.get Reg.SEC_PSTAT_COUNT 0 := get_arrive s w _ _ (by decide) (by decide) (by decide)
    obtain ⟨frame, rest⟩ := reports_reportRefused (reports_arrive s w) w a
    refine ⟨_, _, act, settles, reportRefused_who _ w a, reportRefused_addr _ w a short, fun hc => ?_, ?_, ?_, ?_, frame, rest⟩
    · rw [← count]
      exact reportRefused_count _ w a (count ▸ hc)
    · rintro rfl
      exact reportRefused_cml _ a
    · rintro rfl
      exact reportRefused_last _ a (arrive_last s hl)
    · rintro st rfl
      exact reportRefused_ref _ st a

/-- Settles O1: the front command runs on the state with the rest of the queue. -/
theorem stepRunsTheFrontCommand : Obligations.StepRunsTheFrontCommand :=
  ⟨fun _ _ => rfl, fun s hs => by rw [step, hs]; rfl⟩

/-- Settles O6: every unit of every field reads as its reset value, in empty stores. -/
theorem resetValues : Obligations.ResetValues := by
  have arrays (f : Fld) (k : Nat) (hk : k ≤ f.count) (hf : ∀ n, n < k → f.dflt n = 0) (n : Nat) (hn : n < k) : State.reset.get f n = 0 := by
    rw [State.get_reset f n (by omega), hf n hn]
  refine ⟨⟨State.get_reset, rfl, rfl, rfl, rfl, rfl, rfl, arrays _ 8 (by decide) (by decide), arrays _ 4 (by decide) (by decide),
    rfl, rfl, rfl, rfl, rfl, rfl, rfl, rfl⟩, State.reset_wf, Cells.wf_nil, Cells.wf_nil, Cells.wf_nil⟩
end

section
/-! PROOFS. The power states: what the supplies' rise and fall leave, the requests, and a RUN transition in a store out of canonical form. -/

namespace Sys2Proof.Machine
open Sys2Proof

/- A write that is a command of its own. -/

/-- A permitted write to a word acts in the state in which it arrives. -/
theorem regWrite_permitted {s u : State} {w : Writer} (addr : BitVec 16) {v : Nat} (word : addr.toNat / 4 * 4 = addr.toNat)
    (hp : Permitted s w addr.toNat v) (hu : (s.arrive w).store w addr.toNat v = u) :
    ∃ t, regWrite s w addr.toNat v = .next t ∧ Settles u t := by
  obtain ⟨linked, allowed⟩ := hp
  have acts : ((s.spiFrame w).busWrite w addr.toNat v).2 = u := by
    rw [busWrite_linked s w addr v linked, word, allowed, ← hu]
    rfl
  refine ⟨u.finish, ?_, settles_finish u⟩
  rw [regWrite, acts, ended]

/-- A permitted write to PWR_REQ is a request. -/
theorem pwrReq_permitted {s u : State} {w : Writer} {v : Nat} (hp : Permitted s w 0x404 v) (hu : (s.arrive w).pwrReq (v % 16) = u) :
    ∃ t, regWrite s w 0x404 v = .next t ∧ Settles u t :=
  regWrite_permitted 0x404#16 rfl hp hu

/- Conditional effects. -/

theorem State.ifDo_true (s : State) (f : State → State) : s.ifDo true f = f s := rfl

theorem State.ifDo_false (s : State) (f : State → State) : s.ifDo false f = s := rfl

/-- An event whose condition the state meets, with nothing that follows it. -/
theorem done_of {s : State} {c : Bool} {f : State → State} (h : c = true) : done (s.ifDo c f) = .next (f s) := by rw [h, State.ifDo_true, done]

/-- An event whose condition the state meets. -/
theorem ended_of {s : State} {c : Bool} {f : State → State} (h : c = true) : ∃ t, ended (s.ifDo c f) = .next t ∧ Settles (f s) t :=
  ⟨(f s).finish, by rw [h, State.ifDo_true, ended], settles_finish (f s)⟩

theorem State.get_ite (c : Prop) [Decidable c] (s t : State) (f : Fld) (n : Nat) :
    (if c then s else t).get f n = if c then s.get f n else t.get f n := apply_ite (fun u : State => u.get f n) c s t

theorem State.get_ifDo (s : State) (c : Bool) (e : State → State) (f : Fld) (n : Nat) :
    (s.ifDo c e).get f n = if c then (e s).get f n else s.get f n := State.get_ite (c = true) (e s) s f n

/- Fields put at their reset values. -/

/-- Putting fields apart from one leaves it. -/
theorem get_foldl_put_apart (l : List Fld) (v : Fld → Nat) (s : State) (g : Fld) (m : Nat) (h : ∀ f ∈ l, Fld.apart f g = true) :
    (l.foldl (fun t f => t.put f 0 (v f)) s).get g m = s.get g m := by
  induction l generalizing s with
  | nil => rfl
  | cons f l ih =>
    obtain ⟨hf, hl⟩ := List.forall_mem_cons.1 h
    rw [List.foldl_cons, ih _ hl, State.get_put_apart s f g 0 m _ hf]

/-- Each of the fields put reads as its value, where they are apart and hold it. -/
theorem get_foldl_put_mem (l : List Fld) (v : Fld → Nat) (s : State) (apart : l.Pairwise (fun f g => Fld.apart g f = true))
    (fits : ∀ f ∈ l, 0 < f.count ∧ v f < 2 ^ f.width) : ∀ f ∈ l, (l.foldl (fun t f => t.put f 0 (v f)) s).get f 0 = v f := by
  induction l generalizing s with
  | nil => simp
  | cons g l ih =>
    obtain ⟨hg, hl⟩ := List.pairwise_cons.1 apart
    obtain ⟨⟨one, fit⟩, fitl⟩ := List.forall_mem_cons.1 fits
    refine List.forall_mem_cons.2 ⟨?_, ih (s.put g 0 (v g)) hl fitl⟩
    rw [List.foldl_cons, get_foldl_put_apart l v _ g 0 hg, State.get_put_self s g 0 _ one, Nat.mod_eq_of_lt fit]

theorem changes_foldl_put (l : List Fld) (v : Fld → Nat) (keys : List Nat) {s u : State} (h : Changes s u keys)
    (hl : ∀ f ∈ l, f.key 0 ∈ keys) : Changes s (l.foldl (fun t f => t.put f 0 (v f)) u) keys := by
  induction l generalizing u with
  | nil => exact h
  | cons f l ih =>
    obtain ⟨hf, hl⟩ := List.forall_mem_cons.1 hl
    exact ih (changes_put _ _ _ _ _ _ h hf) hl

theorem linkFlds_apart : linkFlds.Pairwise (fun f g => Fld.apart g f = true) := by decide

theorem linkFlds_fit : ∀ f ∈ linkFlds, 0 < f.count ∧ f.dflt 0 < 2 ^ f.width := by decide

/-- The host links' reset leaves HOSTIO_LOW cleared. -/
theorem resumed_hostio (s : State) : ((s.put Reg.SUP_STAT_HOSTIO_LOW 0 0).linksReset).is Reg.SUP_STAT_HOSTIO_LOW 0 = false := by
  have kept := get_foldl_put_apart linkFlds (fun f => f.dflt 0) (s.put Reg.SUP_STAT_HOSTIO_LOW 0 0) Reg.SUP_STAT_HOSTIO_LOW 0 (by decide)
  rw [State.is, State.linksReset, kept, State.get_put_self _ _ _ _ (by decide)]
  rfl

/-- A part whose state a warm reset keeps has VAO, and is out of reset or in a warm one. -/
theorem powered_of_carries {s : State} (h : s.carries = true) : (s.vao && (s.up || s.is Hid.WARM 0)) = true := by
  have vao_of_up : s.up = true → s.vao = true := by
    simp only [State.up, State.vao, State.is, decide_eq_true_eq, bne_iff_ne]
    omega
  simp only [State.carries, Bool.or_eq_true, Bool.and_eq_true] at h ⊢
  tauto

/- VAO rises. -/

/-- WAKE_CAUSE.DCIN tells whether DCIN is among the sources. -/
theorem wakeCauses_dcin (s : State) (l : List Nat) : (s.wakeCauses l).get Reg.WAKE_CAUSE_DCIN 0 = if l.contains 1 then 1 else 0 := by
  simp (disch := decide) only [State.wakeCauses, State.mark, State.get_put_apart, State.get_put_self]
  split <;> rfl

/-- VAO that DCIN or VBAT raises (1 and 4): the part is held in reset, the cause is POR, FCLK starts, and the supplies and the presence of DCIN are
as the event tells. -/
theorem vaoUp_get (s : State) (r : Nat) (also : List Nat) (core ana : Bool) (hr : r = 1 ∨ r = 4) :
    let t := s.vaoUp r also core ana
    t.get Hid.MAIN 0 = 1 ∧ t.get Reg.RST_CAUSE_POR 0 = 1 ∧ t.get Reg.RST_CAUSE_PIN 0 = 0 ∧ t.get Hid.FCLK 0 = 1 ∧
      t.is Reg.SUP_STAT_CORE_EXT 0 = core ∧ t.is Reg.SUP_STAT_ANA_EXT 0 = ana ∧ t.is Reg.WAKE_CAUSE_DCIN 0 = (r :: also).contains 1 := by
  have notPort : ((r == 2 || r == 3) && also.isEmpty) = false := by rcases hr with rfl | rfl <;> rfl
  simp (disch := decide) only [State.vaoUp, notPort, State.ifDo_false, State.forEach, List.foldl, State.portsClamp, State.clearCauses, causeFlds,
    State.mark, State.is, State.get_ite, State.get_ifDo, State.get_put_apart, State.get_put_self, ite_self, wakeCauses_dcin]
  refine ⟨rfl, rfl, rfl, rfl, ?_, ?_, ?_⟩
  · cases core <;> rfl
  · cases ana <;> rfl
  · cases (r :: also).contains 1 <;> rfl

/-- DCIN is among the sources of a start where it raised VAO or stands beside the raiser. -/
theorem contains_dcin (r : Raiser) (also : List Raiser) (blocked : Bool) :
    (raiserNum r :: (also.map raiserNum).filter (fun n => n != raiserNum r && !(n == 4 && blocked))).contains 1 =
      (r == .dcin || also.contains .dcin) := by
  have one (x : Raiser) : raiserNum x = 1 ↔ x = .dcin := by cases x <;> decide
  have beside : 1 ∈ (also.map raiserNum).filter (fun n => n != raiserNum r && !(n == 4 && blocked)) ↔ .dcin ∈ also ∧ r ≠ .dcin := by
    simp only [List.mem_filter, List.mem_map, one, exists_eq_right, Bool.and_eq_true, bne_iff_ne, ne_eq, eq_comm (a := 1)]
    simp
  rw [Bool.eq_iff_iff]
  simp only [List.contains_iff_mem, List.mem_cons, Bool.or_eq_true, beq_iff_eq, beside, eq_comm (a := 1), one]
  tauto

/- VAO is lost. -/

/-- The memories and queues that the main domain holds are empty. -/
def Emptied (t : State) : Prop := t.nvmq = [] ∧ t.mail = [] ∧ t.evq = [] ∧ t.sdata = [] ∧ t.imem = []

theorem Emptied.put {s : State} (h : Emptied s) (f : Fld) (n v : Nat) : Emptied (s.put f n v) := by
  simpa only [Emptied, State.put_nvmq, State.put_mail, State.put_evq, State.put_sdata, State.put_imem] using h

theorem Emptied.portsClamp {s : State} (h : Emptied s) : Emptied s.portsClamp := by
  show Emptied ((((s.put Hid.PO_CLAMP 0 1).put Hid.PO_RD 0 0).put Hid.PO_CLAMP 1 1).put Hid.PO_RD 1 0)
  exact (((h.put _ _ _).put _ _ _).put _ _ _).put _ _ _

theorem Emptied.domainReset {s : State} (h : Emptied s) : Emptied s.domainReset := by
  have dropped : Emptied (s.drop .k) := h
  exact (dropped.put _ _ _).put _ _ _

theorem emptied_mainDown (s : State) (completed : Bool) : Emptied (s.mainDown completed) := by
  unfold State.mainDown
  extract_lets lost dropped cleared down left
  have cleared : Emptied cleared := ⟨rfl, rfl, rfl, rfl, rfl⟩
  have down : Emptied down := (((cleared.put _ _ _).put _ _ _).put _ _ _).portsClamp
  have left : Emptied left := ((down.put _ _ _).put _ _ _).put _ _ _
  exact closed_ite Emptied _ _ _ (left.put _ _ _) left.domainReset

/- Requests. -/

section
variable {s : State} {req : Nat}

theorem pwrReq_held (hreq : req ∈ [1, 2, 5, 6]) (running : s.trans ≠ 0) (notEmpty : s.get Hid.HELDREQ 0 ≠ 14) :
    s.pwrReq req = s.put Hid.HELDREQ 0 req := by
  have running : (s.trans != trNone) = true := bne_iff_ne.2 running
  have notEmpty : (s.get Hid.HELDREQ 0 != 14) = true := bne_iff_ne.2 notEmpty
  fin_cases hreq <;> simp [State.pwrReq, State.ifDo, running, notEmpty]

theorem pwrReq_act (hreq : req ∈ [1, 2, 5, 6]) (still : s.trans = 0) : s.pwrReq req = s.pwrAct req := by
  fin_cases hreq <;> simp [State.pwrReq, still, trNone]

theorem pwrReq_undefined (hreq : req ∉ [0, 1, 2, 5, 6]) : s.pwrReq req = s.put Reg.PWR_STATE_REQ_BAD 0 1 := by
  simp only [List.mem_cons, List.not_mem_nil, or_false, not_or] at hreq
  simp [State.pwrReq, hreq]

theorem pwrAct_standby_again (h : s.standby = true) (safe : s.is Hid.SAFE 0 = false) : s.pwrAct 1 = s.put Reg.PWR_STATE_BOOTING 0 0 := by
  simp [State.pwrAct, h, safe, State.ifDo]

theorem pwrAct_standby_safe (h : s.standby = true) (safe : s.is Hid.SAFE 0 = true) : s.pwrAct 1 = s := by
  simp [State.pwrAct, h, safe, State.ifDo]

theorem pwrAct_standby (h : s.standby = false) (quiet : s.anyLoop = false ∧ s.sequencing = false) :
    s.pwrAct 1 = (s.put Reg.PWR_STATE_BOOTING 0 0).put Hid.TRANS 0 trStandby := by
  simp [State.pwrAct, h, quiet]

theorem pwrAct_standby_refused (h : s.standby = false) (busy : s.anyLoop = true ∨ s.sequencing = true) : s.pwrAct 1 = s.pwrRefuse := by
  simp [State.pwrAct, h, busy]

theorem pwrAct_run (h : s.cur = 1) (safe : s.is Hid.SAFE 0 = false) (fed : s.anyInput = true ∨ s.batAvail = true) :
    s.pwrAct 2 = (((s.put Reg.PWR_STATE_BOOTING 0 0).put Hid.TRANS 0 trRun).demand).reloadMap := by
  simp [State.pwrAct, h, safe, fed]

theorem pwrAct_run_refused (h : s.cur ≠ 1 ∨ s.is Hid.SAFE 0 = true ∨ (s.anyInput = false ∧ s.batAvail = false)) : s.pwrAct 2 = s.pwrRefuse := by
  rcases h with h | h | h <;> simp [State.pwrAct, h]

theorem pwrAct_ship (h : s.cur ≠ 4) : s.pwrAct 5 = (s.forEach [0, 1] State.stopSource).startSteps trShip := by simp [State.pwrAct, h]

theorem pwrAct_ship_again (h : s.cur = 4) : s.pwrAct 5 = s := by simp [State.pwrAct, h]

theorem pwrAct_cancel (h : s.cur = 4) : s.pwrAct 6 = s.shipCancel := by simp [State.pwrAct, h]

theorem pwrAct_cancel_refused (h : s.cur ≠ 4) : s.pwrAct 6 = s.pwrRefuse := by simp [State.pwrAct, h]

end

/- A RUN transition where the store is out of canonical form. -/

/-- A part in a RUN transition on its battery, with a burst under way, whose field store holds the page of IN_QUAL twice: first with the mark beside
DCIN's bit that waits for FCLK, then with the bit itself, which no read finds. Such a store is not canonical (`State.Inv`). -/
def doubledPage : State :=
  let s := ((State.reset.put Hid.TRANS 0 trRun).put Hid.BURST 0 1).put Reg.PP_STAT_BFET 0 bfOn
  let page := pageOf (Hid.IN_QUAL.key 0)
  { s with fld := s.fld ++ [(page, [(Hid.IN_QUAL.held.key 0, 1)]), (page, [(Hid.IN_QUAL.key 0, 1)])] }

theorem doubledPage_transition : doubledPage.trans = 1 := by decide

theorem doubledPage_noInput : doubledPage.anyInput = false := by decide

theorem doubledPage_battery : doubledPage.batAvail = true := by decide

/-- The marks go as FCLK becomes usable, the page that they leave empty goes with them, and the other one shows DCIN qualified: ACTIVE, not HOLD. -/
theorem doubledPage_runEnd : doubledPage.runEnd.cur = 2 := by decide

end Sys2Proof.Machine

open Sys2Proof Sys2Proof.Machine

/-- Settles O9: the exact next states by the definitions of the events, the fields that a rise of VAO puts, what the loss of the main domain empties,
and the links' fields put at their reset values. -/
theorem suppliesRiseAndFall : Obligations.SuppliesRiseAndFall := by
  intro s
  refine ⟨?_, fun r also core ana dark unblocked => ?_, fun alive => ⟨?_, fun x => ?_⟩, fun carries => ?_, fun low => ?_,
    fun rule held known => ?_, fun w hp => ?_⟩
  · show execVbkupRise s = _
    unfold execVbkupRise
    cases s.vao <;> rfl
  · have rises : (!s.vao && !(raiserNum r == 4 && s.legBlocked)) = true := by
      cases r with
      | vbat => rw [dark, unblocked rfl]; rfl
      | dcin | p0 | p1 => rw [dark]; rfl
    refine ⟨_, done_of rises, rfl, fun hr => ?_⟩
    have num : raiserNum r = 1 ∨ raiserNum r = 4 := by rcases hr with rfl | rfl <;> decide
    have risen := vaoUp_get s (raiserNum r) ((also.map raiserNum).filter (fun n => n != raiserNum r && !(n == 4 && s.legBlocked))) core ana num
    rwa [contains_dcin] at risen
  · exact ⟨_, done_of alive, rfl, emptied_mainDown s s.exitDone⟩
  · exact ended_of alive
  · exact ended_of (powered_of_carries carries)
  · refine ⟨_, done_of low, ?_, ?_, ?_⟩
    · exact resumed_hostio s
    · exact get_foldl_put_mem linkFlds (fun f => f.dflt 0) _ linkFlds_apart linkFlds_fit
    · exact changes_foldl_put linkFlds (fun f => f.dflt 0) _ (changes_put s s _ _ 0 0 (changes_refl s _) List.mem_cons_self)
        fun f hf => List.mem_cons_of_mem _ (List.mem_map_of_mem hf)
  · have acts : (s.get Hid.MAIN 0 == 1 && (rule.toNat == 1 || rule.toNat == 2)) = true := by
      simpa [held] using known
    exact done_of acts
  · exact regWrite_permitted 0x10#16 rfl hp rfl

/-- Settles O12: a permitted write of a request is `pwrReq`, which holds it, acts on it or finds it undefined; the branches of `pwrAct` give the rest. -/
theorem powerRequests : Obligations.PowerRequests := by
  intro s w b
  refine ⟨fun running notEmpty => ?_, fun still => ?_, fun req other hp => ?_⟩
  · have held {v : Nat} (hv : v ∈ [1, 2, 5, 6]) : b.pwrReq v = b.put Hid.HELDREQ 0 v := pwrReq_held hv running notEmpty
    exact ⟨fun hp => pwrReq_permitted hp (held (by decide)), fun hp => pwrReq_permitted hp (held (by decide)),
      fun hp => pwrReq_permitted hp (held (by decide)), fun hp => pwrReq_permitted hp (held (by decide))⟩
  · have acts {v : Nat} {u : State} (hv : v ∈ [1, 2, 5, 6]) (h : b.pwrAct v = u) : b.pwrReq v = u := (pwrReq_act hv still).trans h
    refine ⟨fun rests safe hp => ?_, fun rests safe hp => ?_, fun runs loops seq hp => ?_, fun runs busy hp => ?_, fun rests safe fed hp => ?_,
      fun no hp => ?_, fun runs hp => ?_, fun runs hp => ?_, fun pends hp => ?_, fun pends hp => ?_⟩
    · exact pwrReq_permitted hp (acts (by decide) (pwrAct_standby_again rests safe))
    · exact pwrReq_permitted hp (acts (by decide) (pwrAct_standby_safe rests safe))
    · exact pwrReq_permitted hp (acts (by decide) (pwrAct_standby runs ⟨loops, seq⟩))
    · exact pwrReq_permitted hp (acts (by decide) (pwrAct_standby_refused runs busy))
    · exact pwrReq_permitted hp (acts (by decide) (pwrAct_run rests safe fed))
    · exact pwrReq_permitted hp (acts (by decide) (pwrAct_run_refused no))
    · exact pwrReq_permitted hp (acts (by decide) (pwrAct_ship runs))
    · exact pwrReq_permitted hp (acts (by decide) (pwrAct_cancel_refused runs))
    · exact pwrReq_permitted hp (acts (by decide) (pwrAct_ship_again pends))
    · exact pwrReq_permitted hp (acts (by decide) (pwrAct_cancel pends))
  · have code : req.toNat % 16 = req.toNat := Nat.mod_eq_of_lt req.isLt
    exact pwrReq_permitted hp (code.symm ▸ pwrReq_undefined other)

/-- Refutes O13: it asks no canonical form of the state. In `doubledPage` a RUN transition finds no input qualified and the battery available, and
ends in ACTIVE all the same, where the statement says HOLD. -/
theorem not_powerTransitionsAndClock : ¬ Obligations.PowerTransitionsAndClock := by
  rintro ⟨transitions, -⟩
  obtain ⟨-, -, onBattery, -⟩ := transitions doubledPage .spi 0
  obtain ⟨u, t, -, -, rfl, holds, -⟩ := onBattery doubledPage_transition doubledPage_noInput doubledPage_battery
  rw [doubledPage_runEnd] at holds
  exact absurd holds (by decide)
end

section
/-! PROOFS. What a cold reset leaves, and the ROM boot stage in a store out of canonical form. An entry that the store holds once stands through the
loss of a retention class, whatever the form of the rest. -/

namespace Sys2Proof

section
variable {α : Type} {l : Cells α} {k : Nat} {p : α → Prop}

/-- A store lists a key, and each value that it lists there has a property. -/
def Cells.Firm (l : Cells α) (k : Nat) (p : α → Prop) : Prop := (∃ c ∈ l, c.1 = k) ∧ ∀ c ∈ l, c.1 = k → p c.2

theorem Cells.Firm.look [Inhabited α] (h : Cells.Firm l k p) : p (Cells.look l k) := by
  obtain ⟨listed, all⟩ := h
  induction l with
  | nil => simp at listed
  | cons c t ih =>
    unfold Cells.look
    split
    next here => exact all c List.mem_cons_self here.symm
    next there =>
      obtain ⟨d, hd, hk⟩ := listed
      have later : d ∈ t := (List.mem_cons.1 hd).resolve_left fun e => there (e ▸ hk.symm)
      exact ih ⟨d, later, hk⟩ fun d hd => all d (List.mem_cons_of_mem c hd)

theorem Cells.Firm.ne_nil (h : Cells.Firm l k p) : l ≠ [] := by
  obtain ⟨⟨c, hc, -⟩, -⟩ := h
  exact List.ne_nil_of_mem hc

variable [Inhabited α] [DecidableEq α]

theorem Cells.firm_set_self {v : α} (hv : p v) (filled : v ≠ default) : Cells.Firm (Cells.set l k v) k p := by
  refine ⟨⟨(k, v), ?_, rfl⟩, fun c hc hk => ?_⟩
  · rw [Cells.set, if_neg filled]
    exact (Cells.mem_ins _ _ _ _).2 (.inl rfl)
  · rcases Cells.mem_set l k v c hc with rfl | ⟨-, other⟩
    · exact hv
    · exact absurd hk other

theorem Cells.Firm.set_ne {a : Nat} {v : α} (h : Cells.Firm l k p) (ne : a ≠ k) : Cells.Firm (Cells.set l a v) k p := by
  obtain ⟨⟨c, hc, hk⟩, all⟩ := h
  refine ⟨⟨c, ?_, hk⟩, fun d hd hdk => ?_⟩
  · have left : c ∈ Cells.del l a := (Cells.mem_del l a c).2 ⟨hc, fun e => ne (e.symm.trans hk)⟩
    unfold Cells.set
    split
    · exact left
    · exact (Cells.mem_ins _ _ _ _).2 (.inr left)
  · rcases Cells.mem_set l a v d hd with rfl | ⟨old, -⟩
    · exact absurd hdk ne
    · exact all d old hdk

end

section
variable {p : Pages Nat} {k v : Nat}

/-- A paged store holds a value at a key, and no other one that could show there. -/
def Pages.Firm (p : Pages Nat) (k v : Nat) : Prop := Cells.Firm p (pageOf k) (fun q => Cells.Firm q k (· = v))

theorem Pages.Firm.look (h : Pages.Firm p k v) : Pages.look p k = v := by
  have found : Cells.Firm (Cells.look p (pageOf k)) k (· = v) := Cells.Firm.look h
  exact Cells.Firm.look (p := (· = v)) found

theorem Pages.firm_set_self (filled : v ≠ 0) : Pages.Firm (Pages.set p k v) k v := by
  have page : Cells.Firm (Cells.set (Cells.look p (pageOf k)) k v) k (· = v) := Cells.firm_set_self rfl filled
  exact Cells.firm_set_self page page.ne_nil

theorem Pages.Firm.set_ne {a w : Nat} (h : Pages.Firm p k v) (ne : a ≠ k) : Pages.Firm (Pages.set p a w) k v := by
  by_cases same : pageOf a = pageOf k
  · have page : Cells.Firm (Cells.set (Cells.look p (pageOf k)) a w) k (· = v) := by
      have found : Cells.Firm (Cells.look p (pageOf k)) k (· = v) := Cells.Firm.look h
      exact found.set_ne ne
    unfold Pages.set
    rw [same]
    exact Cells.firm_set_self page page.ne_nil
  · exact Cells.Firm.set_ne h same

theorem Pages.Firm.keep {f : Nat → Bool} (h : Pages.Firm p k v) (hf : f k = true) : Pages.Firm (Pages.keep p f) k v := by
  have page {q : Cells Nat} (hq : Cells.Firm q k (· = v)) : Cells.Firm (q.filter (fun d => f d.1)) k (· = v) := by
    obtain ⟨⟨d, hd, hk⟩, all⟩ := hq
    exact ⟨⟨d, List.mem_filter.2 ⟨hd, hk ▸ hf⟩, hk⟩, fun e he => all e (List.mem_of_mem_filter he)⟩
  obtain ⟨⟨c, hc, hk⟩, all⟩ := h
  refine ⟨⟨(c.1, c.2.filter (fun d => f d.1)), ?_, hk⟩, fun e he hek => ?_⟩
  · exact List.mem_filter.2 ⟨List.mem_map_of_mem hc, by simpa using (page (all c hc hk)).ne_nil⟩
  · obtain ⟨c, hc, rfl⟩ := List.mem_map.1 (List.mem_of_mem_filter he)
    exact page (all c hc hek)

/-- The entries that pass two tests one after the other are those that pass both. -/
theorem Pages.keep_keep (p : Pages Nat) (f g : Nat → Bool) : Pages.keep (Pages.keep p f) g = Pages.keep p (fun k => f k && g k) := by
  induction p with
  | nil => rfl
  | cons c t ih =>
    have page : (c.2.filter (fun d => f d.1)).filter (fun d => g d.1) = c.2.filter (fun d => f d.1 && g d.1) := by
      simp [List.filter_filter, Bool.and_comm]
    unfold Pages.keep at ih ⊢
    by_cases empty : c.2.filter (fun d => f d.1) = []
    · have nothing : c.2.filter (fun d => f d.1 && g d.1) = [] := by rw [← page, empty, List.filter_nil]
      simpa [List.filter_cons, empty, nothing] using ih
    · simp only [List.map_cons, List.filter_cons, List.isEmpty_eq_false_iff.2 empty, Bool.not_false, if_true, page, ih]

end

end Sys2Proof

namespace Sys2Proof.Machine
open Sys2Proof

/- Fields that stand. -/

/-- A field reads a value, other than its reset value, that no loss of another retention class can hide, whatever the form of the store. -/
def Stands (f : Fld) (v : Nat) (s : State) : Prop := Pages.Firm s.fld (f.key 0) (Nat.xor v (f.dflt 0))

theorem stands_put {f : Fld} {v : Nat} {s : State} (one : 0 < f.count) (fits : v < 2 ^ f.width) (new : v ≠ f.dflt 0) : Stands f v (s.put f 0 v) := by
  rw [State.put, if_pos one, Nat.mod_eq_of_lt fits]
  refine Pages.firm_set_self fun same => new ?_
  rw [← xor_cancel v (f.dflt 0), same]
  exact Nat.zero_xor _

/-- The fields that tell what a reset or the boot found: the causes of a cold reset, and the lifecycle. -/
def reportFlds : List Fld := [Reg.RST_CAUSE_BOR, Reg.RST_CAUSE_BOR_SRC, Reg.RST_CAUSE_PIN, Reg.SEC_LC_LC]

/-- A field is none of them. -/
def offReports (g : Fld) : Bool := reportFlds.all (fun f => Fld.apart g f)

theorem reportFlds_count {f : Fld} (hf : f ∈ reportFlds) : 0 < f.count := by
  revert f; decide

theorem reportFlds_kept {f : Fld} (hf : f ∈ reportFlds) : f.kept = .k ∨ f.kept = .n := by
  revert f; decide

theorem follow_offReports : follow.all (fun g => offReports g && offReports g.held) = true := by decide

theorem reportFlds_aloof {f : Fld} (hf : f ∈ reportFlds) : aloof (f.key 0) := by
  intro g hg m hm
  obtain ⟨own, held⟩ := Bool.and_eq_true_iff.1 (List.all_eq_true.1 follow_offReports g hg)
  exact ⟨(Fld.key_apart g f m 0 hm (reportFlds_count hf) (List.all_eq_true.1 own f hf)).symm,
    (Fld.key_apart g.held f m 0 hm (reportFlds_count hf) (List.all_eq_true.1 held f hf)).symm⟩

section
variable {f : Fld} {v : Nat} {s : State}

theorem Stands.get (h : Stands f v s) (hf : f ∈ reportFlds) : s.get f 0 = v := by
  rw [State.get, if_pos (reportFlds_count hf), h.look]
  exact xor_cancel _ _

theorem Stands.of_fld {t : State} (h : Stands f v s) (e : t.fld = s.fld) : Stands f v t := by
  unfold Stands
  rw [e]
  exact h

theorem Stands.put_ne {g : Fld} {n w : Nat} (h : Stands f v s) (ne : n < g.count → f.key 0 ≠ g.key n) : Stands f v (s.put g n w) := by
  unfold State.put
  split
  next hn => exact h.set_ne (ne hn).symm
  next => exact h

theorem Stands.drop (h : Stands f v s) (c : Kept) (ne : f.kept ≠ c) : Stands f v (s.drop c) := by
  have code : (f.key 0 % 8 != c.code) = true := by
    rw [Fld.key_mod, bne_iff_ne]
    revert ne
    cases f.kept <;> cases c <;> decide
  exact Pages.Firm.keep (f := fun k => k % 8 != c.code) h code

theorem Stands.writeUnit (a : Nat) (l : List (BitVec 8)) (h : Stands f v s) : Stands f v (s.writeUnit a l true) := h

variable (hf : f ∈ reportFlds)
include hf

theorem Stands.off {g : Fld} {n w : Nat} (h : Stands f v s) (hg : offReports g = true := by decide) : Stands f v (s.put g n w) :=
  h.put_ne fun hn => Fld.key_apart g f n 0 hn (reportFlds_count hf) (List.all_eq_true.1 hg f hf)

/-- What follows a command by itself leaves them. -/
theorem closed_stands : Closed (Stands f v) where
  put := fun _ g n _ hg h => h.put_ne fun hn => aloof_ne_key g n _ hg hn (reportFlds_aloof hf)
  dropV := fun _ h => h.drop .v (by rcases reportFlds_kept hf with k | k <;> rw [k] <;> decide)
  dropW := fun _ h => h.drop .w (by rcases reportFlds_kept hf with k | k <;> rw [k] <;> decide)
  top := fun _ _ _ _ _ _ _ _ h => h

theorem Stands.raise (n : Nat) (h : Stands f v s) : Stands f v (s.raise n) := closed_raise _ (closed_stands hf) s n h

theorem Stands.ifDo (c : Bool) {e : State → State} (h : Stands f v s) (he : ∀ t, Stands f v t → Stands f v (e t)) : Stands f v (s.ifDo c e) :=
  closed_ifDo _ (closed_stands hf) s c e h he

theorem Stands.forEach (l : List Nat) {e : State → Nat → State} (h : Stands f v s) (he : ∀ t n, Stands f v t → Stands f v (e t n)) :
    Stands f v (s.forEach l e) := closed_forEach _ (closed_stands hf) s l e h he

/- The writes to NVM and the RESET record. -/

theorem Stands.nvmNext (h : Stands f v s) : Stands f v s.nvmNext := closed_nvmNext _ (closed_stands hf) s h

theorem Stands.commit (h : Stands f v s) : Stands f v s.commit := by
  have begun : Stands f v { s with staging := s.staging.drop 1 } := h.of_fld rfl
  exact ((((begun.off hf).off hf).off hf).off hf).off hf

theorem Stands.journalDone (h : Stands f v s) : Stands f v (s.journalDone true) := by
  unfold State.journalDone
  extract_lets written
  have written : Stands f v { written with gauge := { written.gauge with writing := 0, image := [] } } := h.of_fld rfl
  exact (written.off hf).nvmNext hf

theorem Stands.daybookUnit (h : Stands f v s) : Stands f v (s.daybookUnit true).2 := by
  unfold State.daybookUnit
  split
  · exact h.off hf
  · extract_lets seq k written idle
    have written : Stands f v written := h.writeUnit _ _
    have idle : Stands f v idle := written.off hf
    split
    · exact (idle.off hf).nvmNext hf
    · exact (idle.commit hf).nvmNext hf

theorem Stands.queueUnit (h : Stands f v s) : Stands f v (s.queueUnit true) := by
  unfold State.queueUnit
  extract_lets p idle
  have idle : Stands f v idle := by
    have left : Stands f v { s with nvmq := p.2 } := h.of_fld rfl
    exact (left.off hf).off hf
  split
  · exact idle
  · exact idle

theorem Stands.resetUnits (h : Stands f v s) : Stands f v s.resetUnits := by
  unfold State.resetUnits
  extract_lets cut
  have cut : Stands f v cut := h.of_fld rfl
  split
  · exact cut.journalDone hf
  · exact cut.daybookUnit hf
  · exact cut.queueUnit hf
  · exact cut

theorem Stands.flushStaging (fuel : Nat) (h : Stands f v s) : Stands f v (s.flushStaging fuel) := by
  induction fuel generalizing s with
  | zero => exact h
  | succ k ih =>
    unfold State.flushStaging
    split
    · exact h
    · extract_lets next seq
      have next : Stands f v next := h.nvmNext hf
      split
      · exact next
      · extract_lets written
        have written : Stands f v written := next.of_fld rfl
        exact ih ((written.off hf).commit hf)

theorem Stands.stageCritical (r : Record) (h : Stands f v s) : Stands f v (s.stageCritical r) := closed_stageCritical _ (closed_stands hf) s r h

theorem Stands.writeResetRec (origin : Nat) (h : Stands f v s) : Stands f v (s.writeResetRec origin) :=
  ((((h.flushStaging hf 32).stageCritical hf _).flushStaging hf 32).off hf).off hf

theorem Stands.loseStaging (h : Stands f v s) : Stands f v s.loseStaging := by
  unfold State.loseStaging
  extract_lets latched left
  have emptied : Stands f v { s with staging := [], gap := [] } := h.of_fld rfl
  have left : Stands f v left := (emptied.off hf).off hf
  exact left.ifDo hf _ fun _ ht => ht.off hf

/- The ROM boot stage. -/

theorem Stands.findHead (h : Stands f v s) : Stands f v s.findHead := by
  unfold State.findHead
  extract_lets best
  split
  · exact (h.off hf).off hf
  · exact (h.off hf).off hf

theorem Stands.returnErase (h : Stands f v s) : Stands f v s.returnErase := by
  unfold State.returnErase
  refine h.ifDo hf _ fun t ht => ?_
  have erased : Stands f v { t with nvm := t.nvm.filter (fun c => 0x1B0000 ≤ c.1) } := ht.of_fld rfl
  exact (erased.off hf).findHead hf

theorem Stands.archReset (st : Nat) (h : Stands f v s) : Stands f v (s.archReset st) := by
  unfold State.archReset
  extract_lets regs stack flags depth
  have regs : Stands f v regs := h.forEach hf _ fun _ _ ht => ht.off hf
  have stack : Stands f v stack := regs.forEach hf _ fun _ _ ht => ht.off hf
  have flags : Stands f v flags := (((stack.off hf).off hf).off hf).off hf
  have depth : Stands f v depth := (((flags.off hf).off hf).off hf).off hf
  exact (depth.off hf).off hf

theorem Stands.bootStart (h : Stands f v s) : Stands f v s.bootStart := by
  unfold State.bootStart
  extract_lets opened
  have opened : Stands f v opened := (h.off hf).off hf
  exact opened.ifDo hf _ fun _ ht => (ht.archReset hf 0).off hf

theorem Stands.loadSlot (slot : Nat) (h : Stands f v s) : Stands f v (s.loadSlot slot) := by
  unfold State.loadSlot
  extract_lets cleared loaded
  have cleared : Stands f v cleared := h.of_fld rfl
  have loaded : Stands f v loaded := cleared.forEach hf _ fun _ _ ht => ((ht.off hf).off hf).ifDo hf _ fun _ hu => hu.of_fld rfl
  exact loaded.of_fld rfl

theorem Stands.bootSlot (h : Stands f v s) : Stands f v s.bootSlot := by
  unfold State.bootSlot
  extract_lets a found first slot fellBack running stopped
  have found : Stands f v found := (((h.off hf).off hf).off hf).off hf
  split
  · have fellBack : Stands f v fellBack := found.ifDo hf _ fun _ ht => (ht.off hf).raise hf _
    have running : Stands f v running := (fellBack.off hf).off hf
    exact ((running.off hf).loadSlot hf _).bootStart hf
  · have stopped : Stands f v stopped := found.forEach hf _ fun _ _ ht => ht.off hf
    exact ((((stopped.off hf).off hf).off hf).off hf).raise hf _

end

theorem lcOf_lt (bits : Nat) : lcOf bits < 4 := by
  unfold lcOf
  split <;> decide

/-- The ROM boot stage loads the lifecycle from the bits that stand once the marks of FCLK are gone. -/
theorem romBoot_lc (s : State) (hv : lcOf (s.fclkOn.get Hid.LCBITS 0) ≠ lcDevelop) :
    s.romBoot.get Reg.SEC_LC_LC 0 = lcOf (s.fclkOn.get Hid.LCBITS 0) := by
  have hf : Reg.SEC_LC_LC ∈ reportFlds := by decide
  have bits : (((s.fclkOn.put Hid.MAIN 0 3).put Hid.SEALED 0 0).forEach [0, 1] (fun s x => s.put Hid.PO_CLAMP x 0)).get Hid.LCBITS 0 =
      s.fclkOn.get Hid.LCBITS 0 := by
    simp (disch := decide) only [State.forEach, List.foldl, State.get_put_apart]
  refine Stands.get ?_ hf
  unfold State.romBoot
  extract_lets opened lc loaded checked zeroed flushed recorded ordered booted low
  have lc_eq : lc = s.fclkOn.get Hid.LCBITS 0 := bits
  rw [← lc_eq] at hv ⊢
  have fits : lcOf lc < 4 := lcOf_lt lc
  have loaded : Stands Reg.SEC_LC_LC (lcOf lc) loaded := stands_put (by decide) fits hv
  have checked : Stands Reg.SEC_LC_LC (lcOf lc) checked := loaded.ifDo hf _ fun _ ht => ht.raise hf _
  have zeroed : Stands Reg.SEC_LC_LC (lcOf lc) zeroed := checked.ifDo hf _ fun _ ht => ht.of_fld rfl
  have flushed : Stands Reg.SEC_LC_LC (lcOf lc) flushed := (zeroed.findHead hf).flushStaging hf _
  have recorded : Stands Reg.SEC_LC_LC (lcOf lc) recorded := flushed.ifDo hf _ fun _ ht => ht.writeResetRec hf _
  have ordered : Stands Reg.SEC_LC_LC (lcOf lc) ordered :=
    recorded.ifDo hf _ fun _ ht => (((ht.stageCritical hf _).flushStaging hf _).off hf).raise hf _
  have booted : Stands Reg.SEC_LC_LC (lcOf lc) booted := (ordered.returnErase hf).bootSlot hf
  have low : Stands Reg.SEC_LC_LC (lcOf lc) low := booted.ifDo hf _ fun _ ht => ht.raise hf _
  exact low.ifDo hf _ fun _ ht => ht.raise hf _

/-- A part due for the ROM boot stage whose field store holds the page of LCBITS twice: first with a mark of a field that waits for FCLK, then with the
bits 011, which no read finds. Such a store is not canonical (`State.Inv`). -/
def doubledBits : State :=
  let page := pageOf (Hid.LCBITS.key 0)
  { State.reset with fld := [(page, [(Hid.IN_QUAL.held.key 0, 1)]), (page, [(Hid.LCBITS.key 0, Nat.xor 3 (Hid.LCBITS.dflt 0))])] }

theorem doubledBits_due : doubledBits.get Hid.MAIN 0 = 2 := by decide

theorem doubledBits_bits : lcOf (doubledBits.get Hid.LCBITS 0) = lcDevelop := by decide

/-- The mark goes as FCLK becomes usable, the page that it leaves empty goes with it, and the other one shows a part in the field. -/
theorem doubledBits_fclkOn : lcOf (doubledBits.fclkOn.get Hid.LCBITS 0) = lcField := by decide

theorem doubledBits_romBoot : doubledBits.romBoot.get Reg.SEC_LC_LC 0 = lcField := by
  rw [romBoot_lc doubledBits (by rw [doubledBits_fclkOn]; decide), doubledBits_fclkOn]

/- A cold reset. -/

theorem get_forEach_put_apart (l : List Nat) (f g : Fld) (v n : Nat) (s : State) (h : Fld.apart f g = true) :
    (s.forEach l (fun t i => t.put f i v)).get g n = s.get g n :=
  closed_foldl (fun t => t.get g n = s.get g n) _ l s rfl fun t i ht => (State.get_put_apart t f g i n v h).trans ht

theorem changes_forEach_put (l : List Nat) (f : Fld) (v : Nat) {s u : State} {keys : List Nat} (h : Changes s u keys)
    (hl : ∀ i ∈ l, f.key i ∈ keys) : Changes s (u.forEach l (fun t i => t.put f i v)) keys := by
  induction l generalizing u with
  | nil => exact h
  | cons i l ih =>
    obtain ⟨hi, hl⟩ := List.forall_mem_cons.1 hl
    exact ih (changes_put _ _ _ _ _ _ h hi) hl

theorem changes_ifDo {s u : State} {keys : List Nat} (c : Bool) (e : State → State) (h : Changes s u keys)
    (he : ∀ t, Changes s t keys → Changes s (e t) keys) : Changes s (u.ifDo c e) keys := by
  cases c with
  | false => exact h
  | true => exact he u h

theorem get_of_fld {s t : State} {f : Fld} {n : Nat} (h : t.fld = s.fld) : t.get f n = s.get f n := by
  rw [State.get, State.get, h]

theorem drop_staging (s : State) (c : Kept) : (s.drop c).staging = s.staging := rfl

theorem loseStaging_staging (s : State) : s.loseStaging.staging = [] := by
  unfold State.loseStaging
  extract_lets latched left
  have emptied : left.staging = [] := by simp only [left, State.put_staging]
  exact closed_ite (fun t => t.staging = []) _ _ _ ((State.put_staging left _ _ _).trans emptied) emptied

/-- The retention classes that a cold reset loses: each of their fields reads as its reset value. -/
theorem get_dropped_cold (s : State) (f : Fld) (n : Nat) (hn : n < f.count) (hk : f.kept = .v ∨ f.kept = .w ∨ f.kept = .s ∨ f.kept = .l) :
    ((((s.drop .v).drop .w).drop .s).drop .l).get f n = f.dflt n := by
  simp only [State.get, hn, if_true, State.drop, Pages.keep_keep]
  rw [Pages.look_keep_out]
  · exact Nat.zero_xor _
  · rw [Fld.key_mod]
    rcases hk with k | k | k | k <;> rw [k] <;> rfl

/-- The fields that tell of a cold reset, of the supplies, of the BATFET and of DCIN's debounce. -/
def coldKeys : List Nat :=
  [Reg.RTC_TRIM_SRC.key 0, Hid.MAIN.key 0, Hid.WARM.key 0, Hid.COLD.key 0, Reg.PP_STAT_BFET.key 0, Hid.BF_LOCK.key 0, Hid.IN_OK.key 0,
    Reg.PP_STAT_DCIN_ST.key 0, Hid.IN_PWR.key 0, Hid.IN_PWR.key 1, Hid.IN_PWR.key 2, Hid.PO_CLAMP.key 0, Hid.PO_CLAMP.key 1, Hid.PO_RD.key 0,
    Hid.PO_RD.key 1]

theorem portsClamp_eq (s : State) :
    s.portsClamp = (((s.put Hid.PO_CLAMP 0 1).put Hid.PO_RD 0 0).put Hid.PO_CLAMP 1 1).put Hid.PO_RD 1 0 := rfl

theorem changes_portsClamp {s u : State} (h : Changes s u coldKeys) : Changes s u.portsClamp coldKeys := by
  rw [portsClamp_eq]
  exact changes_put _ _ _ _ _ _ (changes_put _ _ _ _ _ _ (changes_put _ _ _ _ _ _ (changes_put _ _ _ _ _ _ h (by decide)) (by decide)) (by decide))
    (by decide)

/-- A cold reset leaves what `Cold` says, whatever its cause and the form of the store. -/
theorem cold_coldReset (s : State) (bor : Nat) : Cold (s.coldReset bor) := by
  unfold State.coldReset
  extract_lets during sram lose begun caused cut told bf dc fed dropped emptied held path
  have powered : ∀ i ∈ fed, Hid.IN_PWR.key i ∈ coldKeys := fun i hi =>
    (show ∀ i < 3, Hid.IN_PWR.key i ∈ coldKeys by decide) i (List.mem_range.1 (List.mem_of_mem_filter hi))
  have heldKeys : Changes emptied held coldKeys :=
    changes_put _ _ _ _ _ _ (changes_put _ _ _ _ _ _ (changes_put _ _ _ _ _ _ (changes_refl _ _) (by decide)) (by decide)) (by decide)
  have pathKeys : Changes emptied path coldKeys :=
    changes_forEach_put _ _ _ (changes_portsClamp (changes_mark _ _ _ _ _ _ (changes_put _ _ _ _ _ _ heldKeys (by decide)) (by decide))) powered
  have keys : Changes emptied (path.ifDo dc fun s => (s.put Hid.IN_OK 0 1).setInSt 0 inDebounce) coldKeys :=
    changes_ifDo _ _ pathKeys fun t ht => changes_put _ _ _ _ _ _ (changes_put _ _ _ _ _ _ ht (by decide)) (by decide)
  obtain ⟨others, rest⟩ := keys
  have tells : ∀ f n v, (f, n, v) ∈ [(Hid.MAIN, 0, 1), (Hid.COLD, 0, 1), (Hid.WARM, 0, 0), (Hid.PO_CLAMP, 0, 1), (Hid.PO_CLAMP, 1, 1), (Hid.PO_RD, 0, 0),
      (Hid.PO_RD, 1, 0)] → (path.ifDo dc fun s => (s.put Hid.IN_OK 0 1).setInSt 0 inDebounce).get f n = v := by
    intro f n v told
    fin_cases told <;> simp (disch := decide) only [path, held, State.setInSt, State.mark, portsClamp_eq, State.get_ifDo, get_forEach_put_apart,
      State.get_put_apart, State.get_put_unit, State.get_put_self, ite_self] <;> rfl
  refine ⟨fun f n hn lost silent => ?_, tells _ _ _ (by decide), tells _ _ _ (by decide), tells _ _ _ (by decide), fun x => ?_, ?_⟩
  · rw [others f n silent]
    have trim : f.key n ≠ Reg.RTC_TRIM_SRC.key 0 := fun e => silent (e ▸ List.mem_cons_self)
    have unmailed : emptied.fld = dropped.fld := by simp only [emptied]
    rw [get_of_fld unmailed, State.get_put_ne _ _ _ _ _ _ trim, get_dropped_cold _ f n hn lost]
  · have clamped := tells Hid.PO_CLAMP x 1 (by fin_cases x <;> decide)
    have red := tells Hid.PO_RD x 0 (by fin_cases x <;> decide)
    exact ⟨by rw [State.is, clamped]; rfl, by rw [State.is, red]; rfl⟩
  · have unstaged : emptied.staging = [] := by
      simp only [emptied, dropped, State.put_staging, drop_staging, loseStaging_staging]
    exact ⟨congrArg State.nvmq rest, congrArg State.mail rest, congrArg State.evq rest, congrArg State.out rest, (congrArg State.staging rest).trans unstaged,
      congrArg State.gauge rest⟩

/-- The cause of a cold reset in RST_CAUSE (R58): a supply of BOR, or the pin. -/
def State.coldCause (s : State) (bor : Nat) : State :=
  if bor == 0 then s.put Reg.RST_CAUSE_PIN 0 1 else (s.put Reg.RST_CAUSE_BOR 0 1).put Reg.RST_CAUSE_BOR_SRC 0 bor

/-- What a cold reset records of its cause stands through the rest of it. -/
theorem stands_coldReset (s : State) (bor : Nat) {f : Fld} {v : Nat} (hf : f ∈ reportFlds)
    (records : ∀ t : State, Stands f v (t.coldCause bor)) : Stands f v (s.coldReset bor) := by
  have classes : f.kept ≠ .v ∧ f.kept ≠ .w ∧ f.kept ≠ .s ∧ f.kept ≠ .l := by
    rcases reportFlds_kept hf with k | k <;> rw [k] <;> decide
  obtain ⟨notV, notW, notS, notL⟩ := classes
  unfold State.coldReset
  extract_lets during sram lose begun caused cut told bf dc fed dropped emptied held path
  have caused : Stands f _ caused := records begun
  have cut : Stands f _ cut := (closed_release _ (closed_stands hf) _ true caused).resetUnits hf
  have told : Stands f _ told :=
    closed_ite _ _ _ _ ((cut.off hf).off hf) (cut.ifDo hf _ fun _ ht => ht.writeResetRec hf 0)
  have dropped : Stands f _ dropped := (((((told.loseStaging hf).drop _ notV).drop _ notW).drop _ notS).drop _ notL).off hf
  have emptied : Stands f _ emptied := dropped.of_fld (by simp only [emptied])
  have held : Stands f _ held := ((emptied.off hf).off hf).off hf
  have path : Stands f _ path := (((held.off hf).off hf).forEach hf _ fun _ _ ht => (ht.off hf).off hf).forEach hf _ fun _ _ ht => ht.off hf
  exact path.ifDo hf _ fun _ ht => (ht.off hf).off hf

/-- A brownout's supply has a number that BOR_SRC holds, and none is its reset value. -/
theorem supplyNum_fits (x : Supply) : supplyNum x < 2 ^ Reg.RST_CAUSE_BOR_SRC.width ∧ supplyNum x ≠ Reg.RST_CAUSE_BOR_SRC.dflt 0 := by
  cases x <;> decide

theorem coldReset_pin (s : State) : (s.coldReset 0).get Reg.RST_CAUSE_PIN 0 = 1 := by
  have hf : Reg.RST_CAUSE_PIN ∈ reportFlds := by decide
  exact (stands_coldReset s 0 hf fun t => stands_put (by decide) (by decide) (by decide)).get hf

theorem coldReset_bor (s : State) (x : Supply) :
    (s.coldReset (supplyNum x)).get Reg.RST_CAUSE_BOR 0 = 1 ∧ (s.coldReset (supplyNum x)).get Reg.RST_CAUSE_BOR_SRC 0 = supplyNum x := by
  have bor : Reg.RST_CAUSE_BOR ∈ reportFlds := by decide
  have src : Reg.RST_CAUSE_BOR_SRC ∈ reportFlds := by decide
  obtain ⟨fits, new⟩ := supplyNum_fits x
  have supply : (supplyNum x == 0) = false := beq_eq_false_iff_ne.2 new
  refine ⟨(stands_coldReset s _ bor fun t => ?_).get bor, (stands_coldReset s _ src fun t => ?_).get src⟩
  · rw [State.coldCause, supply, if_neg Bool.false_ne_true]
    have stood : Stands Reg.RST_CAUSE_BOR 1 (t.put Reg.RST_CAUSE_BOR 0 1) := stands_put (by decide) (by decide) (by decide)
    exact stood.put_ne fun _ => by decide
  · rw [State.coldCause, supply, if_neg Bool.false_ne_true]
    exact stands_put (by decide) fits new

end Sys2Proof.Machine

open Sys2Proof Sys2Proof.Machine

/-- Settles O10: `coldReset` returns its retention classes and what waited, and what it recorded of its cause stands in any store. -/
theorem coldResetsReturnTheirFields : Obligations.ColdResetsReturnTheirFields := by
  refine fun s => ⟨fun x alive => ?_, fun up => ?_⟩
  · obtain ⟨t, runs, follows⟩ := ended_of (s := s) (f := fun s => s.coldReset (supplyNum x)) alive
    exact ⟨_, t, runs, follows, cold_coldReset s _, coldReset_bor s x⟩
  · obtain ⟨t, runs, follows⟩ := ended_of (s := s) (f := fun s => s.coldReset 0) up
    exact ⟨_, t, runs, follows, cold_coldReset s 0, coldReset_pin s⟩

/-- Refutes O11: it asks no canonical form of the state. In `doubledBits` the lifecycle bits read 001, and the ROM boot stage loads what they read once
FCLK is usable: FIELD, where the statement says DEVELOP. -/
theorem not_resetsAndBoot : ¬ Obligations.ResetsAndBoot := by
  intro h
  obtain ⟨-, -, -, -, -, boots, -⟩ := h doubledBits .spi
  obtain ⟨u, t, -, -, booted, -, -, -, -, lifecycle, -⟩ := boots doubledBits_due
  have field : u.get Reg.SEC_LC_LC 0 = lcField := booted ▸ doubledBits_romBoot
  rw [field, doubledBits_bits] at lifecycle
  exact absurd lifecycle (by decide)
end

section
/-! PROOFS. The loops and the phases: what a stop, a readmission and an interrupt leave, events that take time, and the commands of both. -/

namespace Sys2Proof.Machine
open Sys2Proof

/- Fields that an operation leaves. -/

/-- Every field apart from those of a list reads as before. -/
def SameApart (l : List Fld) (s t : State) : Prop := ∀ g m, (∀ f ∈ l, Fld.apart f g = true) → t.get g m = s.get g m

section
variable {l : List Fld} {s t : State}

theorem SameApart.refl : SameApart l s s := fun _ _ _ => rfl

theorem SameApart.get (h : SameApart l s t) {g : Fld} {m : Nat} (hg : ∀ f ∈ l, Fld.apart f g = true := by decide) :
    t.get g m = s.get g m := h g m hg

theorem SameApart.put (h : SameApart l s t) {f : Fld} {n v : Nat} (hf : f ∈ l := by decide) : SameApart l s (t.put f n v) :=
  fun g m hg => (State.get_put_apart t f g n m v (hg f hf)).trans (h g m hg)

theorem SameApart.mark (h : SameApart l s t) {f : Fld} {n : Nat} {b : Bool} (hf : f ∈ l := by decide) : SameApart l s (t.mark f n b) := h.put hf

theorem SameApart.of_fld {u : State} (h : SameApart l s t) (e : u.fld = t.fld) : SameApart l s u := fun g m hg => (get_of_fld e).trans (h g m hg)

theorem SameApart.ifDo (h : SameApart l s t) {c : Bool} {e : State → State} (he : ∀ u, SameApart l s u → SameApart l s (e u)) :
    SameApart l s (t.ifDo c e) := by
  cases c with
  | false => exact h
  | true => exact he t h

theorem SameApart.forEach (h : SameApart l s t) {k : List Nat} {e : State → Nat → State} (he : ∀ u n, SameApart l s u → SameApart l s (e u n)) :
    SameApart l s (t.forEach k e) := closed_foldl _ _ k t h he

end

/-- The fields that a raised interrupt writes: its latch, the mark of a set that waits for FCLK, and FCLK where it wakes the part. -/
def irqFlds : List Fld := [Reg.IS_RLAT_RLAT, Reg.IS_RLAT_RLAT.held, Hid.FCLK]

/-- The fields that a phase's entry into service writes. -/
def joinFlds : List Fld := [Reg.PH_STAT_FENCED, Hid.PH_FBY, Hid.PH_WAIT, Hid.PH_CHECK] ++ irqFlds

/-- The fields that a rail's good test writes. -/
def goodFlds : List Fld := [Reg.SEQ_OUT_RSTATE, Hid.RL_CNT, Hid.RL_ARM, Reg.CH_DATA_ARMED, Reg.KPR_STAT_STATE] ++ irqFlds

/-- The fields that an input switch's opening writes. -/
def switchFlds : List Fld := [Hid.LP_INSW, Hid.SQ_DRV]

/-- The fields that a loop's way to OFF writes after its reference. -/
def restFlds : List Fld := [Hid.LP_RESTART, Hid.LP_PGT, Hid.LP_DIODE] ++ joinFlds

/-- The fields that a loop's way to OFF writes after its state. -/
def offFlds : List Fld :=
  [Reg.LP_REF_VREF_NOW, Reg.LP_STAT_PG, Hid.LP_PGD, Hid.LP_RUSH, Hid.LP_RUSH_U, Hid.LP_BRAKE, Hid.LP_BRK_U, Hid.PH_LIM] ++ switchFlds ++ restFlds

section
variable {l : List Fld} {s t : State} (h : SameApart l s t)
include h

theorem SameApart.irq (k : Nat) (hl : irqFlds ⊆ l := by decide) : SameApart l s (t.irq k) :=
  h.ifDo fun _ hu => ((hu.put (hl (by decide))).ifDo fun _ hv => hv.put (hl (by decide))).ifDo fun _ hv =>
    hv.ifDo fun _ hw => hw.put (hl (by decide))

theorem SameApart.raise (k : Nat) : SameApart l s (t.raise k) := fun g m hg => (State.get_raise t k g m).trans (h g m hg)

theorem SameApart.swOpen (n : Nat) (hl : switchFlds ⊆ l := by decide) : SameApart l s (t.swOpen n) :=
  h.ifDo fun _ hu => (hu.put (hl (by decide))).ifDo fun _ hv => hv.put (hl (by decide))

theorem SameApart.phaseJoin (k : Nat) (hl : joinFlds ⊆ l := by decide) : SameApart l s (t.phaseJoin k) := by
  have free : SameApart l s ((((t.put Reg.PH_STAT_FENCED k 0).put Hid.PH_FBY k 0).put Hid.PH_WAIT k 0).put Hid.PH_CHECK k 0) :=
    (((h.put (hl (by decide))).put (hl (by decide))).put (hl (by decide))).put (hl (by decide))
  have balanced := free.of_fld (u := State.setBal _ k 0) rfl
  unfold State.phaseJoin
  exact balanced.ifDo fun _ hu => hu.irq _ fun _ hf => hl (List.mem_append_right _ hf)

theorem SameApart.endWaits (n : Nat) (hl : joinFlds ⊆ l := by decide) : SameApart l s (t.endWaits n) := h.forEach fun _ _ hu => hu.phaseJoin _ hl

/-- The end of a loop's way to OFF, after its reference. -/
theorem SameApart.restOff (n : Nat) (hl : restFlds ⊆ l := by decide) :
    SameApart l s ((((t.put Hid.LP_RESTART n 0).put Hid.LP_PGT n 0).put Hid.LP_DIODE n 0).endWaits n) :=
  (((h.put (hl (by decide))).put (hl (by decide))).put (hl (by decide))).endWaits n fun _ hf => hl (List.mem_append_right _ hf)

theorem SameApart.becomeGood (r : Nat) (hl : goodFlds ⊆ l := by decide) : SameApart l s (t.becomeGood r) := by
  have railed : SameApart l s ((t.setRail r rsGood).put Hid.RL_CNT r 0) := SameApart.put (h.put (hl (by decide))) (hl (by decide))
  have armed : SameApart l s (((t.setRail r rsGood).put Hid.RL_CNT r 0).armUv r true) := by
    unfold State.armUv
    exact (railed.mark (hl (by decide))).ifDo fun _ hu => hu.mark (hl (by decide))
  unfold State.becomeGood State.checkOn
  exact armed.ifDo fun _ hu => (hu.put (hl (by decide))).irq _ fun _ hf => hl (List.mem_append_right _ hf)

theorem SameApart.tryGoods (p : Nat → Bool) (hl : goodFlds ⊆ l := by decide) : SameApart l s (t.tryGoods p) :=
  h.forEach fun _ _ hu => hu.ifDo fun _ hv => hv.becomeGood _ hl

theorem SameApart.finishStop (r : Nat) (hl : Reg.SEQ_OUT_RSTATE ∈ l := by decide) : SameApart l s (t.finishStop r) :=
  h.ifDo fun u hu => (hu.put hl).of_fld (t := u.setRail r rsOff) rfl

end

/- The sense inputs. -/

/-- Levels at the sense inputs change no other field. -/
theorem sameApart_sense (s : State) (n : Nat) (m : LoopSense) : SameApart [Hid.LP_VSEN, Hid.PH_VISEN] s (s.sense n m) :=
  closed_foldl _ _ m.isen _ SameApart.refl.put fun _ _ hu => hu.put

theorem up_sense (s : State) (n : Nat) (m : LoopSense) : (s.sense n m).up = s.up := by
  rw [State.up, (sameApart_sense s n m).get, State.up]

theorem up_visen (s : State) (k v : Nat) : (s.put Hid.PH_VISEN k v).up = s.up := by
  rw [State.up, State.get_put_apart _ _ _ _ _ _ (by decide), State.up]

/- Events that take time. -/

section
variable {s : State} {c : Bool} {wait : State → State} {still : State → Bool} {f : State → State}

/-- An event whose condition the state meets, and meets still when its time has passed. -/
theorem done_after (h : c = true) (h' : still (wait s) = true) :
    done (s.ifDo c fun s => (wait s).ifDo (still (wait s)) f) = .next (f (wait s)) := by
  rw [done_of h, h', State.ifDo_true]

theorem ended_after (h : c = true) (h' : still (wait s) = true) :
    ∃ t, ended (s.ifDo c fun s => (wait s).ifDo (still (wait s)) f) = .next t ∧ Settles (f (wait s)) t := by
  obtain ⟨t, runs, follows⟩ := ended_of (s := s) (f := fun s => (wait s).ifDo (still (wait s)) f) h
  rw [h', State.ifDo_true] at follows
  exact ⟨t, runs, follows⟩

end

/- What the operations of a loop leave. -/

section
variable (s : State) (n : LoopN)

theorem is_of_get {s : State} {f : Fld} {n v : Nat} (h : s.get f n = v) : s.is f n = (v != 0) := by rw [State.is, h]

/-- A mark that an operation takes away where it stands reads as none after it. -/
theorem is_ifDo_cleared {s : State} {f : Fld} {n : Nat} {e : State → State} (h : (e s).get f n = 0) : (s.ifDo (s.is f n) e).is f n = false := by
  cases marked : s.is f n with
  | false => exact marked
  | true => exact is_of_get h

theorem swOpen_open : (s.swOpen n).is Hid.LP_INSW n = false := by
  refine is_ifDo_cleared ?_
  have shut : (s.put Hid.LP_INSW n 0).get Hid.LP_INSW n = 0 := State.get_put_self s Hid.LP_INSW n 0 n.isLt
  rw [State.get_ifDo, State.get_put_apart _ _ _ _ _ _ (by decide), shut, ite_self]

theorem rushEnd_over : (s.rushEnd n).is Hid.LP_RUSH n = false :=
  is_ifDo_cleared ((State.get_put_apart _ _ _ _ _ _ (by decide)).trans (State.get_put_self s Hid.LP_RUSH n 0 n.isLt))

theorem brakeEnd_over : (s.brakeEnd n).is Hid.LP_BRAKE n = false :=
  is_ifDo_cleared ((State.get_put_apart _ _ _ _ _ _ (by decide)).trans (State.get_put_self s Hid.LP_BRAKE n 0 n.isLt))

theorem pgLow_low : (s.pgLow n).is Reg.LP_STAT_PG n = false :=
  is_ifDo_cleared (((State.get_put_apart _ _ _ _ _ _ (by decide)).trans (State.get_put_apart _ _ _ _ _ _ (by decide))).trans
    (State.get_put_self s Reg.LP_STAT_PG n 0 n.isLt))

/-- The rails that PG makes GOOD leave it. -/
theorem pgHigh_high : (s.pgHigh n).is Reg.LP_STAT_PG n = true := by
  unfold State.pgHigh State.ifDo
  split
  next low =>
    have tried : SameApart goodFlds (s.put Reg.LP_STAT_PG n 1) ((s.put Reg.LP_STAT_PG n 1).pgChange (64 + n) true) :=
      SameApart.refl.tryGoods (fun r => (s.put Reg.LP_STAT_PG n 1).get Reg.SEQ_JDG_PG_SRC r == 64 + n)
    exact is_of_get (tried.get.trans (State.get_put_self s Reg.LP_STAT_PG n 1 n.isLt))
  next high => simpa using high

theorem loopOff_off (enabled : s.lpEn n = true) : (s.loopOff n).lp n = 0 ∧ (s.loopOff n).get Reg.LP_REF_VREF_NOW n = 0 := by
  unfold State.loopOff
  extract_lets off shut free
  have offNow : off.lp n = 0 := by
    simp only [off, enabled, State.ifDo_true]
    exact State.get_put_self s Reg.LP_STAT_STATE n lpOff n.isLt
  have shutApart : SameApart offFlds off shut :=
    (((SameApart.refl.ifDo fun _ hu => hu.put.put.put).ifDo fun _ hu => hu.put.put).ifDo fun _ hu => hu.put.put).swOpen n
  have freeApart : SameApart offFlds off free := shutApart.forEach fun _ _ hu => hu.put
  have stateApart := (freeApart.put (f := Reg.LP_REF_VREF_NOW) (n := n) (v := 0)).restOff n
  have refApart := (SameApart.refl (l := restFlds) (s := free.put Reg.LP_REF_VREF_NOW n 0)).restOff n
  exact ⟨stateApart.get.trans offNow, refApart.get.trans (State.get_put_self free Reg.LP_REF_VREF_NOW n 0 n.isLt)⟩

/-- A loop that does not start again is OFF when its stop is complete, and its rail's stop changes neither its state nor its reference. -/
theorem loopStopped_off (stopping : s.lp n = 4) (once : s.is Hid.LP_RESTART n = false) :
    (s.loopStopped n).lp n = 0 ∧ (s.loopStopped n).get Reg.LP_REF_VREF_NOW n = 0 := by
  have enabled : s.lpEn n = true := by rw [State.lpEn, stopping]; rfl
  obtain ⟨off, ref⟩ := loopOff_off s n enabled
  unfold State.loopStopped
  extract_lets again down
  rw [if_neg (by simp [again, once])]
  split
  next => exact ⟨off, ref⟩
  next r _ =>
    have stopped : SameApart [Reg.SEQ_OUT_RSTATE] down (down.finishStop r) := SameApart.refl.finishStop r
    exact ⟨stopped.get.trans off, stopped.get.trans ref⟩

end

/-- A raised interrupt leaves the balance corrections. -/
theorem irq_bal (s : State) (k : Nat) : (s.irq k).bal = s.bal := by
  simp only [State.irq, State.wake, State.demand, State.flag, State.ifDo]
  split_ifs <;> simp only [State.put_bal]

/-- A phase in service is not fenced, and its balance correction starts anew. -/
theorem phaseJoin_joined (s : State) (k : PhaseN) : (s.phaseJoin k).is Reg.PH_STAT_FENCED k = false ∧ (s.phaseJoin k).balOf k = 0 := by
  unfold State.phaseJoin
  extract_lets n free
  have freed : free.get Reg.PH_STAT_FENCED k = 0 := by
    have put : SameApart [Hid.PH_FBY, Hid.PH_WAIT, Hid.PH_CHECK] (s.put Reg.PH_STAT_FENCED k 0) free :=
      (SameApart.refl.put.put.put).of_fld rfl
    exact put.get.trans (State.get_put_self s Reg.PH_STAT_FENCED k 0 k.isLt)
  have balanced : free.balOf k = 0 := by
    simp [free, State.balOf, State.setBal, Vector.getD]
  have told : SameApart irqFlds free (free.ifDo (free.is Reg.PH_CFG_ASSIGN k) fun s => s.irq (5 + n)) := SameApart.refl.ifDo fun _ hu => hu.irq _
  refine ⟨is_of_get (told.get.trans freed), ?_⟩
  unfold State.ifDo
  split
  · rw [State.balOf, irq_bal]
    exact balanced
  · exact balanced

/-- A permitted write to a word's address acts in the state in which it arrives. -/
theorem regWrite_word {s u : State} {w : Writer} {a v : Nat} (fits : a < 2 ^ 16) (word : a / 4 * 4 = a) (hp : Permitted s w a v)
    (hu : (s.arrive w).store w a v = u) : ∃ t, regWrite s w a v = .next t ∧ Settles u t := by
  have same : (BitVec.ofNat 16 a).toNat = a := (BitVec.toNat_ofNat a 16).trans (Nat.mod_eq_of_lt fits)
  rw [← same] at word hp hu ⊢
  exact regWrite_permitted _ word hp hu

/-- LPn_STAT stands at its address. -/
theorem store_lpStat (s : State) (w : Writer) (n : LoopN) (v : Nat) : s.store w (0x1228 + 64 * n) v = s.lpStat n v := by
  fin_cases n <;> rfl

/- The commands of the loops. -/

theorem vao_of_up {s : State} (up : s.up = true) : s.vao = true := by
  simp only [State.up, decide_eq_true_eq] at up
  simp only [State.vao, State.is, bne_iff_ne]
  omega

section
variable {s : State} {n : LoopN} {m : LoopSense}

/-- A rush ends at once where VSEN is back, and else when it has lasted its time. -/
theorem exec_rushEnd (rushing : (s.sense n m).is Hid.LP_RUSH n = true) :
    exec (.rushEnd ⟨n, m⟩) s =
      .next (((s.sense n m).ifDo ((s.sense n m).rushLevel n (1 / 2)) fun s => s.passTime (s.rushLast n - s.usec)).rushEnd n) := done_of rushing

/-- Braking likewise. -/
theorem exec_brakeEnd (braking : (s.sense n m).is Hid.LP_BRAKE n = true) :
    exec (.brakeEnd ⟨n, m⟩) s =
      .next (((s.sense n m).ifDo ((s.sense n m).brakeLevel n (1 / 2)) fun s => s.passTime (s.brakeLast n - s.usec)).brakeEnd n) := done_of braking

theorem exec_hssClear {w : Writer} (hp : Permitted s w (0x1228 + 64 * n) 16) :
    ∃ t, exec (.hssClear w n) s = .next t ∧ Settles ((s.arrive w).lpStat n 16) t :=
  regWrite_word (by omega) (by omega) hp (store_lpStat _ w n 16)

variable (up : s.up = true)
include up

theorem exec_highSideShort {v0 : Nat} :
    let b := s.sense n m
    b.lp n = 1 → b.shortSeen n v0 m.vsen = true → b.usec ≤ b.get Hid.LP_CHK_T n + 100 →
      ∃ u t, exec (.highSideShort n ⟨v0, m⟩) s = .next t ∧ Settles u t ∧
        u = ((((b.put Reg.LP_STAT_STATE n 5).put Reg.LP_STAT_HSS n 1).swOpen n).put Reg.LP_STAT_HSS_PH n (b.hssPhase n)).raise (24 + n) ∧
        u.lp n = 5 ∧ u.is Reg.LP_STAT_HSS n = true ∧ u.is Hid.LP_INSW n = false := by
  intro b checking short within
  have acts : (b.up && b.lp n == lpCheck && b.shortSeen n v0 m.vsen && b.usec ≤ b.get Hid.LP_CHK_T n + 100) = true := by
    simp [b, up_sense, up, checking, short, within, lpCheck]
  obtain ⟨t, runs, follows⟩ := ended_of (s := b) (f := fun s =>
    ((((s.put Reg.LP_STAT_STATE n lpHss).put Reg.LP_STAT_HSS n 1).swOpen n).put Reg.LP_STAT_HSS_PH n (s.hssPhase n)).raise (24 + n)) acts
  let blocked := (b.put Reg.LP_STAT_STATE n 5).put Reg.LP_STAT_HSS n 1
  have named : SameApart [Reg.LP_STAT_HSS_PH] (blocked.swOpen n) (((blocked.swOpen n).put Reg.LP_STAT_HSS_PH n (b.hssPhase n)).raise (24 + n)) :=
    SameApart.refl.put.raise _
  have opened : SameApart switchFlds blocked (blocked.swOpen n) := SameApart.refl.swOpen n
  have state : blocked.lp n = 5 := (State.get_put_apart _ _ _ _ _ _ (by decide)).trans (State.get_put_self b Reg.LP_STAT_STATE n 5 n.isLt)
  have marked : blocked.get Reg.LP_STAT_HSS n = 1 := State.get_put_self _ Reg.LP_STAT_HSS n 1 n.isLt
  refine ⟨_, t, runs, follows, rfl, named.get.trans (opened.get.trans state), is_of_get (named.get.trans (opened.get.trans marked)), ?_⟩
  exact (congrArg (· != 0) named.get).trans (swOpen_open blocked n)

theorem exec_prestartCheckPass {v0 : Nat} :
    let b := s.sense n m
    b.lp n = 1 → b.shortSeen n v0 m.vsen = false →
      let c := b.passTime (b.get Hid.LP_CHK_T n + 100 - b.usec)
      c.lp n = 1 → exec (.prestartCheckPass n ⟨v0, m⟩) s = .next ((((c.put Reg.LP_STAT_STATE n 2).put Reg.LP_REF_VREF_NOW n
        (min 3600 (m.vsen / 1000))).put Hid.LP_ACC n 0).put Hid.LP_DIODE n 1) := by
  intro b checking clean c still
  have acts : (b.up && b.lp n == lpCheck && !b.shortSeen n v0 m.vsen) = true := by simp [b, up_sense, up, checking, clean, lpCheck]
  exact done_after (s := b) (still := fun s => s.lp n == lpCheck) acts (beq_iff_eq.2 still)

theorem exec_softStartEnd (starting : s.lp n = 2) :
    let c := s.passTime (s.rampLeft n (s.get Reg.LP_REF_TARGET n))
    c.lp n = 2 → ∃ t, exec (.softStartEnd n) s = .next t ∧
      Settles (((((c.put Reg.LP_STAT_STATE n 3).put Reg.LP_REF_VREF_NOW n (c.get Reg.LP_REF_TARGET n)).put Hid.LP_ACC n 0).put Hid.LP_PGT n 0).tryGoods
        (fun r => c.outKind r == 1 && c.outNum r == n)) t := by
  intro c still
  have acts : (s.up && s.lp n == lpSoft) = true := by simp [up, starting, lpSoft]
  exact ended_after (s := s) (wait := fun s => s.passTime (s.rampLeft n (s.get Reg.LP_REF_TARGET n))) (still := fun s => s.lp n == lpSoft)
    (f := fun s => s.softEnds n) acts (beq_iff_eq.2 still)

theorem exec_loopStopComplete (stopping : s.lp n = 4) :
    let c := s.passTime (s.rampLeft n 0)
    c.lp n = 4 → ∃ u t, exec (.loopStopComplete n) s = .next t ∧ Settles u t ∧
      (u = c.loopStopped n ∧ (c.is Hid.LP_RESTART n = false → u.lp n = 0 ∧ u.get Reg.LP_REF_VREF_NOW n = 0)) := by
  intro c still
  have acts : (s.vao && s.lp n == lpStopping) = true := by simp [vao_of_up up, stopping, lpStopping]
  obtain ⟨t, runs, follows⟩ := ended_after (s := s) (wait := fun s => s.passTime (s.rampLeft n 0))
    (still := fun s => s.lp n == lpStopping) (f := fun s => s.loopStopped n) acts (beq_iff_eq.2 still)
  exact ⟨_, t, runs, follows, rfl, loopStopped_off c n still⟩

theorem exec_rushStart :
    let b := s.sense n m
    b.lp n = 3 ∨ b.lp n = 4 → b.is Reg.LP_PROT_RUSH_TH n = true → b.inEvent n = false → b.rushLevel n 1 = true →
      b.get Hid.LP_RUSH_U n ≤ b.usec →
      exec (.rushStart ⟨n, m⟩) s = .next (((b.put Hid.LP_RUSH n 1).put Reg.LP_STAT_RUSH n 1).put Hid.LP_EVT_T n b.usec) := by
  intro b regulating enabled calm low rested
  have acts : (b.up && (b.lp n == lpRun || b.lp n == lpStopping) && b.is Reg.LP_PROT_RUSH_TH n && b.rushLevel n 1 && !b.inEvent n &&
      b.get Hid.LP_RUSH_U n ≤ b.usec) = true := by
    simpa [b, up_sense, up, enabled, calm, low, rested, lpRun, lpStopping] using regulating
  exact done_of acts

theorem exec_brakeStart :
    let b := s.sense n m
    2 ≤ b.lp n → b.lp n ≤ 4 → b.is Reg.LP_PROT_BRAKE_TH n = true → b.inEvent n = false → b.brakeLevel n 1 = true →
      b.get Hid.LP_BRK_U n ≤ b.usec →
      exec (.brakeStart ⟨n, m⟩) s = .next (((b.put Hid.LP_BRAKE n 1).put Reg.LP_STAT_BRAKE n 1).put Hid.LP_EVT_T n b.usec) := by
  intro b started enabled threshold calm high rested
  have switches : b.switching n = true := by
    have state : b.lp n = 2 ∨ b.lp n = 3 ∨ b.lp n = 4 := by omega
    simpa [State.switching, lpSoft, lpRun, lpStopping, or_assoc] using state
  have acts : (b.up && b.switching n && b.is Reg.LP_PROT_BRAKE_TH n && b.brakeLevel n 1 && !b.inEvent n && b.get Hid.LP_BRK_U n ≤ b.usec) = true := by
    simp [b, up_sense, up, switches, threshold, calm, high, rested]
  exact done_of acts

theorem exec_pgAssert :
    let b := s.sense n m
    b.pgMay n = true → b.is Reg.LP_STAT_PG n = false →
      let c := b.passTime (b.pgOnDly n - b.get Hid.LP_PGT n)
      c.pgMay n = true → ∃ u t, exec (.pgAssert ⟨n, m⟩) s = .next t ∧ Settles u t ∧
        u = (c.pgHigh n).put Hid.LP_PGT n 0 ∧ u.is Reg.LP_STAT_PG n = true := by
  intro b may low c still
  have acts : (b.up && b.pgMay n && !b.is Reg.LP_STAT_PG n) = true := by simp [b, up_sense, up, may, low]
  obtain ⟨t, runs, follows⟩ := ended_after (s := b) (wait := fun s => s.passTime (s.pgOnDly n - s.get Hid.LP_PGT n)) (still := fun s => s.pgMay n)
    (f := fun s => (s.pgHigh n).put Hid.LP_PGT n 0) acts still
  have timed : SameApart [Hid.LP_PGT] (c.pgHigh n) ((c.pgHigh n).put Hid.LP_PGT n 0) := SameApart.refl.put
  exact ⟨_, t, runs, follows, rfl, (congrArg (· != 0) timed.get).trans (pgHigh_high c n)⟩

theorem exec_pgDeassert :
    let b := s.sense n m
    b.is Reg.LP_STAT_PG n = true → b.inPgWin n = false →
      let c := b.passTime (b.pgOffFilt n - b.get Hid.LP_PGT n)
      ∃ u t, exec (.pgDeassert ⟨n, m⟩) s = .next t ∧ Settles u t ∧ u = c.pgLow n ∧ u.is Reg.LP_STAT_PG n = false := by
  intro b high outside c
  have acts : (b.up && b.is Reg.LP_STAT_PG n && !b.inPgWin n) = true := by simp [b, up_sense, up, high, outside]
  obtain ⟨t, runs, follows⟩ := ended_of (s := b) (f := fun s => (s.passTime (s.pgOffFilt n - s.get Hid.LP_PGT n)).pgLow n) acts
  exact ⟨_, t, runs, follows, rfl, pgLow_low c n⟩

theorem exec_syncLoss (following : s.is Reg.MLC_FRAME_SRC 0 = true) (held : s.is Reg.MLC_SYNC_STAT_HOLDING 0 = false) :
    exec .syncLoss s = .next ((((s.put Reg.MLC_SYNC_STAT_LOSS 0 1).put Reg.MLC_SYNC_STAT_HOLDING 0 1).put Reg.MLC_SYNC_STAT_LOCK 0 0).irq 13) := by
  have acts : (s.up && s.is Reg.MLC_FRAME_SRC 0 && !s.is Reg.MLC_SYNC_STAT_HOLDING 0) = true := by simp [up, following, held]
  exact done_of acts

theorem exec_syncLock (following : s.is Reg.MLC_FRAME_SRC 0 = true) (khz : Nat) (low : 200 ≤ khz) (high : khz ≤ 2000) :
    exec (.syncLock khz) s = .next (((s.put Reg.MLC_SYNC_STAT_LOCK 0 1).put Reg.MLC_SYNC_STAT_HOLDING 0 0).put Reg.MLC_SYNC_STAT_FRAME_NOW 0 khz) := by
  have acts : (s.up && s.is Reg.MLC_FRAME_SRC 0 && 200 ≤ khz && khz ≤ 2000) = true := by simp [up, following, low, high]
  exact done_of acts

end

/- The commands of the phases. -/

section
variable {s : State} {k : PhaseN} (up : s.up = true)
include up

theorem exec_phaseCurrentLimit {v : Nat} :
    let b := s.put Hid.PH_VISEN k v
    b.faultLive k = true → b.overLimit k = true →
      exec (.phaseCurrentLimit ⟨k, v⟩) s =
        .next (((b.put Hid.PH_LIM k 1).put Reg.PH_STAT_ILIM k 1).put Reg.LP_STAT_ILIM (s.get Reg.PH_CFG_LOOP k) 1) := by
  intro b live above
  have acts : (b.up && b.faultLive k && b.overLimit k) = true := by simp [b, up_visen, up, live, above]
  exact done_of acts

theorem exec_phaseFaultDetect {m : LoopSense} {times : FaultTimes} :
    let d := s.sense (s.get Reg.PH_CFG_LOOP k) m
    d.faultLive k = true → d.phaseCause k times ≠ 0 →
      ∃ t, exec (.phaseFaultDetect k ⟨m, times⟩) s = .next t ∧ Settles ((d.put Reg.PH_STAT_CAUSE k (d.phaseCause k times)).raise k) t := by
  intro d live cause
  have acts : (d.up && d.faultLive k && d.phaseCause k times != 0) = true := by simp [d, up_sense, up, live, cause]
  exact ended_of (s := d) (f := fun s => (s.put Reg.PH_STAT_CAUSE k (d.phaseCause k times)).raise k) acts

/-- A readmission that waits goes on as the loop's state then asks. -/
theorem exec_phaseReadmit (waits : s.is Hid.PH_WAIT k = true) : exec (.phaseReadmit k) s = .next (s.phaseReadmit k) := by
  have acts : (s.up && s.is Hid.PH_WAIT k) = true := by simp [up, waits]
  exact done_of acts

theorem exec_readmitCheckEnd {v : Nat} :
    let b := s.put Hid.PH_VISEN k v
    b.is Hid.PH_CHECK k = true →
      let c := b.passTime (b.get Hid.PH_CHK_T k + b.periods (s.get Reg.PH_CFG_LOOP k) 1 - b.usec)
      c.is Hid.PH_CHECK k = true → ∃ t, exec (.readmitCheckEnd k v) s = .next t ∧
        Settles (if ampsApart (c.amps k) 0 ≤ 2 then c.phaseJoin k
          else (((c.put Hid.PH_CHECK k 0).put Hid.PH_FBY k 1).put Reg.PH_STAT_CAUSE k 4).raise k) t := by
  intro b checking c still
  have loop : b.get Reg.PH_CFG_LOOP k = s.get Reg.PH_CFG_LOOP k := State.get_put_apart _ _ _ _ _ _ (by decide)
  have acts : (b.up && b.is Hid.PH_CHECK k) = true := by simp [b, up_visen, up, checking]
  have after := ended_after (s := b) (wait := fun s => s.passTime (s.get Hid.PH_CHK_T k + s.periods (s.get Reg.PH_CFG_LOOP k) 1 - s.usec))
    (still := fun s => s.is Hid.PH_CHECK k) (f := fun s => if ampsApart (s.amps k) 0 ≤ 2 then s.phaseJoin k
      else (((s.put Hid.PH_CHECK k 0).put Hid.PH_FBY k 1).put Reg.PH_STAT_CAUSE k 4).raise k) acts
  simp only [loop] at after
  exact after still

omit up

theorem phaseReadmit_checks (fenced : s.is Reg.PH_STAT_FENCED k = true) (assigned : s.is Reg.PH_CFG_ASSIGN k = true)
    (runs : s.lp (s.get Reg.PH_CFG_LOOP k) = 3) (calm : s.inEvent (s.get Reg.PH_CFG_LOOP k) = false) :
    s.phaseReadmit k = ((s.put Hid.PH_CHECK k 1).put Hid.PH_WAIT k 0).put Hid.PH_CHK_T k s.usec := by
  simp [State.phaseReadmit, State.switching, fenced, assigned, runs, calm, lpSoft, lpRun]

theorem phaseReadmit_joins (fenced : s.is Reg.PH_STAT_FENCED k = true) (still : s.switching (s.get Reg.PH_CFG_LOOP k) = false) :
    s.phaseReadmit k = s.phaseJoin k := by
  simp [State.phaseReadmit, fenced, still]

end

end Sys2Proof.Machine

open Sys2Proof Sys2Proof.Machine

/-- Settles O14: the rule of each command, with what a stop, an input switch, power good and a readmission leave in the fields named. -/
theorem loopsAndPhases : Obligations.LoopsAndPhases := by
  refine ⟨fun s n w v0 m up => ?_, fun s k m times v up => ?_⟩
  · refine ⟨fun checking => ⟨exec_highSideShort up checking, exec_prestartCheckPass up checking⟩, exec_softStartEnd up, exec_loopStopComplete up,
      exec_rushStart up, exec_brakeStart up, fun rushing back => ?_, fun rushing low => ?_, fun braking back => ?_, fun braking high => ?_,
      exec_pgAssert up, exec_pgDeassert up, fun following => ⟨exec_syncLoss up following, exec_syncLock up following⟩, exec_hssClear⟩
    · rw [exec_rushEnd rushing, back, State.ifDo_false, State.rushEnd, rushing, State.ifDo_true]
    · rw [exec_rushEnd rushing, low, State.ifDo_true]
      exact ⟨_, rfl, rfl, rushEnd_over _ n⟩
    · rw [exec_brakeEnd braking, back, State.ifDo_false, State.brakeEnd, braking, State.ifDo_true]
    · rw [exec_brakeEnd braking, high, State.ifDo_true]
      exact ⟨_, rfl, rfl, brakeEnd_over _ n⟩
  · refine ⟨exec_phaseCurrentLimit up, exec_phaseFaultDetect up, fun waits fenced assigned => ⟨fun runs calm => ?_, fun still => ?_⟩,
      fun checking still => ⟨fun small => ?_, fun large => ?_⟩⟩
    · rw [exec_phaseReadmit up waits, phaseReadmit_checks fenced assigned runs calm]
    · rw [exec_phaseReadmit up waits, phaseReadmit_joins fenced still]
      exact ⟨_, rfl, rfl, phaseJoin_joined s k⟩
    · obtain ⟨t, runs, follows⟩ := exec_readmitCheckEnd up checking still
      rw [if_pos small] at follows
      exact ⟨_, t, runs, follows, rfl, phaseJoin_joined _ k⟩
    · have ends := exec_readmitCheckEnd up checking still
      rwa [if_neg (not_le.2 large)] at ends
end

section
/-! PROOFS. The Scales and the criers: the registers at their addresses, what a change of a crier's output leaves, and the commands of both. -/

namespace Sys2Proof.Machine
open Sys2Proof

/- The registers at their addresses. -/

section
variable (s : State) (w : Writer)

/-- The addresses of the Scales, the criers and the array are the main domain's. -/
theorem inDomain_scales {a : Nat} (low : 0x2000 ≤ a) (high : a < 0x3000) : inDomain a = false := by
  simp only [inDomain, Bool.or_eq_false_iff, Bool.and_eq_false_iff, decide_eq_false_iff_not, beq_eq_false_iff_ne]
  omega

theorem store_channels {a : Nat} (v : Nat) (low : 0x2000 ≤ a) (high : a < 0x2C00) : s.store w a v = s.storeChan a v := by
  rw [State.store, inDomain_scales low (by omega), if_neg Bool.false_ne_true, if_neg (by omega), if_neg (by omega), if_neg (by omega),
    if_neg (by omega), if_pos high]

theorem store_criers {a : Nat} (v : Nat) (low : 0x2C00 ≤ a) (high : a < 0x3000) : s.store w a v = s.storeCrier a v := by
  rw [State.store, inDomain_scales (by omega) high, if_neg Bool.false_ne_true, if_neg (by omega), if_neg (by omega), if_neg (by omega),
    if_neg (by omega), if_neg (by omega), if_pos high]

theorem store_chanCfg (n : ChanN) (v : Nat) : s.store w (0x2000 + 16 * n) v = s.chanCfg n v := by
  have number : (0x2000 + 16 * n.val - 0x2000) / 16 = n := by omega
  have place : (0x2000 + 16 * n.val) % 16 = 0 := by omega
  rw [store_channels s w v (by omega) (by omega), State.storeChan, number, place]
  rfl

theorem store_chanThr (n : ChanN) (uv : Bool) (v : Nat) : s.store w (0x2004 + 16 * n + (if uv then 4 else 0)) v = s.chanThr n uv v := by
  have number : (0x2004 + 16 * n.val + (if uv then 4 else 0) - 0x2000) / 16 = n := by split <;> omega
  have place : (0x2004 + 16 * n.val + (if uv then 4 else 0)) % 16 = if uv then 8 else 4 := by split <;> omega
  rw [store_channels s w v (by omega) (by split <;> omega), State.storeChan, number, place]
  cases uv <;> rfl

theorem store_crierWrite (c : CrierN) (thr : Bool) (v : Nat) :
    s.store w (0x2C00 + 16 * c + (if thr then 4 else 0)) v = s.crierWrite c thr v := by
  have number : (0x2C00 + 16 * c.val + (if thr then 4 else 0) - 0x2C00) / 16 = c := by split <;> omega
  have place : (0x2C00 + 16 * c.val + (if thr then 4 else 0)) % 16 = if thr then 4 else 0 := by split <;> omega
  have short : 0x2C00 + 16 * c.val + (if thr then 4 else 0) < 0x2D00 := by split <;> omega
  rw [store_criers s w v (by omega) (by omega), State.storeCrier, number, place]
  cases thr with
  | false => exact if_pos (by simpa using short)
  | true => exact (if_neg (by simp)).trans (if_pos (by simpa using short))

end

/- The outputs of a crier. -/

/-- The fields that a change of a crier's output writes before the Keeper takes it. -/
def outFlds : List Fld := [Reg.CR_STAT_OUT_HI, Reg.CR_STAT_OUT_LO, Hid.CR_CHG]

/-- The fields of the outputs that the Keeper holds. -/
def heldFlds : List Fld := [Hid.CR_HHI, Hid.CR_HLO]

section
variable (s : State) (c : CrierN) (hi : Bool)

theorem sameApart_crierMove (v : Bool) : SameApart outFlds s (s.crierMove c hi v) := by
  cases hi with
  | false => exact (SameApart.refl.mark (f := Reg.CR_STAT_OUT_LO)).put
  | true => exact (SameApart.refl.mark (f := Reg.CR_STAT_OUT_HI)).put

theorem crierMove_out (v : Bool) : (s.crierMove c hi v).crierOut c hi = v := by
  have noted (f : Fld) (hf : Fld.apart Hid.CR_CHG f = true) : ((s.mark f c v).put Hid.CR_CHG c 1).is f c = (s.mark f c v).is f c :=
    congrArg (· != 0) (State.get_put_apart _ _ _ _ _ _ hf)
  cases hi with
  | false => exact (noted Reg.CR_STAT_OUT_LO (by decide)).trans (State.is_mark s _ c v rfl c.isLt)
  | true => exact (noted Reg.CR_STAT_OUT_HI (by decide)).trans (State.is_mark s _ c v rfl c.isLt)

/-- The Keeper's taking of a release changes no field but the outputs that it holds. -/
theorem sameApart_crierTake_release : SameApart heldFlds s (s.crierTake c hi false) := by
  cases hi with
  | false => exact SameApart.refl.mark (f := Hid.CR_HLO)
  | true => exact SameApart.refl.mark (f := Hid.CR_HHI)

theorem crierOut_apart {t : State} (h : SameApart heldFlds s t) : t.crierOut c hi = s.crierOut c hi := by
  cases hi with
  | false => exact congrArg (· != 0) (h.get (g := Reg.CR_STAT_OUT_LO))
  | true => exact congrArg (· != 0) (h.get (g := Reg.CR_STAT_OUT_HI))

theorem crierSet_eq (v : Bool) : s.crierSet c hi v =
    if s.is Hid.CR_BLANK c then s.crierMove c hi v else (s.crierMove c hi v).crierTake c hi v := by
  unfold State.crierSet
  cases s.is Hid.CR_BLANK c <;> rfl

theorem crierSet_released : (s.crierSet c hi false).crierOut c hi = false := by
  have moved := crierMove_out s c hi false
  rw [crierSet_eq]
  split
  · exact moved
  · exact (crierOut_apart _ c hi (sameApart_crierTake_release _ c hi)).trans moved

/- The end of a blank. -/

theorem sameApart_crierSees (uv ns : Nat) : SameApart outFlds s (s.crierSees c hi uv ns) := by
  unfold State.crierSees State.ifDo
  split_ifs
  · exact sameApart_crierMove s c hi true
  · exact sameApart_crierMove s c hi false
  · exact SameApart.refl

/-- Whether a crier works is not a matter of its outputs. -/
theorem crierOn_crierSees (uv ns : Nat) : (s.crierSees c hi uv ns).crierOn c = s.crierOn c := by
  have same {g : Fld} {m : Nat} (hg : ∀ f ∈ outFlds, Fld.apart f g = true) : (s.crierSees c hi uv ns).get g m = s.get g m :=
    (sameApart_crierSees s c hi uv ns).get hg
  simp (disch := decide) only [State.crierOn, State.voltMode, State.standby, State.cur, State.is, same]

/-- A crier that does not work follows no input. -/
theorem crierSees_off (off : s.crierOn c = false) (uv ns : Nat) : s.crierSees c hi uv ns = s := by
  simp [State.crierSees, State.crierUp, State.crierDown, State.ifDo, off]

theorem blankEnds_on (on : s.crierOn c = true) : s.blankEnds c = ((s.put Hid.CR_BLANK c 0).blankSide c true).blankSide c false := by
  rw [State.blankEnds, on, State.ifDo_true]

theorem blankEnds_off (off : s.crierOn c = false) : s.blankEnds c = s.put Hid.CR_BLANK c 0 := by
  rw [State.blankEnds, off, State.ifDo_false]

end

/- The commands. -/

section
variable {s : State} {w : Writer} {v : Word}

theorem exec_scanEnd {sample : ScanSample} (up : s.up = true) (clock : s.fclk = true) (scans : s.standby = false ∨ s.is Hid.BURST 0 = true) :
    ∃ t, exec (.scanEnd sample) s = .next t ∧ Settles (s.scanEnd sample) t := by
  have acts : (s.up && s.fclk && (!s.standby || s.is Hid.BURST 0)) = true := by simpa [up, clock] using scans
  exact ended_of (s := s) (f := fun s => s.scanEnd sample) acts

theorem exec_chnCfgWrite {n : ChanN} (hp : Permitted s w (0x2000 + 16 * n) v.toNat) :
    ∃ t, exec (.chnCfgWrite w n v) s = .next t ∧ Settles ((s.arrive w).chanCfg n v.toNat) t :=
  regWrite_word (by omega) (by omega) hp (store_chanCfg _ w n _)

theorem exec_chnThresholdWrite {n : ChanN} {uv : Bool} (hp : Permitted s w (0x2004 + 16 * n + (if uv then 4 else 0)) v.toNat) :
    ∃ t, exec (.chnThresholdWrite w n uv v) s = .next t ∧ Settles ((s.arrive w).chanThr n uv v.toNat) t :=
  regWrite_word (by split <;> omega) (by split <;> omega) hp (store_chanThr _ w n uv _)

theorem exec_crierCfgWrite {c : CrierN} {thr : Bool} (hp : Permitted s w (0x2C00 + 16 * c + (if thr then 4 else 0)) v.toNat) :
    ∃ t, exec (.crierCfgWrite w c thr v) s = .next t ∧ Settles ((s.arrive w).crierWrite c thr v.toNat) t :=
  regWrite_word (by split <;> omega) (by split <;> omega) hp (store_crierWrite _ w c thr _)

variable {c : CrierN} {uv ns : Nat} (alive : s.vao = true)
include alive

section
variable {hi : Bool} (on : s.crierOn c = true)
include on

theorem exec_crierTrip (side : s.crierSide c hi = true) (clear : s.crierOut c hi = false) (beyond : s.crierTrips c hi uv ns = true) :
    ∃ t, exec (.crierTrip c ⟨hi, uv, ns⟩) s = .next t ∧ Settles (s.crierSet c hi true) t := by
  have acts : (s.vao && s.crierUp c hi uv ns) = true := by simp [State.crierUp, alive, on, side, clear, beyond]
  exact ended_of (s := s) (f := fun s => s.crierSet c hi true) acts

theorem exec_crierRelease (tripped : s.crierOut c hi = true) (inside : s.crierFrees c hi uv ns = true) :
    ∃ t, exec (.crierRelease c ⟨hi, uv, ns⟩) s = .next t ∧ Settles (s.crierSet c hi false) t := by
  have acts : (s.vao && s.crierDown c hi uv ns) = true := by simp [State.crierDown, alive, on, tripped, inside]
  exact ended_of (s := s) (f := fun s => s.crierSet c hi false) acts

end

theorem exec_crierBlankEnd (blanked : s.is Hid.CR_BLANK c = true) :
    let b := s.passTime (s.get Hid.CR_BLANK_T c + 5 - s.usec)
    b.is Hid.CR_BLANK c = true → ∃ t, exec (.crierBlankEnd c uv ns) s = .next t ∧
      Settles (((b.crierSees c true uv ns).crierSees c false uv ns).blankEnds c) t := by
  intro b still
  have acts : (s.vao && s.is Hid.CR_BLANK c) = true := by simp [alive, blanked]
  exact ended_after (s := s) (wait := fun s => s.passTime (s.get Hid.CR_BLANK_T c + 5 - s.usec)) (still := fun s => s.is Hid.CR_BLANK c)
    (f := fun s => ((s.crierSees c true uv ns).crierSees c false uv ns).blankEnds c) acts still

end

end Sys2Proof.Machine

open Sys2Proof Sys2Proof.Machine

/-- Settles O15: the rule of each command, with what a release leaves of its output, and a blank's end where the crier works and where it does not. -/
theorem scalesAndCriers : Obligations.ScalesAndCriers := by
  intro s w n c v hi uv ns
  refine ⟨fun _ => exec_scanEnd, exec_chnCfgWrite, exec_chnThresholdWrite (uv := false), fun hp => exec_chnThresholdWrite (uv := true) ?_,
    exec_crierCfgWrite (thr := false), fun hp => exec_crierCfgWrite (thr := true) ?_,
    fun alive on => ⟨fun side clear beyond => ?_, fun tripped inside => ?_⟩, fun alive blanked => ?_⟩
  · have place : 0x2008 + 16 * n.val = 0x2004 + 16 * n.val + 4 := by omega
    exact place ▸ hp
  · have place : 0x2C04 + 16 * c.val = 0x2C00 + 16 * c.val + 4 := by omega
    exact place ▸ hp
  · rw [← crierSet_eq]
    exact exec_crierTrip alive on side clear beyond
  · rw [← crierSet_eq]
    obtain ⟨t, runs, follows⟩ := exec_crierRelease alive on tripped inside
    exact ⟨_, t, runs, follows, rfl, crierSet_released s c hi⟩
  · intro b still
    obtain ⟨t, runs, follows⟩ := exec_crierBlankEnd (uv := uv) (ns := ns) alive blanked still
    refine ⟨fun on => ⟨t, runs, ?_⟩, fun off => ?_⟩
    · rwa [blankEnds_on _ c (by rw [crierOn_crierSees, crierOn_crierSees, on])] at follows
    · rw [crierSees_off b c true off, crierSees_off b c false off, blankEnds_off b c off] at follows
      exact ⟨_, t, runs, follows, rfl, is_of_get (State.get_put_self b Hid.CR_BLANK c 0 c.isLt)⟩
end

section
/-! PROOFS. The Keeper: its requests and its latch, the events and times of its sequences, and the rail actions that it refuses. -/

namespace Sys2Proof.Machine
open Sys2Proof

/- The Keeper's sequences. -/

section
variable {s : State}

/-- The latch of the Keeper stands in the backup domain: a write to it is on its way there. -/
theorem store_kprLatch (s : State) (w : Writer) (v : Nat) : s.store w 0x80C v = { s with bkq := s.bkq ++ [(0x80C, BitVec.ofNat 32 v)] } := rfl

theorem exec_toffMinExpiry (runs : s.runs = true) (off : s.kp = 0) (pends : s.is Reg.KPR_STAT_PEND_ON 0 = true) (free : s.is Hid.EXT 0 = false) :
    ∃ t, exec .toffMinExpiry s = .next t ∧ Settles s.enterRising t := by
  have acts : (s.runs && s.kp == kpOff && s.is Reg.KPR_STAT_PEND_ON 0 && !s.is Hid.EXT 0) = true := by simp [runs, off, pends, free, kpOff]
  exact ended_of acts

theorem exec_shutdownTimeout (alive : s.vao = true) (falls : s.is Hid.SD_RUN 0 = true) (cold : s.is Hid.WARM 0 = false) :
    ∃ t, exec .shutdownTimeout s = .next t ∧ Settles ((s.release false).raise 77) t := by
  have acts : (s.vao && s.is Hid.SD_RUN 0 && !s.is Hid.WARM 0) = true := by simp [alive, falls, cold]
  exact ended_of acts

variable (up : s.up = true)
include up

/-- A rail that names a channel waits while the Scales are blind; another one does not (R151). -/
theorem exec_upTimeout {r : RailN} (starts : s.rail r = 1) (seen : s.is Reg.SCN_STAT_BLIND 0 = false ∨ s.hasChan r = false) :
    ∃ t, exec (.upTimeout r) s = .next t ∧ Settles (((s.setLatch 1 r 255).raise 76).shutdown) t := by
  have judged : (!(s.is Reg.SCN_STAT_BLIND 0 && s.hasChan r)) = true := by rcases seen with h | h <;> simp [h]
  have acts : (s.up && s.rail r == rsStart && !(s.is Reg.SCN_STAT_BLIND 0 && s.hasChan r)) = true := by simp [up, starts, judged, rsStart]
  exact ended_of (s := s) (f := fun s => ((s.setLatch 1 r 255).raise 76).shutdown) acts

/-- The record of a blind time tells the time blind so far. -/
theorem exec_blindTimeout (blind : s.is Reg.SCN_STAT_BLIND 0 = true) (timed : s.is Reg.KPR_CFG_BLIND_TMO 0 = true)
    (first : s.is Hid.BLIND_SD 0 = false) :
    let b := (s.put Hid.BLIND_SD 0 1).setLatch 3 255 255
    ∃ t, exec .blindTimeout s = .next t ∧ Settles ((b.record tyBlind 255 255 (leBytes 4 b.blindFor)).shutdown) t := by
  have acts : (s.up && s.is Reg.SCN_STAT_BLIND 0 && s.is Reg.KPR_CFG_BLIND_TMO 0 && !s.is Hid.BLIND_SD 0) = true := by
    simp [up, blind, timed, first]
  exact ended_of acts

/- A level at an SQ pin. -/

/-- What a level at an SQ pin does: it reads at the pin, and the Keeper takes it where the pin is in power-good mode and it is a new one. -/
theorem exec_sqPgFilter (p : SqN) (level : Bool) :
    ∃ t, exec (.sqPgFilter p level) s = .next t ∧
      Settles ((s.mark Reg.SQ_CFG_IN p level).ifDo (s.sqMode p == 3 && s.is Hid.SQ_PG p != level)
        fun s => (s.mark Hid.SQ_PG p level).pgChange p level) t := by
  have marked : SameApart [Reg.SQ_CFG_IN] s (s.mark Reg.SQ_CFG_IN p level) := SameApart.refl.mark
  have mode : (s.mark Reg.SQ_CFG_IN p level).sqMode p = s.sqMode p := by rw [State.sqMode, State.sqMode, marked.get]
  have held : (s.mark Reg.SQ_CFG_IN p level).is Hid.SQ_PG p = s.is Hid.SQ_PG p := congrArg (· != 0) marked.get
  rw [← mode, ← held]
  exact ended_of up

theorem exec_sqPgFilter_other {p : SqN} {level : Bool} (other : s.sqMode p ≠ 3) :
    ∃ t, exec (.sqPgFilter p level) s = .next t ∧ Settles (s.mark Reg.SQ_CFG_IN p level) t := by
  have ignored : (s.sqMode p == 3 && s.is Hid.SQ_PG p != level) = false := by simp [other]
  have brought := exec_sqPgFilter up p level
  rwa [ignored, State.ifDo_false] at brought

theorem exec_sqPgFilter_good {p : SqN} {level : Bool} (good : s.sqMode p = 3) (new : s.is Hid.SQ_PG p ≠ level) :
    ∃ t, exec (.sqPgFilter p level) s = .next t ∧
      Settles (((s.mark Reg.SQ_CFG_IN p level).mark Hid.SQ_PG p level).pgChange p level) t := by
  have taken : (s.sqMode p == 3 && s.is Hid.SQ_PG p != level) = true := by simp [good, new]
  have brought := exec_sqPgFilter up p level
  rwa [taken, State.ifDo_true] at brought

/-- A rail whose good test names nothing becomes GOOD by its delay alone. -/
theorem exec_sqRailGoodDelay {p : SqN} {q : Nat} (named : s.railOf 2 p = some q) (starts : s.rail q = 1) (chan : s.hasChan q = false)
    (pg : s.hasPg q = false) : ∃ t, exec (.sqRailGoodDelay p) s = .next t ∧ Settles (s.becomeGood q) t := by
  have acts : (s.rail q == rsStart && !s.hasChan q && !s.hasPg q) = true := by simp [starts, chan, pg, rsStart]
  have good : execSqRailGoodDelay p s = ended (s.becomeGood q) := by
    simp only [execSqRailGoodDelay, up, State.ifDo_true, named, acts]
  exact ⟨_, good, settles_finish _⟩

end

/- Side effects that a completer refuses. -/

/-- The fields that a retirement writes, with REFUSED. -/
def retireFlds : List Fld := [Hid.S_REF, Hid.S_PC, Hid.S_SHBAD]

section
variable {s : State} {st : Stl} {c : Nat} {f : State → Answer}

theorem get_retire (s : State) (st : Stl) {g : Fld} {m : Nat} (hg : ∀ f ∈ retireFlds, Fld.apart f g = true) :
    ((s.put Hid.S_REF st 0).retire st).get g m = s.get g m := by
  have kept : SameApart retireFlds s ((s.put Hid.S_REF st 0).retire st) := SameApart.refl.put.put.put
  exact kept.get hg

/-- Its retirement leaves an issue as new to its completer as it was, under the same number. -/
theorem reissue_retire (s : State) (st : Stl) (c : Nat) : ((s.put Hid.S_REF st 0).retire st).reissue st c = s.reissue st c := by
  simp (disch := decide) only [State.reissue, State.nextIsn, State.is, get_retire]

theorem nextIsn_retire (s : State) (st : Stl) : ((s.put Hid.S_REF st 0).retire st).nextIsn st = s.nextIsn st := by
  rw [State.nextIsn, get_retire s st (by decide), State.nextIsn]

/-- A new side effect that its completer refuses, in a state `u` to which the refusal has led, retires with REFUSED at 1, and its outcome is
recorded. -/
theorem sideEffect_refused {u : State} {src : Nat} (new : New s st c) (refused : f (s.issue st c) = u.refuse src) :
    s.sideEffect st c f (fun _ _ s => s) = u.refusedBy st c src := by
  have fresh : ((s.put Hid.S_REF st 0).retire st).reissue st c = false := (reissue_retire s st c).trans new
  have issued : (((s.put Hid.S_REF st 0).retire st).newRecord st c).put Hid.S_ISN st (((s.put Hid.S_REF st 0).retire st).nextIsn st) =
      s.issue st c := by rw [nextIsn_retire, State.issue]
  simp only [State.sideEffect, State.complete1, fresh, issued, refused]
  rfl

/-- A rail action of a class that R172 lists is a side effect at the Keeper. -/
theorem railAction_listed {cls : BitVec 4} (low : 1 ≤ cls.toNat) (high : cls.toNat ≤ 5) (inside : s.pc st < 0x1FFF) :
    s.railAction st cls f = s.sideEffect st 0 f (fun _ _ s => s) := by
  have listed : classOk cls.toNat = true := by simp [classOk, low, high]
  have next : s.atLast st = false := by rw [State.atLast, beq_eq_false_iff_ne]; omega
  simp [State.railAction, State.unlessFault, faultOf, firstWhy, listed, next]

end

/- Rail actions that the Keeper refuses. -/

section
variable {s : State} {u : Option (Nat × Nat)} {v : Option Nat} {k n : Nat}

theorem keeperDoes_refused {why : Nat} {r : Option Nat} {f : State → State} (h : why ≠ 0) :
    s.keeperDoes why r f = ((s.put Reg.KPR_STAT_REF_WHY 0 why).put Reg.KPR_STAT_REF_RAIL 0 (r.getD 255)).refuse 79 := by
  simp [State.keeperDoes, h]

theorem onOutput_some {why : State → Nat → Nat → Nat} {f : Nat → Nat → State → State} (h : u = some (k, n)) :
    s.onOutput u why f = s.keeperDoes (why s k n) (s.railOf k n) (f k n) := by rw [h, State.onOutput]

theorem onOutput_none {why : State → Nat → Nat → Nat} {f : Nat → Nat → State → State} (h : u = none) :
    s.onOutput u why f = s.keeperDoes 1 none id := by rw [h, State.onOutput]

theorem onUnit_some {why : State → Nat → Nat} {f : Nat → State → State} (h : v = some n) :
    s.onUnit v why f = s.keeperDoes (why s n) (s.unitRail n) (f n) := by rw [h, State.onUnit]

theorem onUnit_none {why : State → Nat → Nat} {f : Nat → State → State} (h : v = none) :
    s.onUnit v why f = s.keeperDoes 1 none id := by rw [h, State.onUnit]

/-- RAMP names a loop by class 1 and its number. -/
theorem rampLoop_some {cls : BitVec 4} {unit : BitVec 8} (loop : cls = 1) (known : unit.toNat < 8) :
    (if cls == 1 then railUnit cls unit else none) = some (1, unit.toNat) := by simp [railUnit, loop, known]

theorem rampLoop_none {cls : BitVec 4} {unit : BitVec 8} (unknown : cls ≠ 1 ∨ 8 ≤ unit.toNat) :
    (if cls == 1 then railUnit cls unit else none) = none := by
  by_cases loop : cls = 1
  · have high : ¬ unit.toNat < 8 := not_lt.2 (unknown.resolve_left (not_not.2 loop))
    simp [railUnit, loop, high]
  · exact if_neg (by simpa using loop)

end

section
variable {s : State} {st : Stl} (ready : Ready s st) (new : New s st 0) {cls : BitVec 4} (low : 1 ≤ cls.toNat) (high : cls.toNat ≤ 5)
include ready new low high

/-- A rail instruction of a listed class, new to the Keeper, which answers it with a reason to refuse. -/
theorem exec_railAction_refused {i : Instr} {op : State → State} {f : State → Answer} {why : Nat} {r : Option Nat} {e : State → State}
    (runs : exec i s = tar st s op) (acts : op s = s.railAction st cls f)
    (answers : f (s.issue st 0) = (s.issue st 0).keeperDoes why r e) (reason : why ≠ 0) :
    ∃ u t, exec i s = .next t ∧ Settles u t ∧
      u = (((s.issue st 0).put Reg.KPR_STAT_REF_WHY 0 why).put Reg.KPR_STAT_REF_RAIL 0 (r.getD 255)).refusedBy st 0 79 := by
  obtain ⟨executes, unarmed, inside⟩ := ready
  have effect : op s = (((s.issue st 0).put Reg.KPR_STAT_REF_WHY 0 why).put Reg.KPR_STAT_REF_RAIL 0 (r.getD 255)).refusedBy st 0 79 := by
    rw [acts, railAction_listed low high inside]
    exact sideEffect_refused new (answers.trans (keeperDoes_refused reason))
  refine ⟨op s, (op s).finish, ?_, settles_finish _, effect⟩
  rw [runs, tar_run s st op executes unarmed]

end

end Sys2Proof.Machine

open Sys2Proof Sys2Proof.Machine

/-- Settles O16: a permitted write reaches the Keeper's control or is on its way to the latch, and each event acts as the state meets its condition. -/
theorem keeperSequences : Obligations.KeeperSequences := by
  intro s w r p level
  exact ⟨fun hp => regWrite_permitted 0x800#16 rfl hp rfl, fun hp => regWrite_permitted 0x800#16 rfl hp rfl,
    exec_toffMinExpiry, fun alive => ended_of alive, exec_shutdownTimeout, fun up => exec_upTimeout up, exec_blindTimeout,
    fun up => exec_sqPgFilter_other up, fun up => exec_sqPgFilter_good up, fun _ up => exec_sqRailGoodDelay up,
    fun hp => regWrite_permitted 0x80C#16 rfl hp (store_kprLatch _ w 2), fun hp => regWrite_permitted 0x80C#16 rfl hp (store_kprLatch _ w 4)⟩

/-- Settles O32: what the class and unit name decides the Keeper's answer, and an answer with a reason is a side effect refused. -/
theorem railActionsRefused : Obligations.RailActionsRefused := by
  intro s st ready new cls unit rp k n low high b p refused
  refine ⟨fun loop known why => ?_, fun unknown => ?_, fun named => ⟨fun why => ?_, fun why => ?_⟩, fun unnamed => ⟨?_, ?_⟩,
    fun named => ⟨fun why => ?_, fun why => ?_⟩, fun unnamed => ⟨?_, ?_⟩⟩
  · exact exec_railAction_refused ready new low high rfl rfl (onOutput_some (rampLoop_some loop known)) why
  · exact exec_railAction_refused ready new low high rfl rfl (onOutput_none (rampLoop_none unknown)) one_ne_zero
  · exact exec_railAction_refused ready new low high rfl rfl (onOutput_some named) why
  · exact exec_railAction_refused ready new low high rfl rfl (onOutput_some named) why
  · exact exec_railAction_refused ready new low high rfl rfl (onOutput_none unnamed) one_ne_zero
  · exact exec_railAction_refused ready new low high rfl rfl (onOutput_none unnamed) one_ne_zero
  · exact exec_railAction_refused ready new low high rfl rfl (onUnit_some named) why
  · exact exec_railAction_refused ready new low high rfl rfl (onUnit_some named) why
  · exact exec_railAction_refused ready new low high rfl rfl (onUnit_none unnamed) one_ne_zero
  · exact exec_railAction_refused ready new low high rfl rfl (onUnit_none unnamed) one_ne_zero
end

section
/-! PROOFS. The canonical form of the stores: every operation of the part keeps it, so a step of a command or of time does. -/

namespace Sys2Proof.Machine
open Sys2Proof

/-- A property that every operation keeps, and that does not look at the commands that wait, is kept by a step. -/
theorem step_keeps {P : State → Prop} (hP : Open P) {s : State} (hs : P s) (waiting : ∀ l, P { s with pending := l }) : Keeps P (step s) := by
  unfold step
  split
  next => exact keeps_ended hP (closed_idle P hP s hs)
  next c rest _ => exact exec_keeps hP (waiting rest) c

/-- The canonical form is such a property. -/
theorem open_inv : Open State.Inv where
  put := fun s f n v ⟨fld, imem, sdata, nvm⟩ =>
    ⟨State.wf_put s f n v fld, (State.put_imem s f n v).symm ▸ imem, (State.put_sdata s f n v).symm ▸ sdata, (State.put_nvm s f n v).symm ▸ nvm⟩
  keep := fun _ p ⟨fld, mems⟩ => ⟨Pages.wf_keep _ p fld, mems⟩
  top := fun _ _ _ _ _ _ _ _ _ _ _ _ _ _ _ _ _ imem' sdata' nvm' ⟨fld, imem, sdata, nvm⟩ => ⟨fld, imem' imem, sdata' sdata, nvm' nvm⟩

end Sys2Proof.Machine

open Sys2Proof Sys2Proof.Machine

/-- Settles O3: the canonical form is kept by every operation, and the commands that wait have no part in it. -/
theorem everyStepKeepsTheCanonicalForm : Obligations.EveryStepKeepsTheCanonicalForm := by
  intro s t inv ran
  obtain ⟨u, reached, kept⟩ := step_keeps open_inv inv fun _ => inv
  have same : u = t := Host.Outcome.next.inj (reached.symm.trans ran)
  exact same ▸ kept
end

section
/-! PROOFS. The instruction words: each format's word gives its fields back, so an instruction that is well formed decodes from its word. -/

namespace Sys2Proof

/- The words of the formats. -/

section
variable {op : Nat} (hop : op < 64)
include hop

theorem toNat_wordA (rd ra rb : RegN) : (wordA op rd ra rb).toNat = op * 2 ^ 26 + rd.val * 2 ^ 22 + ra.val * 2 ^ 18 + rb.val * 2 ^ 14 := by
  rw [wordA, BitVec.toNat_ofNat, Nat.mod_eq_of_lt]
  omega

theorem toNat_wordB (rd ra : RegN) (imm : BitVec 14) : (wordB op rd ra imm).toNat = op * 2 ^ 26 + rd.val * 2 ^ 22 + ra.val * 2 ^ 18 + imm.toNat := by
  rw [wordB, BitVec.toNat_ofNat, Nat.mod_eq_of_lt]
  omega

theorem toNat_wordC (rd : RegN) (imm : BitVec 20) : (wordC op rd imm).toNat = op * 2 ^ 26 + rd.val * 2 ^ 22 + imm.toNat := by
  rw [wordC, BitVec.toNat_ofNat, Nat.mod_eq_of_lt]
  omega

theorem toNat_wordD (cond : BitVec 4) (off : BitVec 20) : (wordD op cond off).toNat = op * 2 ^ 26 + cond.toNat * 2 ^ 22 + off.toNat := by
  rw [wordD, BitVec.toNat_ofNat, Nat.mod_eq_of_lt]
  omega

theorem toNat_wordE (cls : BitVec 4) (unit : BitVec 8) (rp : RegN) :
    (wordE op cls unit rp).toNat = op * 2 ^ 26 + cls.toNat * 2 ^ 22 + unit.toNat * 2 ^ 14 + rp.val * 2 ^ 10 := by
  rw [wordE, BitVec.toNat_ofNat, Nat.mod_eq_of_lt]
  omega

theorem toNat_wordW (inv : Bool) (sel : BitVec 5) (reg : RegN) (imm : BitVec 16) :
    (wordW op inv sel reg imm).toNat = op * 2 ^ 26 + sel.toNat * 2 ^ 21 + inv.toNat * 2 ^ 20 + reg.val * 2 ^ 16 + imm.toNat := by
  have bit : inv.toNat < 2 := Bool.toNat_lt inv
  rw [wordW, BitVec.toNat_ofNat, Nat.mod_eq_of_lt]
  omega


/- The fields of a word. -/

theorem opcode_wordA (rd ra rb : RegN) : (wordA op rd ra rb).toNat / 2 ^ 26 = op := by rw [toNat_wordA hop]; omega

theorem opcode_wordB (rd ra : RegN) (imm : BitVec 14) : (wordB op rd ra imm).toNat / 2 ^ 26 = op := by rw [toNat_wordB hop]; omega

theorem opcode_wordC (rd : RegN) (imm : BitVec 20) : (wordC op rd imm).toNat / 2 ^ 26 = op := by rw [toNat_wordC hop]; omega

theorem opcode_wordD (cond : BitVec 4) (off : BitVec 20) : (wordD op cond off).toNat / 2 ^ 26 = op := by rw [toNat_wordD hop]; omega

theorem opcode_wordE (cls : BitVec 4) (unit : BitVec 8) (rp : RegN) : (wordE op cls unit rp).toNat / 2 ^ 26 = op := by rw [toNat_wordE hop]; omega

theorem opcode_wordW (inv : Bool) (sel : BitVec 5) (reg : RegN) (imm : BitVec 16) : (wordW op inv sel reg imm).toNat / 2 ^ 26 = op := by
  have bit : inv.toNat < 2 := Bool.toNat_lt inv
  rw [toNat_wordW hop]
  omega

omit hop in
theorem regAt_eq {n k : Nat} {r : RegN} (h : n / 2 ^ k % 16 = r.val) : regAt n k = r := Fin.ext h

omit hop in
theorem ofNat_eq {k n : Nat} {x : BitVec k} (h : n % 2 ^ k = x.toNat) : BitVec.ofNat k n = x := BitVec.eq_of_toNat_eq ((BitVec.toNat_ofNat n k).trans h)

theorem fmtA_wordA (rd ra rb : RegN) (f : RegN → RegN → RegN → Instr) : fmtA (wordA op rd ra rb).toNat f = some (f rd ra rb) := by
  have value := toNat_wordA hop rd ra rb
  have d : regAt (wordA op rd ra rb).toNat 22 = rd := regAt_eq (by omega)
  have a : regAt (wordA op rd ra rb).toNat 18 = ra := regAt_eq (by omega)
  have b : regAt (wordA op rd ra rb).toNat 14 = rb := regAt_eq (by omega)
  rw [fmtA, if_pos (by omega), d, a, b]

theorem fmtB_wordB (rd ra : RegN) (imm : BitVec 14) (f : RegN → RegN → BitVec 14 → Instr) : fmtB (wordB op rd ra imm).toNat f = some (f rd ra imm) := by
  have value := toNat_wordB hop rd ra imm
  have d : regAt (wordB op rd ra imm).toNat 22 = rd := regAt_eq (by omega)
  have a : regAt (wordB op rd ra imm).toNat 18 = ra := regAt_eq (by omega)
  have i : BitVec.ofNat 14 (wordB op rd ra imm).toNat = imm := ofNat_eq (by omega)
  rw [fmtB, if_pos (by omega), d, a, i]

theorem fmtC_wordC (rd : RegN) (imm : BitVec 20) (f : RegN → BitVec 20 → Instr) : fmtC (wordC op rd imm).toNat f = some (f rd imm) := by
  have value := toNat_wordC hop rd imm
  have d : regAt (wordC op rd imm).toNat 22 = rd := regAt_eq (by omega)
  have i : BitVec.ofNat 20 (wordC op rd imm).toNat = imm := ofNat_eq (by omega)
  rw [fmtC, if_pos (by omega), d, i]

theorem fmtD_wordD (cond : BitVec 4) (off : BitVec 20) (f : BitVec 4 → BitVec 20 → Instr) : fmtD (wordD op cond off).toNat f = some (f cond off) := by
  have value := toNat_wordD hop cond off
  have c : BitVec.ofNat 4 ((wordD op cond off).toNat / 2 ^ 22) = cond := ofNat_eq (by omega)
  have o : BitVec.ofNat 20 (wordD op cond off).toNat = off := ofNat_eq (by omega)
  rw [fmtD, if_pos (by omega), c, o]

theorem fmtE_wordE (cls : BitVec 4) (unit : BitVec 8) (rp : RegN) (f : BitVec 4 → BitVec 8 → RegN → Instr) (listed : classOk cls.toNat = true) :
    fmtE (wordE op cls unit rp).toNat f = some (f cls unit rp) := by
  have value := toNat_wordE hop cls unit rp
  have c : BitVec.ofNat 4 ((wordE op cls unit rp).toNat / 2 ^ 22) = cls := ofNat_eq (by omega)
  have u : BitVec.ofNat 8 ((wordE op cls unit rp).toNat / 2 ^ 14) = unit := ofNat_eq (by omega)
  have p : regAt (wordE op cls unit rp).toNat 10 = rp := regAt_eq (by omega)
  have number : (wordE op cls unit rp).toNat / 2 ^ 22 % 16 = cls.toNat := by omega
  rw [fmtE, if_pos ⟨by omega, number ▸ listed⟩, c, u, p]

theorem fmtE0_wordE (cls : BitVec 4) (unit : BitVec 8) (f : BitVec 4 → BitVec 8 → Instr) (listed : classOk cls.toNat = true) :
    fmtE0 (wordE op cls unit 0).toNat f = some (f cls unit) := by
  have value := toNat_wordE hop cls unit 0
  rw [fmtE0, if_pos (by simp at value; omega), fmtE_wordE hop cls unit 0 _ listed]

theorem fmtW_wordW (inv : Bool) (sel : BitVec 5) (reg : RegN) (imm : BitVec 16) (f : Bool → BitVec 5 → RegN → BitVec 16 → Instr)
    (listed : selOk sel.toNat = true) : fmtW (wordW op inv sel reg imm).toNat f = some (f inv sel reg imm) := by
  have value := toNat_wordW hop inv sel reg imm
  have bit : inv.toNat < 2 := Bool.toNat_lt inv
  have s : BitVec.ofNat 5 ((wordW op inv sel reg imm).toNat / 2 ^ 21) = sel := ofNat_eq (by omega)
  have r : regAt (wordW op inv sel reg imm).toNat 16 = reg := regAt_eq (by omega)
  have i : BitVec.ofNat 16 (wordW op inv sel reg imm).toNat = imm := ofNat_eq (by omega)
  have number : (wordW op inv sel reg imm).toNat / 2 ^ 21 % 32 = sel.toNat := by omega
  have inverted : (wordW op inv sel reg imm).toNat.testBit 20 = inv := by
    have low : (wordW op inv sel reg imm).toNat / 2 ^ 20 % 2 = inv.toNat := by omega
    rw [Nat.testBit_eq_decide_div_mod_eq, low]
    cases inv <;> rfl
  rw [fmtW, if_pos (number ▸ listed), inverted, s, r, i]

theorem fmt0_wordA (i : Instr) : fmt0 (wordA op 0 0 0).toNat i = some i := by
  have value := toNat_wordA hop 0 0 0
  rw [fmt0, if_pos (by simp at value; omega)]

/- Register fields that an instruction does not use, and the bits that a shift does not. -/

theorem unused_d_wordA (ra rb : RegN) (r : Option Instr) : unused (wordA op 0 ra rb).toNat 22 r = r := by
  have value := toNat_wordA hop 0 ra rb
  exact if_pos (by simp at value; omega)

theorem unused_a_wordA (rd rb : RegN) (r : Option Instr) : unused (wordA op rd 0 rb).toNat 18 r = r := by
  have value := toNat_wordA hop rd 0 rb
  exact if_pos (by simp at value; omega)

theorem unused_b_wordA (rd ra : RegN) (r : Option Instr) : unused (wordA op rd ra 0).toNat 14 r = r := by
  have value := toNat_wordA hop rd ra 0
  exact if_pos (by simp at value; omega)

theorem unused_d_wordB (ra : RegN) (imm : BitVec 14) (r : Option Instr) : unused (wordB op 0 ra imm).toNat 22 r = r := by
  have value := toNat_wordB hop 0 ra imm
  exact if_pos (by simp at value; omega)

theorem unused_a_wordB (rd : RegN) (imm : BitVec 14) (r : Option Instr) : unused (wordB op rd 0 imm).toNat 18 r = r := by
  have value := toNat_wordB hop rd 0 imm
  exact if_pos (by simp at value; omega)

theorem shiftImm_wordB (rd ra : RegN) (imm : BitVec 14) (r : Option Instr) (short : wfShift imm = true) : shiftImm (wordB op rd ra imm).toNat r = r := by
  have value := toNat_wordB hop rd ra imm
  have short : imm.toNat < 32 := of_decide_eq_true short
  exact if_pos (by omega)

end

/- Decode of encode. -/

/-- A well-formed instruction decodes from its word: its opcode picks its format, which gives the fields back. -/
theorem decode_encode (i : Instr) (wf : WellFormed i = true) (st : Stl) (w : Word) (spelled : encode i = some (st, w)) : decode st w = some i := by
  cases i
  case tAdd | tSub | tAnd | tOr | tXor | tShl | tShr | tAsr | tMul16 | tMeasb | tLogb | tCopyb =>
    cases spelled
    simp (disch := decide) only [decode, opcode_wordA, fmtA_wordA]
  case tCmp | tJr | tRdt =>
    cases spelled
    simp (disch := decide) only [decode, opcode_wordA, fmtA_wordA, unused_d_wordA, unused_a_wordA, unused_b_wordA]
  case tRet | tSeal | tYield | tHalt =>
    cases spelled
    simp (disch := decide) only [decode, opcode_wordA, fmt0_wordA]
  case tAddi | tAndi | tOri | tXori | tLd | tSt | tPin | tPout | tMeas | tJudge | tLog | tSend =>
    cases spelled
    simp (disch := decide) only [decode, opcode_wordB, fmtB_wordB]
  case tCmpi | tRaise | tRecv =>
    cases spelled
    simp (disch := decide) only [decode, opcode_wordB, fmtB_wordB, unused_d_wordB, unused_a_wordB]
  case tShli | tShri | tAsri =>
    cases spelled
    simp (disch := decide) only [decode, opcode_wordB, fmtB_wordB]
    exact shiftImm_wordB (by decide) _ _ _ _ wf
  case tLdi | tLui =>
    cases spelled
    simp (disch := decide) only [decode, opcode_wordC, fmtC_wordC]
  case tBr | tCall =>
    cases spelled
    simp (disch := decide) only [decode, opcode_wordD, fmtD_wordD]
  case tRamp =>
    cases spelled
    simp (disch := decide) only [decode, opcode_wordE]
    exact fmtE_wordE (by decide) _ _ _ _ wf
  case tEnab | tDisb | tFence | tAdmit =>
    cases spelled
    simp (disch := decide) only [decode, opcode_wordE]
    exact fmtE0_wordE (by decide) _ _ _ wf
  case tWait | tWaitt =>
    cases spelled
    simp (disch := decide) only [decode, opcode_wordW]
    exact fmtW_wordW (by decide) _ _ _ _ _ wf
  -- The other commands have no word.
  all_goals cases spelled

/- Words that are no instruction. -/

/-- The unassigned opcodes (R171). -/
theorem decode_unassigned (st : Stl) (w : Word) (h : w.toNat / 2 ^ 26 = 0 ∨ 0x30 < w.toNat / 2 ^ 26) : decode st w = none := by
  unfold decode
  dsimp only
  split
  case h_49 => rfl
  -- An opcode that R171 assigns.
  all_goals omega

end Sys2Proof

open Sys2Proof Sys2Proof.Machine

/-- Settles O36: each format's word gives its fields back. -/
theorem decodeOfEncode : Obligations.DecodeOfEncode := fun i st w wf spelled => decode_encode i wf st w spelled

/-- Settles O37: each word is the encoding of a well-formed instruction. -/
theorem exampleWordsDecode : Obligations.ExampleWordsDecode :=
  have spelled (i : Instr) (st : Stl) (w : Word) (wf : WellFormed i = true) (h : encode i = some (st, w)) : decode st w = some i :=
    decode_encode i wf st w h
  ⟨spelled _ _ _ rfl rfl, spelled _ _ _ rfl rfl, spelled _ _ _ rfl rfl, spelled _ _ _ rfl rfl, spelled _ _ _ rfl rfl, spelled _ _ _ rfl rfl,
    spelled _ _ _ rfl rfl, spelled _ _ _ rfl rfl, spelled _ _ _ rfl rfl, spelled _ _ _ rfl rfl, spelled _ _ _ rfl rfl, spelled _ _ _ rfl rfl,
    spelled _ _ _ rfl rfl, spelled _ _ _ rfl rfl, spelled _ _ _ rfl rfl⟩
end

section
/-! PROOFS. Program faults: the first case of an instruction's list that holds is the fault it takes, and an instruction that faults does nothing else. -/

namespace Sys2Proof.Machine
open Sys2Proof

/- Which fault an instruction takes. -/

theorem firstWhy_hit {b : Bool} {k : Nat} {l : List (Bool × Nat)} (h : b = true) : firstWhy ((b, k) :: l) = k := if_pos h

theorem firstWhy_miss {b : Bool} {k : Nat} {l : List (Bool × Nat)} (h : b = false) : firstWhy ((b, k) :: l) = firstWhy l :=
  if_neg (Bool.eq_false_iff.1 h)

section
variable {s : State} {st : Stl} {ill : Bool} {l : List (Bool × Nat)} {f : State → State} {code : Nat}

theorem unlessFault_faults (h : faultOf ill (s.atLast st) l = code) (faulty : code ≠ 0) : s.unlessFault st ill l f = s.progFault st code := by
  unfold State.unlessFault
  split
  next none => exact absurd (h.symm.trans none) faulty
  next => rw [h]

theorem unlessFault_illegal (h : ill = true) : s.unlessFault st ill l f = s.progFault st 1 :=
  unlessFault_faults (firstWhy_hit h) one_ne_zero

theorem unlessFault_last (h : s.pc st = 0x1FFF) : s.unlessFault st false l f = s.progFault st 2 :=
  unlessFault_faults (firstWhy_hit (beq_iff_eq.2 h)) two_ne_zero

section
variable (legal : ill = false) (inside : s.pc st < 0x1FFF)
include legal inside

/-- A legal instruction before the last word takes the faults of its own list. -/
theorem faultOf_inside : faultOf ill (s.atLast st) l = firstWhy l :=
  (firstWhy_miss legal).trans (firstWhy_miss (beq_eq_false_iff_ne.2 (by omega)))

theorem unlessFault_meets (h : firstWhy l = code) (faulty : code ≠ 0) : s.unlessFault st ill l f = s.progFault st code :=
  unlessFault_faults ((faultOf_inside legal inside).trans h) faulty

theorem unlessFault_runs (h : firstWhy l = 0) : s.unlessFault st ill l f = f s := by
  unfold State.unlessFault
  split
  next => rfl
  next faulty => exact absurd ((faultOf_inside legal inside).trans h) faulty

end

/-- A block instruction whose count is not 0 takes the faults of its block. -/
theorem block_faults {n : Nat} (inside : s.pc st < 0x1FFF) (some : 0 < n) (h : firstWhy l = code) (faulty : code ≠ 0) :
    (if n == 0 then s.plain st id else s.unlessFault st false l f) = s.progFault st code :=
  (if_neg (by simpa using some.ne')).trans (unlessFault_meets rfl inside h faulty)

end

/- Addresses and blocks. -/

theorem misaligned_of {a : Nat} (h : a % 4 ≠ 0) : misaligned a = true := bne_iff_ne.2 h

theorem aligned_of {a : Nat} (h : a % 4 = 0) : misaligned a = false := bne_eq_false_iff_eq.2 h

theorem outside_of {a n : Nat} (h : 0x10000 < a + 4 * n) : outside a n = true := decide_eq_true h

theorem inside_of {a n : Nat} (h : a + 4 * n ≤ 0x10000) : outside a n = false := decide_eq_false (Nat.not_lt.2 h)

theorem overlap_of {a b n : Nat} (below : a < b + 4 * n) (above : b < a + 4 * n) : overlap a b n = true := by simp [overlap, below, above]

section
variable {dst src n : Nat}

theorem copyFaults_misaligned (h : dst % 4 ≠ 0) : firstWhy (copyFaults dst src n) = 3 := firstWhy_hit (by rw [misaligned_of h, Bool.true_or])

theorem copyFaults_outside (hd : dst % 4 = 0) (hs : src % 4 = 0) (h : 0x10000 < dst + 4 * n) : firstWhy (copyFaults dst src n) = 4 :=
  (firstWhy_miss (by rw [aligned_of hd, aligned_of hs, Bool.or_false])).trans (firstWhy_hit (by rw [outside_of h, Bool.true_or]))

theorem copyFaults_overlap (hd : dst % 4 = 0) (hs : src % 4 = 0) (fitd : dst + 4 * n ≤ 0x10000) (fits : src + 4 * n ≤ 0x10000)
    (below : src < dst + 4 * n) (above : dst < src + 4 * n) : firstWhy (copyFaults dst src n) = 7 :=
  (firstWhy_miss (by rw [aligned_of hd, aligned_of hs, Bool.or_false])).trans <|
    (firstWhy_miss (by rw [inside_of fitd, inside_of fits, Bool.or_false])).trans (firstWhy_hit (by rw [overlap_of above below, Bool.or_true]))

theorem measFaults_misaligned (h : dst % 4 ≠ 0) : firstWhy (measFaults dst src n) = 3 := firstWhy_hit (misaligned_of h)

theorem measFaults_outside (hd : dst % 4 = 0) (h : 0x10000 < dst + 4 * n) : firstWhy (measFaults dst src n) = 4 :=
  (firstWhy_miss (aligned_of hd)).trans (firstWhy_hit (outside_of h))

theorem measFaults_channels (hd : dst % 4 = 0) (fit : dst + 4 * n ≤ 0x10000) (h : 192 < src + n) : firstWhy (measFaults dst src n) = 7 :=
  (firstWhy_miss (aligned_of hd)).trans ((firstWhy_miss (inside_of fit)).trans (firstWhy_hit (by rw [decide_eq_true h, Bool.or_true])))

end

section
variable {s : State} {st : Stl} {ra : RegN}

theorem maskFaults_misaligned (named : ra ≠ 0) (h : (s.reg st ra).toNat % 4 ≠ 0) : (s.maskFaults st ra).1 = true := by
  simp [State.maskFaults, named, misaligned_of h]

theorem maskFaults_aligned (h : (s.reg st ra).toNat % 4 = 0) : (s.maskFaults st ra).1 = false := by simp [State.maskFaults, aligned_of h]

theorem maskFaults_outside (named : ra ≠ 0) (h : 0x10000 < (s.reg st ra).toNat + 24) : (s.maskFaults st ra).2 = true := by
  simp [State.maskFaults, named, outside_of (n := 6) h]

end

/- Commands that fault. -/

section
variable {s : State} {st : Stl} {i : Instr} {op : State → State} {code : Nat}

/-- An instruction that an identity executes and that faults. -/
theorem exec_faults (executes : s.executes st = true) (unarmed : s.mmArmed st = false) (runs : exec i s = tar st s op)
    (faults : op s = s.progFault st code) : ∃ u t, exec i s = .next t ∧ Settles u t ∧ Faulted s st code u :=
  ⟨op s, (op s).finish, runs.trans (tar_run s st op executes unarmed), settles_finish _, faults⟩

theorem runWord_none {w : Word} (h : decode st w = none) : s.runWord st w = s.progFault st 1 := by rw [State.runWord, h]

theorem classOk_false {cls : BitVec 4} (h : cls.toNat = 0 ∨ 5 < cls.toNat) : (!classOk cls.toNat) = true := by
  simp only [classOk, Bool.not_and, Bool.or_eq_true, Bool.not_eq_true', decide_eq_false_iff_not]
  omega

theorem selOk_false {sel : Nat} (h : 20 < sel) : (!selOk sel) = true := by simpa [selOk] using h

theorem selOk_true {sel : Nat} (h : sel ≤ 20) : (!selOk sel) = false := by simpa [selOk] using h

end

end Sys2Proof.Machine

open Sys2Proof Sys2Proof.Machine

/-- Settles O27: the word of UNASSIGNED_OPCODE is decoded first, and no arm of the decoder has an unassigned opcode. -/
theorem unassignedWordsAreNoInstructions : Obligations.UnassignedWordsAreNoInstructions := by
  refine ⟨fun s st w => ⟨fun undecoded executes unarmed => ?_, fun decoded => ?_⟩, decode_unassigned⟩
  · have runs : exec (.unassignedOpcode st w) s = tar st s (fun s => s.runWord st w) := if_pos (by rw [undecoded, Option.isNone_none])
    exact exec_faults executes unarmed runs (runWord_none undecoded)
  · exact if_neg (by simpa [Option.isSome_iff_ne_none] using decoded)

/-- Settles O28: each of these instructions looks at its place before anything of its own. -/
theorem steppingPastTheLastWordFaults : Obligations.SteppingPastTheLastWordFaults := by
  intro s st executes unarmed last rd ra rb imm k
  have fault {i : Instr} (runs : exec i s = tar st s (opOf i)) := exec_faults (code := 2) executes unarmed runs
  simp only [List.forall_mem_cons]
  refine ⟨fault rfl ?_, fault rfl ?_, fault rfl ?_, fault rfl ?_, fault rfl ?_, fault rfl ?_, fault rfl ?_, fault rfl ?_, fault rfl ?_,
    fault rfl ?_, fault rfl ?_, fault rfl ?_, fault rfl ?_, fault rfl ?_, fault rfl ?_, fault rfl ?_, fault rfl ?_, fault rfl ?_, fault rfl ?_,
    fault rfl ?_, fault rfl ?_, fault rfl ?_, fault rfl ?_, by simp⟩
  all_goals
    simp only [opOf, opAdd, opSub, opCmp, opMul16, opLdi, opLui, opRdt, opLd, opSt, opCopyb, opMeas, opMeasb, opJudge, opPin, opPout, opLog,
      opLogb, opRaise, opSend, opRecv, opSeal, opYield, opHalt, State.alu, State.aluFlags, State.load, State.plain, unlessFault_last last, ite_self]

/-- Settles O29: of the cases of each instruction's list, those before the named one do not hold. -/
theorem badOperandsFault : Obligations.BadOperandsFault := by
  intro s st ready rd ra rb imm cls unit sel inv t dst src n
  obtain ⟨executes, unarmed, inside⟩ := ready
  have fault {i : Instr} {code : Nat} (runs : exec i s = tar st s (opOf i)) := exec_faults (code := code) executes unarmed runs
  refine ⟨fun long => ?_, fun reserved => ?_, fun reserved => ?_, fun listed bad => ?_, fun listed bad => ?_, fun some mis => ?_, fun some hd out => ?_,
    fun some hd hs fitd fits below above => ?_, fun some hd fit past => ?_, fun named long hd fit => ?_, fun named mis => ?_, fun named hs out => ?_⟩
  · have ill : decide (32 ≤ imm.toNat) = true := decide_eq_true long
    refine ⟨fault rfl ?_, fault rfl ?_, fault rfl ?_⟩
    all_goals simp only [opOf, opShli, opShri, opAsri, State.aluImm, unlessFault_illegal ill]
  · have ill := classOk_false reserved
    refine ⟨fault rfl ?_, fault rfl ?_, fault rfl ?_, fault rfl ?_, fault rfl ?_⟩
    all_goals simp only [opOf, opRamp, opEnab, opDisb, opFence, opAdmit, State.railAction, unlessFault_illegal ill]
  · have ill := selOk_false reserved
    refine ⟨fault rfl ?_, fault rfl ?_⟩
    all_goals simp only [opOf, opWait, opWaitt, unlessFault_illegal ill]
  · refine fault rfl ?_
    simp only [opOf, opWait]
    exact unlessFault_meets (selOk_true listed) inside (firstWhy_hit bad) (by decide)
  · refine fault rfl ?_
    simp only [opOf, opWaitt]
    exact unlessFault_meets (selOk_true listed) inside (firstWhy_hit bad) (by decide)
  · have log : ((s.maskFaults st ra).1 || misaligned dst) = true := by rw [misaligned_of mis, Bool.or_true]
    exact ⟨fault rfl (block_faults inside some (copyFaults_misaligned mis) (by decide)),
      fault rfl (block_faults inside some (measFaults_misaligned mis) (by decide)),
      fault rfl (block_faults inside some (firstWhy_hit log) (by decide))⟩
  · refine ⟨fault rfl (block_faults inside some (measFaults_outside hd out) (by decide)), fun hs => ?_⟩
    have log : ((s.maskFaults st ra).1 || misaligned dst) = false := by rw [aligned_of hd, maskFaults_aligned hs, Bool.or_false]
    have logOut : ((s.maskFaults st ra).2 || outside dst n) = true := by rw [outside_of out, Bool.or_true]
    exact ⟨fault rfl (block_faults inside some (copyFaults_outside hd hs out) (by decide)),
      fault rfl (block_faults inside some ((firstWhy_miss log).trans (firstWhy_hit logOut)) (by decide))⟩
  · exact fault rfl (block_faults inside some (copyFaults_overlap hd hs fitd fits below above) (by decide))
  · exact fault rfl (block_faults inside some (measFaults_channels hd fit past) (by decide))
  · subst named
    exact fault rfl (block_faults inside (by omega)
      ((firstWhy_miss (aligned_of hd)).trans ((firstWhy_miss (inside_of fit)).trans (firstWhy_hit (decide_eq_true long)))) (by decide))
  · refine fault rfl ?_
    simp only [opOf, opLog]
    exact unlessFault_meets rfl inside (firstWhy_hit (maskFaults_misaligned named mis)) (by decide)
  · have far : 0x10000 < src + 24 := by omega
    refine fault rfl ?_
    simp only [opOf, opLog]
    exact unlessFault_meets rfl inside ((firstWhy_miss (maskFaults_aligned hs)).trans (firstWhy_hit (maskFaults_outside named far))) (by decide)
end

section
/-! PROOFS. A side effect issued again: its completer answers with the outcome that it recorded, so the instruction retires and nothing else is done. -/

namespace Sys2Proof.Machine
open Sys2Proof

section
variable {s : State} {st : Stl} {c : Nat}

/-- A side effect that returns a recorded outcome (R175): it retires with REFUSED as its completer recorded it, its issue number counts up, and no
other field, memory or queue changes. -/
def Replayed (s : State) (st : Stl) (c : Nat) (u : State) : Prop :=
  u.pc st = s.pc st + 1 ∧ u.is Hid.S_REF st = s.is Hid.CP_REF (4 * c + st) ∧ u.get Hid.S_ISN st = s.nextIsn st ∧
    Changes s u (pcKeys st ++ [Hid.S_REF.key st, Hid.S_ISN.key st])

/-- An instruction that retires before the last word leads to the next one. -/
theorem pc_retire (inside : s.pc st < 0x1FFF) : (s.retire st).pc st = s.pc st + 1 := by
  have count : st.val < Hid.S_PC.count := st.isLt
  rw [State.pc, State.retire, State.retireAt, State.get_put_apart _ _ _ _ _ _ (by decide), State.get_put_self _ _ _ _ count]
  exact Nat.mod_eq_of_lt (show s.pc st + 1 < 2 ^ 13 by omega)

/-- The completer's recorded outcome, whatever the side effect would do. -/
theorem sideEffect_reissued {f : State → Answer} (again : s.reissue st c = true) :
    s.sideEffect st c f (fun _ _ s => s) =
      (((s.put Hid.S_REF st 0).retire st).put Hid.S_ISN st (s.nextIsn st)).ifDo (s.is Hid.CP_REF (4 * c + st)) (fun s => s.put Hid.S_REF st 1) := by
  have again : ((s.put Hid.S_REF st 0).retire st).reissue st c = true := (reissue_retire s st c).trans again
  have outcome : ((s.put Hid.S_REF st 0).retire st).is Hid.CP_REF (4 * c + st) = s.is Hid.CP_REF (4 * c + st) := by
    rw [State.is, get_retire s st (by decide), State.is]
  simp only [State.sideEffect, State.complete1, again, if_true, outcome, nextIsn_retire]

theorem replayed_sideEffect {f : State → Answer} (inside : s.pc st < 0x1FFF) (again : s.reissue st c = true) :
    Replayed s st c (s.sideEffect st c f (fun _ _ s => s)) := by
  have one : st.val < 4 := st.isLt
  have short : s.nextIsn st < 2 ^ 16 := Nat.mod_lt _ (by decide)
  rw [sideEffect_reissued again]
  refine ⟨?_, ?_, ?_, changes_ifDo _ _ (changes_put _ _ _ _ _ _ (changes_retireAt _ _ _ _ _ (changes_put _ _ _ _ _ _ (changes_refl s _) ?_) ?_) ?_)
    fun _ h => changes_put _ _ _ _ _ _ h ?_⟩
  · have first : (s.put Hid.S_REF st 0).pc st = s.pc st := State.get_put_apart _ _ _ _ _ _ (by decide)
    rw [State.pc, State.get_ifDo, State.get_put_apart _ _ _ _ _ _ (by decide), State.get_put_apart _ _ _ _ _ _ (by decide), ite_self]
    exact (pc_retire (first.symm ▸ inside)).trans (by rw [first])
  · cases s.is Hid.CP_REF (4 * c + st) with
    | true => exact is_of_get (State.get_put_self _ Hid.S_REF st 1 one)
    | false =>
      have put : (s.put Hid.S_REF st 0).get Hid.S_REF st = 0 := State.get_put_self s Hid.S_REF st 0 one
      refine is_of_get (v := 0) ?_
      simp (disch := decide) only [State.ifDo_false, State.retire, State.retireAt, State.get_put_apart, put]
  · rw [State.get_ifDo, State.get_put_apart _ _ _ _ _ _ (by decide), State.get_put_self _ _ _ _ one, ite_self]
    exact Nat.mod_eq_of_lt short
  all_goals simp [pcKeys]

/-- An instruction that faults in no way and is such a side effect. -/
theorem replayed_unlessFault {l : List (Bool × Nat)} {f : State → Answer} (inside : s.pc st < 0x1FFF) (again : s.reissue st c = true)
    (none : firstWhy l = 0) : Replayed s st c (s.unlessFault st false l fun s => s.sideEffect st c f (fun _ _ s => s)) := by
  rw [unlessFault_runs rfl inside none]
  exact replayed_sideEffect inside again

theorem replayed_railAction {cls : BitVec 4} {f : State → Answer} (inside : s.pc st < 0x1FFF) (again : s.reissue st 0 = true) (low : 1 ≤ cls.toNat)
    (high : cls.toNat ≤ 5) : Replayed s st 0 (s.railAction st cls f) := by
  rw [railAction_listed low high inside]
  exact replayed_sideEffect inside again

end

end Sys2Proof.Machine

open Sys2Proof Sys2Proof.Machine

/-- Settles O35: each of these instructions is a side effect at the completer named, and the recorded outcome stands for it. -/
theorem reissuedSideEffectsActOnce : Obligations.ReissuedSideEffectsActOnce := by
  intro s st ready rd ra imm cls unit c i kind again
  obtain ⟨executes, unarmed, inside⟩ := ready
  suffices runs : exec i s = tar st s (opOf i) ∧ Replayed s st c (opOf i s) from
    ⟨opOf i s, (opOf i s).finish, runs.1.trans (tar_run s st _ executes unarmed), settles_finish _, runs.2⟩
  rcases kind with ⟨rfl, low, high, rail⟩ | ⟨rfl, rfl⟩ | ⟨rfl, rfl⟩ | ⟨rfl, rfl⟩ | ⟨rfl, rfl⟩ | ⟨rfl, rfl⟩
  · fin_cases rail <;> exact ⟨rfl, replayed_railAction inside again low high⟩
  all_goals exact ⟨rfl, replayed_unlessFault inside again rfl⟩
end

section
/-! PROOFS. Waits: what sets one up leaves every condition as it was, and a wait ends in one way, whether at its first evaluation or later. -/

namespace Sys2Proof.Machine
open Sys2Proof

/- What a condition looks at. -/

/-- The fields of the wait in progress. -/
def waitFlds : List Fld := [Hid.S_WKIND, Hid.S_WSEL, Hid.S_WINV, Hid.S_WPAR, Hid.S_WSCN, Hid.S_WDL, Hid.S_WDLV]

section
variable {s t : State} (same : SameApart waitFlds s t) (mail : t.mail = s.mail)
include same

theorem isPri_apart (n : Nat) : t.isPri n = s.isPri n := by
  unfold State.isPri
  extract_lets f
  have apart : ∀ w ∈ waitFlds, Fld.apart w f = true := by
    simp only [f]
    split <;> decide
  exact same f _ apart

include mail

theorem presentable_apart (a n : Nat) : t.presentable a n = s.presentable a n := by
  simp (disch := decide) only [State.presentable, State.isEnabled, State.isPending, State.isLevel, State.stickyClass, State.portEvt, State.tmrLevel,
    State.spareUsed, State.arr, State.bit, State.is, List.any_cons, List.any_nil, isPri_apart same, mail, same _ _]

theorem irqFor_apart (st p : Nat) : t.irqFor st p = s.irqFor st p := by
  simp (disch := decide) only [State.irqFor, isPri_apart same, presentable_apart same mail, State.phys, same _ _]

theorem waitCond_apart (st sel p scn : Nat) : t.waitCond st sel p scn = s.waitCond st sel p scn := by
  unfold State.waitCond
  split
  all_goals
    simp (disch := decide) only [State.rail, State.kp, State.hold, State.active, State.cur, State.onBatt, State.anyInput, State.qualified,
      State.mbox, State.sqIn, State.sqMode, State.is, irqFor_apart same mail, mail, same _ _]

end

/- The set-up of a wait. -/

/-- The unit of an identity that was put reads back. -/
theorem get_put_stl (s : State) (f : Fld) (st : Stl) (v : Nat) (h : f.count = 4) : (s.put f st v).get f st = v % 2 ^ f.width :=
  State.get_put_self s f st v (lt_of_lt_of_eq st.isLt h.symm)

/-- The store keys of the wait in progress. -/
def waitKeys (st : Stl) : List Nat :=
  [Hid.S_WKIND.key st, Hid.S_WSEL.key st, Hid.S_WINV.key st, Hid.S_WPAR.key st, Hid.S_WSCN.key st, Hid.S_WDL.key st, Hid.S_WDLV.key st,
    Reg.STL_STAT_STATE.key st]

section
variable (s : State) (st : Stl) (kind sel : Nat) (inv : Bool) (p : Nat) (dl : Option Nat)

theorem sameApart_setWait : SameApart waitFlds s (s.setWait st kind sel inv p dl) := by
  have looked : SameApart waitFlds s (((((s.put Hid.S_WKIND st kind).put Hid.S_WSEL st sel).mark Hid.S_WINV st inv).put Hid.S_WPAR st p).put Hid.S_WSCN st
      ((((s.put Hid.S_WKIND st kind).put Hid.S_WSEL st sel).mark Hid.S_WINV st inv).get Reg.SCN_COUNT_COUNT 0)) :=
    (SameApart.refl.put.put.mark).put.put
  cases dl with
  | none => exact looked.put
  | some d => exact looked.put.put

theorem setWait_mail : (s.setWait st kind sel inv p dl).mail = s.mail := by
  cases dl <;> simp only [State.setWait, State.mark, State.put_mail]

theorem changes_setWait : Changes s (s.setWait st kind sel inv p dl) (waitKeys st) := by
  have key {u : State} (h : Changes s u (waitKeys st)) (f : Fld) (v : Nat) (hf : f.key st ∈ waitKeys st := by simp [waitKeys]) :
    Changes s (u.put f st v) (waitKeys st) := changes_put _ _ _ _ _ _ h hf
  have looked := fun v w => key (key (key (key (key (changes_refl s _) Hid.S_WKIND kind) Hid.S_WSEL sel) Hid.S_WINV v) Hid.S_WPAR p) Hid.S_WSCN w
  cases dl with
  | none => exact key (looked _ _) Hid.S_WDLV 0
  | some d => exact key (key (looked _ _) Hid.S_WDL d) Hid.S_WDLV 1

theorem setWait_get :
    let u := s.setWait st kind sel inv p dl
    u.get Hid.S_WKIND st = kind % 4 ∧ u.get Hid.S_WSEL st = sel % 32 ∧ u.is Hid.S_WINV st = inv ∧ u.get Hid.S_WPAR st = p % 2 ^ 32 ∧
      u.get Hid.S_WSCN st = s.get Reg.SCN_COUNT_COUNT 0 % 2 ^ 32 ∧ u.get Hid.S_WDLV st = (if dl.isSome then 1 else 0) ∧
      ∀ d, dl = some d → u.get Hid.S_WDL st = d % 2 ^ 32 := by
  cases dl with
  | none =>
    simp (disch := decide) only [State.setWait, State.mark, State.is, State.get_put_apart, get_put_stl]
    refine ⟨rfl, rfl, ?_, rfl, rfl, rfl, by simp⟩
    cases inv <;> rfl
  | some d =>
    simp (disch := decide) only [State.setWait, State.mark, State.is, State.get_put_apart, get_put_stl]
    refine ⟨rfl, rfl, ?_, rfl, rfl, rfl, fun _ same => ?_⟩
    · cases inv <;> rfl
    · cases same
      rfl

theorem waitOver_setWait (hk : kind = 1 ∨ kind = 2) (hs : sel ≤ 20) (hp : p < 2 ^ 32) :
    (s.setWait st kind sel inv p dl).waitOver st = (s.waitCond st sel p (s.get Reg.SCN_COUNT_COUNT 0 % 2 ^ 32) != inv) := by
  obtain ⟨wkind, wsel, winv, wpar, wscn, -, -⟩ := setWait_get s st kind sel inv p dl
  have plain : (kind % 4 == 3) = false := by rcases hk with rfl | rfl <;> rfl
  rw [State.waitOver, wkind, plain, if_neg Bool.false_ne_true, wsel, winv, wpar, wscn, Nat.mod_eq_of_lt (by omega : sel < 32), Nat.mod_eq_of_lt hp,
    waitCond_apart (sameApart_setWait s st kind sel inv p dl) (setWait_mail s st kind sel inv p dl)]

theorem waitOver_yield (dl : Option Nat) : (s.setWait st 3 0 false 0 dl).waitOver st = (s.irqFor st 0 || !(s.mbox st).isEmpty) := by
  obtain ⟨wkind, -⟩ := setWait_get s st 3 0 false 0 dl
  have mail := setWait_mail s st 3 0 false 0 dl
  rw [State.waitOver, wkind, if_pos (show (3 % 4 == 3) = true from rfl), irqFor_apart (sameApart_setWait s st 3 0 false 0 dl) mail, State.mbox, mail,
    State.mbox]

end

/- The end of a wait. -/

/-- The wait of an identity has ended (R178, R183): Z tells a timeout, but YIELD writes no flag. -/
def WaitEnded (b : State) (st : Stl) (z : Bool) (u : State) : Prop :=
  u.is Hid.S_Z st = (if b.get Hid.S_WKIND st = 3 then b.is Hid.S_Z st else z) ∧ u.pc st = b.pc st + 1 ∧ u.sl st = slRun ∧
    u.get Hid.S_WDLV st = 0 ∧ Changes b u (pcKeys st ++ [Hid.S_Z.key st, Hid.S_WKIND.key st, Hid.S_WDLV.key st, Reg.STL_STAT_STATE.key st])

/-- What the end of a wait leaves before its retirement, outside STANDBY. -/
def State.unwait (b : State) (st : Stl) (z : Bool) : State :=
  (((b.ifDo (b.get Hid.S_WKIND st != 3) fun s => s.mark Hid.S_Z st z).put Hid.S_WKIND st 0).put Hid.S_WDLV st 0).setSl st slRun

section
variable {b : State} {st : Stl} {z : Bool}

theorem endWait_eq (running : b.standby = false) : b.endWait st z = (b.unwait st z).retire st := by
  have still : (((b.ifDo (b.get Hid.S_WKIND st != 3) fun s => s.mark Hid.S_Z st z).put Hid.S_WKIND st 0).put Hid.S_WDLV st 0).standby = false := by
    rw [← running]
    simp (disch := decide) only [State.standby, State.cur, State.mark, State.get_put_apart, State.get_ifDo, ite_self]
  rw [State.endWait, State.stallGo, still, State.ifDo_false, State.unwait]

/-- The fields that the end of a wait writes. -/
theorem sameApart_unwait : SameApart [Hid.S_Z, Hid.S_WKIND, Hid.S_WDLV, Reg.STL_STAT_STATE] b (b.unwait st z) :=
  ((SameApart.refl.ifDo fun _ hu => hu.mark).put.put).put

theorem unwait_z : (b.unwait st z).is Hid.S_Z st = if b.get Hid.S_WKIND st = 3 then b.is Hid.S_Z st else z := by
  have flag : (b.unwait st z).is Hid.S_Z st = (b.ifDo (b.get Hid.S_WKIND st != 3) fun s => s.mark Hid.S_Z st z).is Hid.S_Z st := by
    simp (disch := decide) only [State.unwait, State.is, State.setSl, State.get_put_apart]
  rw [flag]
  by_cases yields : b.get Hid.S_WKIND st = 3
  · rw [if_pos yields, yields, bne_self_eq_false, State.ifDo_false]
  · rw [if_neg yields, bne_iff_ne.2 yields, State.ifDo_true, State.is_mark _ _ _ _ rfl st.isLt]

theorem changes_unwait {s : State} {l : List Nat} (h : Changes s b l) (hz : Hid.S_Z.key st ∈ l) (hk : Hid.S_WKIND.key st ∈ l)
    (hv : Hid.S_WDLV.key st ∈ l) (hs : Reg.STL_STAT_STATE.key st ∈ l) : Changes s (b.unwait st z) l :=
  changes_put _ _ _ _ _ _ (changes_put _ _ _ _ _ _ (changes_put _ _ _ _ _ _ (changes_ifDo _ _ h fun _ hu => changes_mark _ _ _ _ _ _ hu hz) hk) hv) hs

/-- A wait that ends outside STANDBY and before the last word. -/
theorem waitEnded_endWait (running : b.standby = false) (inside : b.pc st < 0x1FFF) : WaitEnded b st z (b.endWait st z) := by
  have first : (b.unwait st z).pc st = b.pc st := sameApart_unwait.get
  rw [endWait_eq running]
  refine ⟨?_, ?_, ?_, ?_, ?_⟩
  · rw [← unwait_z, State.retire, State.retireAt, State.is, State.get_put_apart _ _ _ _ _ _ (by decide), State.get_put_apart _ _ _ _ _ _ (by decide),
      State.is]
  · rw [pc_retire (first.symm ▸ inside), first]
  · simp (disch := decide) only [State.unwait, State.sl, State.retire, State.retireAt, State.setSl, State.get_put_apart, get_put_stl]
    rfl
  · simp (disch := decide) only [State.unwait, State.retire, State.retireAt, State.setSl, State.get_put_apart, get_put_stl]
    rfl
  · exact changes_retireAt _ _ _ _ _
      (changes_unwait (changes_refl b _) (by simp) (by simp) (by simp) (by simp)) (fun _ hk => List.mem_append_left _ hk)

end

/- The first evaluation of a wait. -/

/-- A wait of an identity has ended at its first evaluation. -/
def WaitPassed (s : State) (st : Stl) (z : Bool) (u : State) : Prop :=
  u.is Hid.S_Z st = z ∧ u.pc st = s.pc st + 1 ∧ u.sl st = slRun ∧ u.get Hid.S_WDLV st = 0 ∧
    Changes s u (pcKeys st ++ Hid.S_Z.key st :: waitKeys st)

/-- An identity waits after the first evaluation, with WAIT_DL where the wait has a deadline. -/
def WaitBegun (s : State) (st : Stl) (dl : Option Nat) (u : State) : Prop :=
  u.sl st = slWait ∧ u.pc st = s.pc st ∧ u.get Hid.S_WDLV st = (if dl.isSome then 1 else 0) ∧ (∀ d, dl = some d → u.get Hid.S_WDL st = d % 2 ^ 32) ∧
    Changes s u (waitKeys st)

theorem runOne_unarmed {b : State} {st : Stl} {f : State → State} (h : b.mmArmed st = false) : b.runOne st f = f b := by simp [State.runOne, h]

section
variable {s : State} {st : Stl} {kind sel p : Nat} {inv : Bool} {dl : Option Nat}

theorem waitPassed_endWait {z : Bool} (running : s.standby = false) (inside : s.pc st < 0x1FFF) (hk : kind < 4) :
    WaitPassed s st (if kind = 3 then s.is Hid.S_Z st else z) ((s.setWait st kind sel inv p dl).endWait st z) := by
  have same := sameApart_setWait s st kind sel inv p dl
  have pc : (s.setWait st kind sel inv p dl).pc st = s.pc st := same.get
  have flag : (s.setWait st kind sel inv p dl).is Hid.S_Z st = s.is Hid.S_Z st := by rw [State.is, same.get, State.is]
  have running : (s.setWait st kind sel inv p dl).standby = false := by rw [← running, State.standby, State.cur, same.get, State.standby, State.cur]
  obtain ⟨wkind, -⟩ := setWait_get s st kind sel inv p dl
  obtain ⟨z', pc', sl', dlv', -⟩ := waitEnded_endWait (st := st) (z := z) running (pc.symm ▸ inside)
  rw [wkind, Nat.mod_eq_of_lt hk, flag] at z'
  refine ⟨z', pc'.trans (by rw [pc]), sl', dlv', ?_⟩
  rw [endWait_eq running]
  have setUp : Changes s (s.setWait st kind sel inv p dl) (pcKeys st ++ Hid.S_Z.key st :: waitKeys st) :=
    changes_mono _ _ _ _ (changes_setWait s st kind sel inv p dl) fun _ hk => List.mem_append_right _ (List.mem_cons_of_mem _ hk)
  exact changes_retireAt _ _ _ _ _ (changes_unwait setUp (by simp) (by simp [waitKeys]) (by simp [waitKeys]) (by simp [waitKeys]))
    (fun _ hk => List.mem_append_left _ hk)

theorem waitBegun_setSl : WaitBegun s st dl ((s.setWait st kind sel inv p dl).setSl st slWait) := by
  have pc : (s.setWait st kind sel inv p dl).pc st = s.pc st := (sameApart_setWait s st kind sel inv p dl).get
  obtain ⟨-, -, -, -, -, valid, deadline⟩ := setWait_get s st kind sel inv p dl
  have other (f : Fld) (h : Fld.apart Reg.STL_STAT_STATE f = true) :
      ((s.setWait st kind sel inv p dl).setSl st slWait).get f st = (s.setWait st kind sel inv p dl).get f st := State.get_put_apart _ _ _ _ _ _ h
  exact ⟨get_put_stl _ Reg.STL_STAT_STATE st slWait rfl, (other _ (by decide)).trans pc, (other _ (by decide)).trans valid,
    fun d hd => (other _ (by decide)).trans (deadline d hd), changes_put _ _ _ _ _ _ (changes_setWait s st kind sel inv p dl) (by simp [waitKeys])⟩

/-- An instruction that sets up a wait and looks at it. -/
theorem exec_firstLook {i : Instr} {timeUp holds : Bool} (ready : Ready s st) (running : s.standby = false) (runs : exec i s = tar st s (opOf i))
    (acts : opOf i s = (s.setWait st kind sel inv p dl).firstLook st timeUp) (hk : kind < 4)
    (looks : (s.setWait st kind sel inv p dl).waitOver st = holds) :
    (holds = true → ∃ u t, exec i s = .next t ∧ Settles u t ∧ WaitPassed s st (if kind = 3 then s.is Hid.S_Z st else false) u) ∧
    (holds = false → timeUp = true → ∃ u t, exec i s = .next t ∧ Settles u t ∧ WaitPassed s st (if kind = 3 then s.is Hid.S_Z st else true) u) ∧
    (holds = false → timeUp = false → ∃ u t, exec i s = .next t ∧ Settles u t ∧ WaitBegun s st dl u) := by
  obtain ⟨executes, unarmed, inside⟩ := ready
  have ran {u : State} (h : opOf i s = u) : exec i s = .next u.finish := by rw [runs, tar_run s st _ executes unarmed, h]
  rw [State.firstLook, looks] at acts
  refine ⟨fun now => ?_, fun later up => ?_, fun later notUp => ?_⟩
  · rw [now, if_pos rfl] at acts
    exact ⟨_, _, ran acts, settles_finish _, waitPassed_endWait running inside hk⟩
  · rw [later, if_neg Bool.false_ne_true, up, if_pos rfl] at acts
    exact ⟨_, _, ran acts, settles_finish _, waitPassed_endWait running inside hk⟩
  · rw [later, if_neg Bool.false_ne_true, notUp, if_neg Bool.false_ne_true] at acts
    exact ⟨_, _, ran acts, settles_finish _, waitBegun_setSl⟩

end

end Sys2Proof.Machine

open Sys2Proof Sys2Proof.Machine

/-- Settles O25: each instruction sets its wait up, which leaves every condition as it was, and looks at it once. -/
theorem waitsAtFirstEvaluation : Obligations.WaitsAtFirstEvaluation := by
  intro s st ready running inv sel ra imm listed r now ends waits
  have inside : s.pc st < 0x1FFF := ready.2.2
  have whole (n : Nat) (h : n < 2 ^ 16) : (imm == BitVec.ofNat 16 n) = decide (imm.toNat = n) := by
    rw [Bool.eq_iff_iff, beq_iff_eq, decide_eq_true_eq, ← BitVec.toNat_inj, BitVec.toNat_ofNat, Nat.mod_eq_of_lt h]
  have zero : (imm == 0) = decide (imm.toNat = 0) := whole 0 (by decide)
  have ones : (imm == 0xFFFF) = decide (imm.toNat = 0xFFFF) := whole 0xFFFF (by decide)
  refine ⟨fun fits => ?_, fun fits => ?_, ?_⟩
  · have acts : opOf (.tWait st inv sel ra imm) s =
        (s.setWait st 1 sel.toNat inv r (if imm.toNat = 0xFFFF then none else some (s.tnow + imm.toNat))).firstLook st (imm == 0) := by
      simp only [opOf, opWait, ones, decide_eq_true_eq]
      exact unlessFault_runs (selOk_true listed) inside (firstWhy_miss fits)
    obtain ⟨passes, timesOut, begins⟩ := exec_firstLook ready running rfl acts (by decide)
      (waitOver_setWait s st 1 sel.toNat inv r _ (.inl rfl) listed (s.reg st ra).isLt)
    exact ⟨passes, fun h up => timesOut h (zero.trans (decide_eq_true up)), fun h up => begins h (zero.trans (decide_eq_false up))⟩
  · have acts : opOf (.tWaitt st inv sel ra imm) s = (s.setWait st 2 sel.toNat inv imm.toNat (some r)).firstLook st (reached s.tnow r) := by
      simp only [opOf, opWaitt]
      exact unlessFault_runs (selOk_true listed) inside (firstWhy_miss fits)
    exact exec_firstLook ready running rfl acts (by decide)
      (waitOver_setWait s st 2 sel.toNat inv imm.toNat _ (.inr rfl) listed (imm.isLt.trans (by decide)))
  · have acts : opOf (.tYield st) s = (s.setWait st 3 0 false 0 none).firstLook st false := by
      simp only [opOf, opYield]
      exact unlessFault_runs rfl inside rfl
    obtain ⟨passes, -, begins⟩ := exec_firstLook ready running rfl acts (by decide) (waitOver_yield s st none)
    exact ⟨passes, fun h => begins h rfl⟩

/-- Settles O26: either command ends the wait in progress, in the state that the time of its deadline has led to. -/
theorem waitsEndLater : Obligations.WaitsEndLater := by
  intro s st ends ready
  constructor
  · rintro ⟨waits, running, unarmed, inside⟩ holds
    refine ⟨s.endWait st false, _, ?_, settles_finish _, waitEnded_endWait running inside⟩
    show execWaitResume st s = _
    rw [execWaitResume, waits, holds, Bool.and_self, if_pos rfl, runOne_unarmed unarmed, ended]
  · rintro waits timed due b ⟨waits', running, unarmed, inside⟩
    have arrives : s.advanceTo (s.waitDue st) = b := by simp only [State.advanceTo, State.waitDue, beq_iff_eq, b, due]
    refine ⟨b.endWait st (!b.waitOver st), _, ?_, settles_finish _, waitEnded_endWait running inside⟩
    show execWaitTimeout st s = _
    rw [execWaitTimeout, waits, timed, Bool.and_self, if_pos rfl, arrives]
    show ended (b.ifDo (b.waits st) _) = _
    rw [waits', State.ifDo_true, runOne_unarmed unarmed, ended]
end

section
/-! PROOFS. Instructions that retire: what their registers, flags and PC read, and what they leave; the ALU, constants, time and measurements. -/

-- The proofs of this section are elaborated one after another: the text is compiled as one, and its threads stand near the memory limit.
set_option deprecated.oldSectionVars true

namespace Sys2Proof.Machine
open Sys2Proof

/- Commands that an identity executes. -/

section
variable {s u : State} {st : Stl} {i : Instr} (executes : s.executes st = true) (unarmed : s.mmArmed st = false)
include executes unarmed

/-- An instruction of an identity that executes it has its own effect, and what follows. -/
theorem exec_acts (runs : exec i s = tar st s (opOf i)) (acts : opOf i s = u) : ∃ t, exec i s = .next t ∧ Settles u t :=
  ⟨u.finish, by rw [runs, tar_run s st _ executes unarmed, acts], settles_finish u⟩

theorem exec_leaves {P : State → Prop} (runs : exec i s = tar st s (opOf i)) (leaves : P (opOf i s)) :
    ∃ u t, exec i s = .next t ∧ Settles u t ∧ P u :=
  have ⟨t, ran, settles⟩ := exec_acts executes unarmed runs rfl
  ⟨_, t, ran, settles, leaves⟩

end

/- Retirement. -/

section
variable {s t : State} {st : Stl} {l : List Fld}

theorem SameApart.setReg (h : SameApart l s t) {n : Nat} {r : RegN} {v : Word} (hl : Hid.S_R ∈ l) : SameApart l s (t.setReg n r v) := by
  show SameApart l s (if r = 0 then t else t.put Hid.S_R (16 * n + r.val) v.toNat)
  split
  · exact h
  · exact h.put hl

theorem SameApart.retire (h : SameApart l s t) {n : Nat} (hp : Hid.S_PC ∈ l) (hb : Hid.S_SHBAD ∈ l) :
    SameApart l s (t.retire n) := SameApart.put (h.put hp) hb

theorem SameApart.is (h : SameApart l s t) {g : Fld} {m : Nat} (hg : ∀ f ∈ l, Fld.apart f g = true) : t.is g m = s.is g m :=
  congrArg (· != 0) (h.get hg)

theorem SameApart.reg (h : SameApart l s t) {n : Nat} {r : RegN} (hl : ∀ f ∈ l, Fld.apart f Hid.S_R = true) : t.reg n r = s.reg n r :=
  congrArg (fun x => if r = 0 then 0 else BitVec.ofNat 32 x) (h.get hl)

theorem sameApart_retireAt (t : State) (n pc : Nat) : SameApart [Hid.S_PC, Hid.S_SHBAD] t (t.retireAt n pc) :=
  (SameApart.refl.put (by decide)).put (by decide)

theorem sameApart_setReg (t : State) (n : Nat) (r : RegN) (v : Word) : SameApart [Hid.S_R] t (t.setReg n r v) := SameApart.refl.setReg (by decide)

/-- PC of an instruction that retires after an effect that leaves it. -/
theorem SameApart.pc_retire (h : SameApart l s t) (inside : s.pc st < 0x1FFF) (hl : ∀ f ∈ l, Fld.apart f Hid.S_PC = true) :
    (t.retire st).pc st = s.pc st + 1 := by
  have same : t.pc st = s.pc st := h.get hl
  rw [Machine.pc_retire (same.symm ▸ inside), same]

theorem pc_retireAt {pc : Nat} (short : pc ≤ 0x1FFF) : (s.retireAt st pc).pc st = pc := by
  have put : (s.put Hid.S_PC st pc).get Hid.S_PC st = pc := (get_put_stl s Hid.S_PC st pc rfl).trans (Nat.mod_eq_of_lt (show pc < 2 ^ 13 by omega))
  exact (State.get_put_apart _ _ _ _ _ _ (by decide)).trans put

theorem passed_retireAt {pc : Nat} (short : pc ≤ 0x1FFF) : Passed s st pc (s.retireAt st pc) :=
  ⟨pc_retireAt short, changes_retireAt _ _ _ _ _ (changes_refl s _) fun _ hk => hk⟩

theorem passed_retire (inside : s.pc st < 0x1FFF) : Passed s st (s.pc st + 1) (s.retire st) := passed_retireAt inside

/-- A retirement after an effect within some keys. -/
theorem changes_retire {keys : List Nat} (h : Changes s t keys) (hk : ∀ k ∈ pcKeys st, k ∈ keys) : Changes s (t.retire st) keys :=
  changes_retireAt _ _ _ _ _ h hk

theorem loaded_retire {rd : RegN} {v : Word} (inside : s.pc st < 0x1FFF) : Loaded s st rd v ((s.setReg st rd v).retire st) := by
  refine ⟨?_, ?_, ?_⟩
  · exact ((sameApart_retireAt _ _ _).reg (by decide)).trans (State.reg_setReg s st rd v)
  · exact (sameApart_setReg s st rd v).pc_retire inside (by decide)
  · exact changes_retire (changes_setReg _ _ _ _ _ _ (changes_refl s _) fun _ => List.mem_append_right _) fun _ => List.mem_append_left _

end

/- Flags. -/

/-- Z, N, C and V. -/
def flagFlds : List Fld := [Hid.S_Z, Hid.S_N, Hid.S_C, Hid.S_V]

section
variable {s : State} {st : Stl} {rd : RegN} {x : Alu}

theorem sameApart_setFlags : SameApart flagFlds s (s.setFlags st x) := by
  have written : SameApart flagFlds s ((s.mark Hid.S_Z st (x.r == 0)).mark Hid.S_N st x.r.msb) :=
    (SameApart.refl.mark (by decide)).mark (by decide)
  obtain ⟨r, _ | c, _ | v⟩ := x
  · exact written
  · exact written.mark (by decide)
  · exact written.mark (by decide)
  · exact (written.mark (by decide)).mark (by decide)

theorem changes_setFlags {u : State} {l : List Nat} (h : Changes s u l) (hk : ∀ k ∈ flagKeys st, k ∈ l) : Changes s (u.setFlags st x) l := by
  obtain ⟨z, n, c, v⟩ : Hid.S_Z.key st ∈ l ∧ Hid.S_N.key st ∈ l ∧ Hid.S_C.key st ∈ l ∧ Hid.S_V.key st ∈ l := by simpa [flagKeys] using hk
  have key {t : State} (h : Changes s t l) {f : Fld} {b : Bool} (hf : f.key st ∈ l) : Changes s (t.mark f st b) l := changes_mark _ _ _ _ _ _ h hf
  have written : Changes s ((u.mark Hid.S_Z st (x.r == 0)).mark Hid.S_N st x.r.msb) l := key (key h z) n
  obtain ⟨r, _ | carry, _ | overflow⟩ := x
  · exact written
  · exact key written v
  · exact key written c
  · exact key (key written c) v

theorem is_mark_stl (s : State) (f : Fld) (st : Stl) (b : Bool) (hw : f.width = 1) (hn : f.count = 4) : (s.mark f st b).is f st = b :=
  State.is_mark s f st b hw (lt_of_lt_of_eq st.isLt hn.symm)

theorem is_mark_apart (s : State) (f g : Fld) (n m : Nat) (b : Bool) (h : Fld.apart f g = true) : (s.mark f n b).is g m = s.is g m :=
  congrArg (· != 0) (State.get_put_apart _ _ _ _ _ _ h)

/-- Z and N tell the result; C and V are written where the operation gives them. -/
theorem setFlags_flags : (s.setFlags st x).is Hid.S_Z st = (x.r == 0) ∧ (s.setFlags st x).is Hid.S_N st = x.r.msb ∧
    (s.setFlags st x).is Hid.S_C st = x.c.getD (s.is Hid.S_C st) ∧ (s.setFlags st x).is Hid.S_V st = x.v.getD (s.is Hid.S_V st) := by
  obtain ⟨r, _ | c, _ | v⟩ := x <;>
    simp (disch := decide) [State.setFlags, is_mark_apart, is_mark_stl]

theorem aluDone_retire (inside : s.pc st < 0x1FFF) :
    AluDone s st rd x.r (x.c.getD (s.is Hid.S_C st)) (x.v.getD (s.is Hid.S_V st)) (((s.setReg st rd x.r).setFlags st x).retire st) := by
  have landed := sameApart_setReg s st rd x.r
  obtain ⟨z, n, c, v⟩ := setFlags_flags (s := s.setReg st rd x.r) (st := st) (x := x)
  rw [landed.is (by decide)] at c v
  have retired := sameApart_retireAt ((s.setReg st rd x.r).setFlags st x) st (((s.setReg st rd x.r).setFlags st x).pc st + 1)
  have pc : (s.setReg st rd x.r).pc st = s.pc st := landed.get (by decide)
  refine ⟨?_, (retired.is (by decide)).trans z, (retired.is (by decide)).trans n, (retired.is (by decide)).trans c, (retired.is (by decide)).trans v, ?_, ?_⟩
  · exact (retired.reg (by decide)).trans ((sameApart_setFlags.reg (by decide)).trans (State.reg_setReg s st rd x.r))
  · exact (sameApart_setFlags.pc_retire (pc.symm ▸ inside) (by decide)).trans (by rw [pc])
  · refine changes_retire (changes_setFlags (changes_setReg _ _ _ _ _ _ (changes_refl s _) ?_) ?_) ?_
    all_goals simp +contextual

end

/- The ALU's results. -/

theorem aluShl_eq (a : Word) (k : Nat) :
    aluShl a k = { r := if k < 32 then a <<< k else 0, c := some (k != 0 && k ≤ 32 && a.getLsbD (32 - k)), v := none } := rfl

theorem aluShr_eq (a : Word) (k : Nat) :
    aluShr a k = { r := if k < 32 then a >>> k else 0, c := some (k != 0 && k ≤ 32 && a.getLsbD (k - 1)), v := none } := rfl

theorem aluAsr_eq (a : Word) (k : Nat) :
    aluAsr a k = { r := a.sshiftRight (min k 32), c := some (k != 0 && a.getLsbD (min k 32 - 1)), v := none } := rfl

theorem aluShl_r (a : Word) (k : Nat) : (aluShl a k).r = BitVec.ofNat 32 (a.toNat * 2 ^ k) := by
  apply BitVec.eq_of_toNat_eq
  by_cases short : k < 32
  · simp [aluShl_eq, short, BitVec.toNat_shiftLeft, Nat.shiftLeft_eq]
  · have whole : 2 ^ 32 ∣ a.toNat * 2 ^ k := (Nat.pow_dvd_pow 2 (not_lt.1 short)).mul_left _
    simpa [aluShl_eq, short] using (Nat.mod_eq_zero_of_dvd whole).symm

theorem aluShr_r (a : Word) (k : Nat) : (aluShr a k).r = BitVec.ofNat 32 (a.toNat / 2 ^ k) := by
  apply BitVec.eq_of_toNat_eq
  have fits : a.toNat / 2 ^ k < 2 ^ 32 := (Nat.div_le_self _ _).trans_lt a.isLt
  by_cases short : k < 32
  · simpa [aluShr_eq, short, Nat.shiftRight_eq_div_pow] using (Nat.mod_eq_of_lt fits).symm
  · have none : a.toNat / 2 ^ k = 0 := Nat.div_eq_of_lt (a.isLt.trans_le (Nat.pow_le_pow_right two_pos (not_lt.1 short)))
    simp [aluShr_eq, short, none]

theorem testBit_word_high (a : Word) {k : Nat} (high : 32 ≤ k) : a.toNat.testBit k = false :=
  Nat.testBit_lt_two_pow (a.isLt.trans_le (Nat.pow_le_pow_right two_pos high))

theorem aluShr_c (a : Word) (k : Nat) : (aluShr a k).c = some (k != 0 && a.toNat.testBit (k - 1)) := by
  by_cases short : k ≤ 32
  · simp [aluShr_eq, short, BitVec.getLsbD]
  · simp [aluShr_eq, short, testBit_word_high a (show 32 ≤ k - 1 by omega)]

/-- A shift past the width of a signed word leaves its sign alone. -/
theorem toInt_div_long (a : Word) {k : Nat} (long : 32 ≤ k) : a.toInt / 2 ^ k = a.toInt / 2 ^ 32 := by
  have low : -2 ^ 31 ≤ a.toInt := a.le_toInt
  have high : a.toInt < 2 ^ 31 := a.toInt_lt
  have wide : (2 : Int) ^ 32 ≤ 2 ^ k := pow_le_pow_right₀ (by decide) long
  by_cases sign : 0 ≤ a.toInt
  · rw [Int.ediv_eq_zero_of_lt sign (by omega), Int.ediv_eq_zero_of_lt sign (by omega)]
  · rw [Int.ediv_eq_neg_one_of_neg_of_le (by omega) (by omega), Int.ediv_eq_neg_one_of_neg_of_le (by omega) (by omega)]

theorem aluAsr_r (a : Word) (k : Nat) : (aluAsr a k).r = BitVec.ofInt 32 (a.toInt / 2 ^ k) := by
  rcases le_total k 32 with short | long
  · simp [aluAsr_eq, short, BitVec.sshiftRight, Int.shiftRight_eq_div_pow]
  · simp [aluAsr_eq, long, BitVec.sshiftRight, Int.shiftRight_eq_div_pow, toInt_div_long a long]

theorem aluAsr_c (a : Word) (k : Nat) : (aluAsr a k).c = some (k != 0 && a.toNat.testBit (if k ≤ 32 then k - 1 else 31)) := by
  by_cases short : k ≤ 32
  · simp [aluAsr_eq, short, BitVec.getLsbD]
  · simp [aluAsr_eq, short, Nat.min_eq_right (not_le.1 short).le, BitVec.getLsbD]

section
variable {s : State} {st : Stl} {rd : RegN} {x : Alu} {i : Instr} (ready : Ready s st) (runs : exec i s = tar st s (opOf i))
include ready runs

/-- An instruction that gives a result of the ALU. -/
theorem exec_alu (acts : opOf i s = s.alu st rd x) : ∃ u t, exec i s = .next t ∧ Settles u t ∧
    AluDone s st rd x.r (x.c.getD (s.is Hid.S_C st)) (x.v.getD (s.is Hid.S_V st)) u := by
  obtain ⟨executes, unarmed, inside⟩ := ready
  refine exec_leaves executes unarmed runs ?_
  rw [acts, State.alu, State.plain_run s st _ inside]
  exact aluDone_retire inside

/-- An instruction that gives flags alone is one whose result s0 takes. -/
theorem exec_aluFlags (acts : opOf i s = s.aluFlags st x) : ∃ u t, exec i s = .next t ∧ Settles u t ∧
    AluDone s st 0 x.r (x.c.getD (s.is Hid.S_C st)) (x.v.getD (s.is Hid.S_V st)) u := exec_alu ready runs acts

/-- A shift by an immediate below 32. -/
theorem exec_aluImm {imm : BitVec 14} {f : Nat → Alu} (short : imm.toNat < 32) (acts : opOf i s = s.aluImm st rd imm f) :
    ∃ u t, exec i s = .next t ∧ Settles u t ∧
      AluDone s st rd (f imm.toNat).r ((f imm.toNat).c.getD (s.is Hid.S_C st)) ((f imm.toNat).v.getD (s.is Hid.S_V st)) u := by
  obtain ⟨executes, unarmed, inside⟩ := ready
  have legal : decide (32 ≤ imm.toNat) = false := decide_eq_false (not_le.2 short)
  refine exec_leaves executes unarmed runs ?_
  rw [acts, State.aluImm, unlessFault_runs legal inside rfl]
  exact aluDone_retire inside

/-- An instruction that gives a value without flags. -/
theorem exec_load {v : Word} (acts : opOf i s = s.load st rd v) : ∃ u t, exec i s = .next t ∧ Settles u t ∧ Loaded s st rd v u := by
  obtain ⟨executes, unarmed, inside⟩ := ready
  refine exec_leaves executes unarmed runs ?_
  rw [acts, State.load, State.plain_run s st _ inside]
  exact loaded_retire inside

end

theorem mul16_toNat (a b : Word) : (mul16 a b).toNat = a.toNat % 2 ^ 16 * (b.toNat % 2 ^ 16) := by
  have low (x : Word) : x.toNat % 2 ^ 16 ≤ 2 ^ 16 - 1 := Nat.le_pred_of_lt (Nat.mod_lt _ (by decide))
  have fits := Nat.mul_le_mul (low a) (low b)
  rw [mul16, BitVec.toNat_ofNat, Nat.mod_eq_of_lt (by omega)]

theorem ldi_toNat (imm : BitVec 20) : (imm.setWidth 32).toNat = imm.toNat := BitVec.toNat_setWidth_of_le (by decide)

theorem lui_toNat (imm : BitVec 20) : (imm.setWidth 32 <<< 12).toNat = imm.toNat * 4096 := by
  have small := imm.isLt
  rw [BitVec.toNat_shiftLeft, ldi_toNat, Nat.shiftLeft_eq]
  omega

end Sys2Proof.Machine

open Sys2Proof Sys2Proof.Machine

/-- Settles O18: each instruction is a result of the ALU that retires, and the shifts' results are the products and quotients by powers of 2. -/
theorem aluInstructionsFollowTheirTables : Obligations.AluInstructionsFollowTheirTables := by
  intro s st ready rd ra rb imm a b i z c v ovf unf shl shr asr
  have alu {i : Instr} (x : Alu) (runs : exec i s = tar st s (opOf i)) (acts : opOf i s = s.alu st rd x) := exec_alu ready runs acts
  have byShl {k : Nat} {u : State} (h : AluDone s st rd (aluShl a k).r ((aluShl a k).c.getD c) ((aluShl a k).v.getD v) u) : shl k u := by
    rwa [aluShl_r] at h
  have byShr {k : Nat} {u : State} (h : AluDone s st rd (aluShr a k).r ((aluShr a k).c.getD c) ((aluShr a k).v.getD v) u) : shr k u := by
    rwa [aluShr_r, aluShr_c] at h
  have byAsr {k : Nat} {u : State} (h : AluDone s st rd (aluAsr a k).r ((aluAsr a k).c.getD c) ((aluAsr a k).v.getD v) u) : asr k u := by
    rwa [aluAsr_r, aluAsr_c] at h
  refine ⟨alu (aluAdd a b) rfl rfl, alu (aluAdd a i) rfl rfl, alu (aluSub a b) rfl rfl, ?_, exec_aluFlags (x := aluSub a i) ready rfl rfl,
    alu (aluBits (a &&& b)) rfl rfl, alu (aluBits (a ||| b)) rfl rfl, alu (aluBits (a ^^^ b)) rfl rfl, alu (aluBits (a &&& z)) rfl rfl,
    alu (aluBits (a ||| z)) rfl rfl, alu (aluBits (a ^^^ z)) rfl rfl, ?_, ?_, ?_, fun short => ⟨?_, ?_, ?_⟩⟩
  · obtain ⟨u, t, ran, settles, done⟩ := exec_aluFlags ready (i := .tCmp st ra rb) rfl rfl
    exact ⟨u, t, ran, settles, done.2.1, done⟩
  · obtain ⟨u, t, ran, settles, done⟩ := alu (i := .tShl st rd ra rb) _ rfl rfl
    exact ⟨u, t, ran, settles, byShl done⟩
  · obtain ⟨u, t, ran, settles, done⟩ := alu (i := .tShr st rd ra rb) _ rfl rfl
    exact ⟨u, t, ran, settles, byShr done⟩
  · obtain ⟨u, t, ran, settles, done⟩ := alu (i := .tAsr st rd ra rb) _ rfl rfl
    exact ⟨u, t, ran, settles, byAsr done⟩
  · obtain ⟨u, t, ran, settles, done⟩ := exec_aluImm ready (i := .tShli st rd ra imm) rfl short rfl
    exact ⟨u, t, ran, settles, byShl done⟩
  · obtain ⟨u, t, ran, settles, done⟩ := exec_aluImm ready (i := .tShri st rd ra imm) rfl short rfl
    exact ⟨u, t, ran, settles, byShr done⟩
  · obtain ⟨u, t, ran, settles, done⟩ := exec_aluImm ready (i := .tAsri st rd ra imm) rfl short rfl
    exact ⟨u, t, ran, settles, byAsr done⟩

/-- Settles O19: the product and the constants fit in a word. -/
theorem productsConstantsAndTime : Obligations.ProductsConstantsAndTime := by
  intro s st ready rd ra rb imm
  refine ⟨?_, ?_, ?_, exec_load ready rfl rfl⟩
  · obtain ⟨u, t, ran, settles, done⟩ := exec_alu ready (i := .tMul16 st rd ra rb) rfl rfl
    exact ⟨u, t, ran, settles, _, mul16_toNat _ _, done⟩
  · obtain ⟨u, t, ran, settles, done⟩ := exec_load ready (i := .tLdi st rd imm) rfl rfl
    exact ⟨u, t, ran, settles, _, ldi_toNat imm, done⟩
  · obtain ⟨u, t, ran, settles, done⟩ := exec_load ready (i := .tLui st rd imm) rfl rfl
    exact ⟨u, t, ran, settles, _, lui_toNat imm, done⟩
end

section
/-! PROOFS. Memory, measurement and control: words and blocks of the shared data, channels, branches, calls, and what retires without an effect. -/

-- The proofs of this section are elaborated one after another: the text is compiled as one, and its threads stand near the memory limit.
set_option deprecated.oldSectionVars true

namespace Sys2Proof.Machine
open Sys2Proof

/- Channels. -/

section
variable {s : State} {st : Stl} {rd : RegN}

/-- The fields that JUDGE's zone writes. -/
def zoneFlds : List Fld := [Hid.S_Z, Hid.S_N, Hid.S_C]

theorem sameApart_zoneFlags {zone : Nat} : SameApart zoneFlds s (s.zoneFlags st zone) :=
  ((SameApart.refl.mark (by decide)).mark (by decide)).mark (by decide)

/-- Z, N and C of a zone (R203). -/
theorem judgeFlags_eq (zone : Nat) : judgeFlags zone = (zone == 0, zone == 2 || zone == 4, zone == 1 || zone == 2) := by
  unfold judgeFlags
  split
  case h_5 n0 n1 n2 n4 => simp_all
  all_goals rfl

theorem zoneFlags_flags {zone : Nat} : (s.zoneFlags st zone).is Hid.S_Z st = (zone == 0) ∧
    (s.zoneFlags st zone).is Hid.S_N st = (zone == 2 || zone == 4) ∧ (s.zoneFlags st zone).is Hid.S_C st = (zone == 1 || zone == 2) := by
  simp (disch := decide) only [State.zoneFlags, judgeFlags_eq, is_mark_apart, is_mark_stl, and_self]

theorem changes_zoneFlags {u : State} {zone : Nat} {l : List Nat} (h : Changes s u l) (hk : ∀ k ∈ [Hid.S_Z.key st, Hid.S_N.key st, Hid.S_C.key st], k ∈ l) :
    Changes s (u.zoneFlags st zone) l :=
  changes_mark _ _ _ _ _ _ (changes_mark _ _ _ _ _ _ (changes_mark _ _ _ _ _ _ h (hk _ (by simp))) (hk _ (by simp))) (hk _ (by simp))

/-- An instruction that loads a word and judges a zone. -/
def Judged (s : State) (st : Stl) (rd : RegN) (v : Word) (zone : Nat) (u : State) : Prop :=
  u.reg st rd = landed rd v ∧ u.is Hid.S_Z st = (zone == 0) ∧ u.is Hid.S_N st = (zone == 2 || zone == 4) ∧
    u.is Hid.S_C st = (zone == 1 || zone == 2) ∧ u.pc st = s.pc st + 1 ∧
    Changes s u (pcKeys st ++ [Hid.S_Z.key st, Hid.S_N.key st, Hid.S_C.key st] ++ regKeys st rd)

theorem judged_retire {v : Word} {zone : Nat} (inside : s.pc st < 0x1FFF) :
    Judged s st rd v zone (((s.setReg st rd v).zoneFlags st zone).retire st) := by
  have retired := sameApart_retireAt ((s.setReg st rd v).zoneFlags st zone) st (((s.setReg st rd v).zoneFlags st zone).pc st + 1)
  have pc : (s.setReg st rd v).pc st = s.pc st := (sameApart_setReg s st rd v).get (by decide)
  obtain ⟨z, n, c⟩ := zoneFlags_flags (s := s.setReg st rd v) (st := st) (zone := zone)
  refine ⟨?_, (retired.is (by decide)).trans z, (retired.is (by decide)).trans n, (retired.is (by decide)).trans c, ?_, ?_⟩
  · rw [State.retire, retired.reg (by decide), sameApart_zoneFlags.reg (by decide), State.reg_setReg]
  · exact (sameApart_zoneFlags.pc_retire (pc.symm ▸ inside) (by decide)).trans (by rw [pc])
  · refine changes_retire (changes_zoneFlags (changes_setReg _ _ _ _ _ _ (changes_refl s _) ?_) ?_) ?_
    all_goals simp +contextual

end

/- Words and blocks of the shared data. -/

section
variable {m m' : List Host.Cell} {a b n : Nat}

/-- A word is its four bytes. -/
theorem wordAt_congr (h : ∀ k, a ≤ k → k < a + 4 → Cells.look m k = Cells.look m' k) : wordAt m a = wordAt m' a := by
  have bytes : bytesAt m a 4 = bytesAt m' a 4 :=
    List.map_congr_left fun i hi => h _ (Nat.le_add_right a i) (Nat.add_lt_add_left (List.mem_range.1 hi) a)
  rw [wordAt, leAt, bytes, wordAt, leAt]

theorem wordAt_storeWord_apart {v : Word} (h : b + 4 ≤ a ∨ a + 4 ≤ b) : wordAt (storeWord m a v) b = wordAt m b :=
  wordAt_congr fun k _ _ => look_storeWord m a k v (by omega)

/-- n words stored one by one in ascending order, each worked out from the memory as the ones before it have left it. -/
def fillWords (f : List Host.Cell → Nat → Word) (m : List Host.Cell) (dst n : Nat) : List Host.Cell :=
  (List.range n).foldl (fun m i => storeWord m (dst + 4 * i) (f m i)) m

variable {f : List Host.Cell → Nat → Word} {dst : Nat}

theorem fillWords_succ : fillWords f m dst (n + 1) = storeWord (fillWords f m dst n) (dst + 4 * n) (f (fillWords f m dst n) n) := by
  simp only [fillWords, List.range_succ, List.foldl_append, List.foldl_cons, List.foldl_nil]

/-- No byte outside the block changes. -/
theorem look_fillWords (h : b < dst ∨ dst + 4 * n ≤ b) : Cells.look (fillWords f m dst n) b = Cells.look m b := by
  induction n with
  | zero => rfl
  | succ n ih => rw [fillWords_succ, look_storeWord _ _ _ _ (by omega), ih (by omega)]

theorem wordAt_fillWords_outside (h : b + 4 ≤ dst ∨ dst + 4 * n ≤ b) : wordAt (fillWords f m dst n) b = wordAt m b :=
  wordAt_congr fun k _ _ => look_fillWords (by omega)

/-- A word of the block stays as it was stored. -/
theorem wordAt_fillWords {i : Nat} (h : i < n) : wordAt (fillWords f m dst n) (dst + 4 * i) = f (fillWords f m dst i) i := by
  induction n with
  | zero => exact absurd h (Nat.not_lt_zero i)
  | succ n ih =>
    rw [fillWords_succ]
    rcases Nat.lt_succ_iff_lt_or_eq.1 h with before | rfl
    · rw [wordAt_storeWord_apart (by omega), ih before]
    · exact wordAt_storeWord _ _ _

theorem copyWords_eq {src : Nat} : copyWords m dst src n = fillWords (fun m i => wordAt m (src + 4 * i)) m dst n := rfl

theorem measWords_eq {s : State} {c : Nat} : s.measWords dst c n = fillWords (fun _ i => s.chData (c + i)) s.sdata dst n := rfl

theorem copyFaults_none {src : Nat} (hd : dst % 4 = 0) (hs : src % 4 = 0) (fitd : dst + 4 * n ≤ 0x10000) (fits : src + 4 * n ≤ 0x10000)
    (apart : dst + 4 * n ≤ src ∨ src + 4 * n ≤ dst) : firstWhy (copyFaults dst src n) = 0 := by
  have short : n ≤ 16384 := by omega
  have clear : overlap dst src n = false := by
    rw [overlap, Bool.and_eq_false_iff, decide_eq_false_iff_not, decide_eq_false_iff_not]
    omega
  simp [copyFaults, firstWhy, aligned_of hd, aligned_of hs, inside_of fitd, inside_of fits, clear, short]

theorem measFaults_none {c : Nat} (hd : dst % 4 = 0) (fit : dst + 4 * n ≤ 0x10000) (channels : c + n ≤ 192) :
    firstWhy (measFaults dst c n) = 0 := by
  have past : (decide (192 < n) || decide (192 < c + n)) = false := by
    rw [Bool.or_eq_false_iff, decide_eq_false_iff_not, decide_eq_false_iff_not]
    omega
  exact (firstWhy_miss (aligned_of hd)).trans ((firstWhy_miss (inside_of fit)).trans (firstWhy_miss past))

end

section
variable {s : State} {st : Stl} {n : Nat} {l : List (Bool × Nat)} {f : State → State}

theorem retire_setSdata (s : State) (m : List Host.Cell) (st : Nat) : { s with sdata := m }.retire st = { s.retire st with sdata := m } := by
  have put (s : State) (f : Fld) (n v : Nat) : { s with sdata := m }.put f n v = { s.put f n v with sdata := m } := by
    unfold State.put
    split <;> rfl
  exact (congrArg (fun t : State => t.put Hid.S_SHBAD st 0) (put s Hid.S_PC st (s.pc st + 1))).trans (put _ Hid.S_SHBAD st 0)

theorem retire_sdata (s : State) (st : Nat) : (s.retire st).sdata = s.sdata := by rw [State.retire, State.retireAt, State.put_sdata, State.put_sdata]

/-- Shared data stored by an instruction that retires, outside which no byte changes. -/
theorem stored_retire {m : List Host.Cell} {a : Nat} (inside : s.pc st < 0x1FFF)
    (kept : ∀ b, b < a ∨ a + 4 * n ≤ b → Cells.look m b = Cells.look s.sdata b) :
    Stored s st a n ({ s with sdata := m }.retire st) ∧ ({ s with sdata := m }.retire st).sdata = m := by
  have same : { s.retire st with sdata := s.sdata } = s.retire st := by rw [← retire_sdata s st]
  have frame : Changes s { s.retire st with sdata := s.sdata } (pcKeys st) := by
    rw [same]
    exact changes_retire (changes_refl s _) fun _ hk => hk
  rw [retire_setSdata]
  exact ⟨⟨pc_retire inside, kept, frame⟩, rfl⟩

/-- A block instruction that runs. -/
theorem block_runs (inside : s.pc st < 0x1FFF) (some : 0 < n) (none : firstWhy l = 0) :
    (if n == 0 then s.plain st id else s.unlessFault st false l f) = f s :=
  (if_neg (by simpa using some.ne')).trans (unlessFault_runs rfl inside none)

/-- A block instruction with a count of 0 (R212). -/
theorem block_passes (inside : s.pc st < 0x1FFF) (none : n = 0) :
    Passed s st (s.pc st + 1) (if n == 0 then s.plain st id else s.unlessFault st false l f) := by
  rw [if_pos (beq_iff_eq.2 none), s.plain_run st id inside]
  exact passed_retire inside

end

/- Branches and calls. -/

section
variable {s : State} {st : Stl} {t : Int} {l : List (Bool × Nat)} {f : State → State} {code : Nat}

theorem badTarget_false (low : 0 ≤ t) (high : t ≤ 0x1FFF) : badTarget t = false := by
  simp only [badTarget, Bool.or_eq_false_iff, decide_eq_false_iff_not]
  omega

theorem badTarget_true (h : t < 0 ∨ 0x1FFF < t) : badTarget t = true := by simpa [badTarget] using h

/-- A transfer that is taken, and faults in no way, retires at its target. -/
theorem branchTo_taken (fits : badTarget t = false) (none : firstWhy l = 0) : s.branchTo st true t l f = (f s).retireAt st t.toNat := by
  simp [State.branchTo, firstWhy_miss fits, none]

theorem branchTo_faults (h : firstWhy ((badTarget t, 2) :: l) = code) (faulty : code ≠ 0) : s.branchTo st true t l f = s.progFault st code := by
  cases code with
  | zero => exact absurd rfl faulty
  | succ code => simp only [State.branchTo, if_true, h]

/-- A transfer that is not taken before the last word leads to the next instruction. -/
theorem branchTo_untaken (inside : s.pc st < 0x1FFF) : s.branchTo st false t l f = s.retire st := by
  have next : s.atLast st = false := beq_eq_false_iff_ne.2 inside.ne
  simp [State.branchTo, firstWhy, next]

/-- A call that is taken: the return address stands on the call stack. -/
theorem called_retireAt {a pc : Nat} (short : pc ≤ 0x1FFF) (room : s.depth st < 8) (word : a ≤ 0x1FFF) :
    let u := (s.pushCall st a).retireAt st pc
    u.pc st = pc ∧ u.get Hid.S_CSD st = s.depth st + 1 ∧ u.get Hid.S_CS (8 * st + s.depth st) = a ∧
      Changes s u (pcKeys st ++ [Hid.S_CSD.key st, Hid.S_CS.key (8 * st + s.depth st)]) := by
  have one : st.val < 4 := st.isLt
  have entry : 8 * st.val + s.depth st < Hid.S_CS.count := show _ < 32 by omega
  have retired := sameApart_retireAt (s.pushCall st a) st pc
  refine ⟨pc_retireAt short, ?_, ?_, changes_retireAt _ _ _ _ _ ?_ fun _ => List.mem_append_left _⟩
  · rw [retired.get (by decide), State.pushCall, get_put_stl _ Hid.S_CSD _ _ rfl]
    exact Nat.mod_eq_of_lt (show s.depth st + 1 < 2 ^ 4 by omega)
  · rw [retired.get (by decide), State.pushCall, State.get_put_apart _ _ _ _ _ _ (by decide), State.get_put_self _ _ _ _ entry]
    exact Nat.mod_eq_of_lt (show a < 2 ^ 13 by omega)
  · exact changes_put _ _ _ _ _ _ (changes_put _ _ _ _ _ _ (changes_refl s _) (by simp)) (by simp)

/-- A return: the call stack is one entry lower. -/
theorem returned_retireAt {pc : Nat} (short : pc ≤ 0x1FFF) (depth : s.depth st ≤ 8) :
    let u := (s.put Hid.S_CSD st (s.depth st - 1)).retireAt st pc
    u.pc st = pc ∧ u.get Hid.S_CSD st = s.depth st - 1 ∧ Changes s u (pcKeys st ++ [Hid.S_CSD.key st]) := by
  refine ⟨pc_retireAt short, ?_, changes_retireAt _ _ _ _ _ (changes_put _ _ _ _ _ _ (changes_refl s _) (by simp)) fun _ => List.mem_append_left _⟩
  rw [(sameApart_retireAt _ _ _).get (by decide), get_put_stl _ Hid.S_CSD _ _ rfl]
  exact Nat.mod_eq_of_lt (show s.depth st - 1 < 2 ^ 4 by omega)

theorem halted_retire (inside : s.pc st < 0x1FFF) : let u := (s.setSl st slHalt).retire st
    u.sl st = slHalt ∧ u.pc st = s.pc st + 1 ∧ Changes s u (pcKeys st ++ [Reg.STL_STAT_STATE.key st]) := by
  refine ⟨?_, ?_, ?_⟩
  · rw [State.sl, State.retire, (sameApart_retireAt _ _ _).get (by decide), State.setSl, get_put_stl _ Reg.STL_STAT_STATE _ _ rfl]
    rfl
  · have stateOnly : SameApart [Reg.STL_STAT_STATE] s (s.setSl st slHalt) := SameApart.refl.put (by decide)
    exact stateOnly.pc_retire inside (by decide)
  · exact changes_retire (changes_put _ _ _ _ _ _ (changes_refl s _) (by simp)) fun _ => List.mem_append_left _

end
end Sys2Proof.Machine

open Sys2Proof Sys2Proof.Machine

/-- Settles O20: an address within the memory and on a word is no fault, and the word stored there reads back. -/
theorem loadAndStoreWords : Obligations.LoadAndStoreWords := by
  intro s st ready rd ra imm a
  obtain ⟨executes, unarmed, inside⟩ := ready
  have fault {i : Instr} {code : Nat} (runs : exec i s = tar st s (opOf i)) := exec_faults (code := code) executes unarmed runs
  refine ⟨fun aligned fits => ?_, fun mis => ?_, fun aligned far => ?_⟩
  · have none : firstWhy [(misaligned a, 3), (outside a 1, 4)] = 0 :=
      (firstWhy_miss (aligned_of aligned)).trans (firstWhy_miss (inside_of (by omega)))
    constructor
    · refine exec_leaves executes unarmed rfl ?_
      have acts : opOf (.tLd st rd ra imm) s = (s.setReg st rd (wordAt s.sdata a)).retire st := by
        simp only [opOf, opLd]
        exact unlessFault_runs rfl inside none
      rw [acts]
      exact loaded_retire inside
    · have acts : opOf (.tSt st rd ra imm) s = { s with sdata := storeWord s.sdata a (s.reg st rd) }.retire st := by
        simp only [opOf, opSt]
        refine (unlessFault_runs rfl inside none).trans ?_
        simp only [unarmed, Bool.false_eq_true, if_false]
        rfl
      obtain ⟨stored, mem⟩ := stored_retire (m := storeWord s.sdata a (s.reg st rd)) (a := a) (n := 1) inside
        fun b hb => look_storeWord _ _ _ _ hb
      refine exec_leaves (P := fun u => wordAt u.sdata a = s.reg st rd ∧ Stored s st a 1 u) executes unarmed rfl ?_
      rw [acts]
      exact ⟨by rw [mem, wordAt_storeWord], stored⟩
  · have why : firstWhy [(misaligned a, 3), (outside a 1, 4)] = 3 := firstWhy_hit (misaligned_of mis)
    refine ⟨fault rfl ?_, fault rfl ?_⟩
    all_goals
      simp only [opOf, opLd, opSt]
      exact unlessFault_meets rfl inside why (by decide)
  · have why : firstWhy [(misaligned a, 3), (outside a 1, 4)] = 4 :=
      (firstWhy_miss (aligned_of aligned)).trans (firstWhy_hit (outside_of (by omega)))
    refine ⟨fault rfl ?_, fault rfl ?_⟩
    all_goals
      simp only [opOf, opLd, opSt]
      exact unlessFault_meets rfl inside why (by decide)

/-- Settles O21: either instruction fills the destination word by word, and COPYB's source stays clear of what it has filled. -/
theorem blocksCopiedAndMeasured : Obligations.BlocksCopiedAndMeasured := by
  intro s st ready rd ra rb dst src n
  obtain ⟨executes, unarmed, inside⟩ := ready
  refine ⟨fun some hd hs fitd fits apart => ?_, fun some hd fit channels => ?_⟩
  · have acts : opOf (.tCopyb st rd ra rb) s = { s with sdata := copyWords s.sdata dst src n }.retire st :=
      block_runs inside some (copyFaults_none hd hs fitd fits apart)
    obtain ⟨stored, mem⟩ := stored_retire (m := copyWords s.sdata dst src n) inside fun b hb => look_fillWords hb
    refine exec_leaves executes unarmed rfl ?_
    rw [acts]
    refine ⟨fun i hi => ?_, stored⟩
    rw [mem, copyWords_eq, wordAt_fillWords hi, wordAt_fillWords_outside (by omega)]
  · have acts : opOf (.tMeasb st rd ra rb) s = { s with sdata := s.measWords dst src n }.retire st :=
      block_runs inside some (measFaults_none hd fit channels)
    obtain ⟨stored, mem⟩ := stored_retire (m := s.measWords dst src n) inside fun b hb => look_fillWords hb
    refine exec_leaves executes unarmed rfl ?_
    rw [acts]
    refine ⟨fun i hi => ?_, stored⟩
    rw [mem, measWords_eq, wordAt_fillWords hi]

/-- Settles O22: a channel that there is loads, and its zone gives JUDGE's flags. -/
theorem channelsMeasuredAndJudged : Obligations.ChannelsMeasuredAndJudged := by
  intro s st ready rd ra imm c zone
  obtain ⟨executes, unarmed, inside⟩ := ready
  have fault {i : Instr} (runs : exec i s = tar st s (opOf i)) := exec_faults (code := 7) executes unarmed runs
  refine ⟨fun channel => ⟨?_, ?_⟩, fun past => ?_⟩
  · have none : firstWhy [(decide (191 < c), 7)] = 0 := firstWhy_miss (decide_eq_false (not_lt.2 channel))
    refine exec_leaves executes unarmed rfl ?_
    have acts : opOf (.tMeas st rd ra imm) s = (s.setReg st rd (s.word Reg.CH_DATA_VALUE c)).retire st := by
      simp only [opOf, opMeas]
      exact unlessFault_runs rfl inside none
    rw [acts]
    exact loaded_retire inside
  · have none : firstWhy [(decide (191 < c), 7)] = 0 := firstWhy_miss (decide_eq_false (not_lt.2 channel))
    have acts : opOf (.tJudge st rd ra imm) s = ((s.setReg st rd (s.chData c)).zoneFlags st zone).retire st := by
      simp only [opOf, opJudge]
      exact unlessFault_runs rfl inside none
    refine exec_leaves (P := Judged s st rd (s.chData c) zone) executes unarmed rfl ?_
    rw [acts]
    exact judged_retire inside
  · have why : firstWhy [(decide (191 < c), 7)] = 7 := firstWhy_hit (decide_eq_true past)
    refine ⟨fault rfl ?_, fault rfl ?_⟩
    all_goals
      simp only [opOf, opMeas, opJudge]
      exact unlessFault_meets rfl inside why (by decide)

/-- Settles O23: a transfer is taken or not, and its target lies in the memory or not. -/
theorem controlTransfers : Obligations.ControlTransfers := by
  intro s st executes unarmed cond off ra a t taken d
  have fault {i : Instr} {code : Nat} (runs : exec i s = tar st s (opOf i)) := exec_faults (code := code) executes unarmed runs
  have br (c : Bool) (h : taken = c) : opOf (.tBr st cond off) s = s.branchTo st c t [] id := by rw [← h]; rfl
  have call (c : Bool) (h : taken = c) :
      opOf (.tCall st cond off) s = s.branchTo st c t [(d == 8, 5)] (fun s => s.pushCall st (s.pc st + 1)) := by rw [← h]; rfl
  have target (h : t ≤ 0x1FFF) : t.toNat ≤ 0x1FFF := by omega
  refine ⟨fun go low high => ⟨?_, fun room inside => ?_, fun full => ?_⟩, fun go far => ⟨?_, ?_⟩, fun stay inside => ⟨?_, ?_⟩, fun some depth word => ?_,
    fun empty => ?_, fun near => ?_, fun far => ?_⟩
  · refine exec_leaves executes unarmed rfl ?_
    rw [br true go, branchTo_taken (badTarget_false low high) rfl]
    exact passed_retireAt (target high)
  · have free : firstWhy [(d == 8, 5)] = 0 := firstWhy_miss (beq_eq_false_iff_ne.2 room.ne)
    refine exec_leaves executes unarmed rfl ?_
    rw [call true go, branchTo_taken (badTarget_false low high) free]
    exact called_retireAt (target high) room inside
  · refine fault rfl ((call true go).trans (branchTo_faults ?_ (by decide)))
    exact (firstWhy_miss (badTarget_false low high)).trans (firstWhy_hit (beq_iff_eq.2 full))
  · exact fault rfl ((br true go).trans (branchTo_faults (firstWhy_hit (badTarget_true far)) (by decide)))
  · exact fault rfl ((call true go).trans (branchTo_faults (firstWhy_hit (badTarget_true far)) (by decide)))
  · refine exec_leaves executes unarmed rfl ?_
    rw [br false stay, branchTo_untaken inside]
    exact passed_retire inside
  · refine exec_leaves executes unarmed rfl ?_
    rw [call false stay, branchTo_untaken inside]
    exact passed_retire inside
  · have deep : (s.depth st == 0) = false := beq_eq_false_iff_ne.2 some.ne'
    have acts : opOf (.tRet st) s = (s.put Hid.S_CSD st (d - 1)).retireAt st (s.get Hid.S_CS (8 * st + (d - 1))) :=
      if_neg (Bool.eq_false_iff.1 deep)
    refine exec_leaves executes unarmed rfl ?_
    rw [acts]
    exact returned_retireAt word depth
  · exact fault rfl (if_pos (beq_iff_eq.2 empty))
  · refine exec_leaves executes unarmed rfl ?_
    have acts : opOf (.tJr st ra) s = s.retireAt st (s.reg st ra).toNat := branchTo_taken (badTarget_false (by omega) (by omega)) rfl
    rw [acts]
    exact passed_retireAt near
  · refine fault rfl (branchTo_faults (firstWhy_hit (badTarget_true ?_)) (by decide))
    omega

/-- Settles O24: a count of 0 comes before every fault of the block, and HALT writes the identity's state. -/
theorem zeroCountsDoNothingAndHaltStops : Obligations.ZeroCountsDoNothingAndHaltStops := by
  constructor
  · rintro s st ⟨executes, unarmed, inside⟩ rd ra rb zero
    have none : (s.reg st rb).toNat = 0 := by rw [zero]; rfl
    exact ⟨exec_leaves executes unarmed rfl (block_passes inside none), exec_leaves executes unarmed rfl (block_passes inside none),
      exec_leaves executes unarmed rfl (block_passes inside none)⟩
  · rintro s st ⟨executes, unarmed, inside⟩
    refine exec_leaves executes unarmed rfl ?_
    have acts : opOf (.tHalt st) s = (s.setSl st slHalt).retire st := s.plain_run st _ inside
    rw [acts]
    exact halted_retire inside
end

section
/-! PROOFS. Side effects that are new to their completers: what the issue leaves, confirmations and refusals, and the instructions that issue them. -/

-- The proofs of this section are elaborated one after another: the text is compiled as one, and its threads stand near the memory limit.
set_option deprecated.oldSectionVars true

namespace Sys2Proof.Machine
open Sys2Proof

/- What an issue leaves. -/

/-- The fields that an issue writes. -/
def issueFlds : List Fld := [Hid.S_REF, Hid.S_PC, Hid.S_SHBAD, Hid.CP_V, Hid.CP_ISN, Hid.CP_REF, Hid.CP_DAT, Hid.S_ISN]

/-- The fields that a new record of a completer writes. -/
def recordFlds : List Fld := [Hid.CP_V, Hid.CP_ISN, Hid.CP_REF, Hid.CP_DAT]

theorem SameApart.newRecord {l : List Fld} {s t : State} (h : SameApart l s t) {n c : Nat} (hl : recordFlds ⊆ l) :
    SameApart l s (t.newRecord n c) :=
  (((h.put (hl (by decide))).put (hl (by decide))).put (hl (by decide))).put (hl (by decide))

section
variable (s : State) (st : Stl) (c : Nat)

theorem sameApart_issue : SameApart issueFlds s (s.issue st c) :=
  (((SameApart.refl.put (by decide)).retire (by decide) (by decide)).newRecord (by decide)).put (by decide)

theorem issue_staging : (s.issue st c).staging = s.staging := by
  simp only [State.issue, State.newRecord, State.retire, State.retireAt, State.put_staging]

theorem issue_sdata : (s.issue st c).sdata = s.sdata := by
  simp only [State.issue, State.newRecord, State.retire, State.retireAt, State.put_sdata]

theorem issue_gap : (s.issue st c).gap = s.gap := by simp only [State.issue, State.newRecord, State.retire, State.retireAt, State.put_gap]

theorem issue_mail : (s.issue st c).mail = s.mail := by simp only [State.issue, State.newRecord, State.retire, State.retireAt, State.put_mail]

/-- A new record of a completer, under an issue number. -/
theorem sameApart_recorded (isn : Nat) : SameApart (Hid.S_ISN :: recordFlds) s ((s.newRecord st c).put Hid.S_ISN st isn) :=
  (SameApart.refl.newRecord (by decide)).put (by decide)

variable {s st c}

theorem issue_ref : (s.issue st c).is Hid.S_REF st = false := by
  have put : (s.put Hid.S_REF st 0).get Hid.S_REF st = 0 := get_put_stl s Hid.S_REF st 0 rfl
  have retired : ((s.put Hid.S_REF st 0).retire st).get Hid.S_REF st = 0 := ((sameApart_retireAt _ st _).get (by decide)).trans put
  exact is_of_get (((sameApart_recorded _ st c _).get (by decide)).trans retired)

theorem issue_pc (inside : s.pc st < 0x1FFF) : (s.issue st c).pc st = s.pc st + 1 := by
  have unrefused : SameApart [Hid.S_REF] s (s.put Hid.S_REF st 0) := SameApart.refl.put (by decide)
  exact ((sameApart_recorded _ st c _).get (by decide)).trans (unrefused.pc_retire inside (by decide))

end

/- What a completer answers. -/

section
variable {s u : State} {st : Stl} {c d : Nat} {f : State → Answer} {g : Bool → Nat → State → State}

/-- A confirmed answer with data, as the completer records it (R175). -/
def State.answered (u : State) (st : Stl) (c d : Nat) : State := if d = 0 then u else u.put Hid.CP_DAT (4 * c + st) d

theorem answered_none : u.answered st c 0 = u := if_pos rfl

theorem complete1_confirmed (new : s.reissue st c = false)
    (answers : f ((s.newRecord st c).put Hid.S_ISN st (s.nextIsn st)) = { refused := false, data := d, after := u }) :
    s.complete1 st c f = { refused := false, data := d, after := u.answered st c d } := by
  simp only [State.complete1, new, answers, Bool.false_eq_true, if_false, State.ifDo_false]
  by_cases none : d = 0 <;> simp [State.answered, none, State.ifDo]

theorem newRecord_retired_eq_issue :
    (((s.put Hid.S_REF st 0).retire st).newRecord st c).put Hid.S_ISN st (((s.put Hid.S_REF st 0).retire st).nextIsn st) = s.issue st c := by
  rw [nextIsn_retire, State.issue]

theorem sideEffect_confirmed (new : New s st c) (answers : f (s.issue st c) = { refused := false, data := d, after := u }) :
    s.sideEffect st c f g = g false d (u.answered st c d) := by
  have fresh : ((s.put Hid.S_REF st 0).retire st).reissue st c = false := (reissue_retire s st c).trans new
  rw [State.sideEffect, complete1_confirmed fresh (newRecord_retired_eq_issue ▸ answers), State.ifDo_false]

theorem sideEffect_denied (new : New s st c) (answers : f (s.issue st c) = { refused := true, data := 0, after := u }) :
    s.sideEffect st c f g = g true 0 ((u.put Hid.CP_REF (4 * c + st) 1).put Hid.S_REF st 1) := by
  have fresh : ((s.put Hid.S_REF st 0).retire st).reissue st c = false := (reissue_retire s st c).trans new
  simp only [State.sideEffect, State.complete1, fresh, newRecord_retired_eq_issue, answers, Bool.false_eq_true, if_false, State.ifDo_true, bne_self_eq_false,
    State.ifDo_false]

end

section
variable {s u : State} {st : Stl} (ready : Ready s st) {c d : Nat} (new : New s st c) {i : Instr} {f : State → Answer} {g : Bool → Nat → State → State}
  {l : List (Bool × Nat)} (runs : exec i s = tar st s (opOf i)) (none : firstWhy l = 0)
  (acts : opOf i s = s.unlessFault st false l fun s => s.sideEffect st c f g)
include ready new runs none acts

/-- An instruction whose side effect, new to its completer, is confirmed with data. -/
theorem exec_confirmed (answers : f (s.issue st c) = { refused := false, data := d, after := u }) :
    ∃ t, exec i s = .next t ∧ Settles (g false d (u.answered st c d)) t := by
  obtain ⟨executes, unarmed, inside⟩ := ready
  refine exec_acts executes unarmed runs (acts.trans ?_)
  rw [unlessFault_runs rfl inside none, sideEffect_confirmed new answers]

/-- An instruction whose side effect, new to its completer, is refused. -/
theorem exec_denied (answers : f (s.issue st c) = { refused := true, data := 0, after := u }) :
    ∃ t, exec i s = .next t ∧ Settles (g true 0 ((u.put Hid.CP_REF (4 * c + st) 1).put Hid.S_REF st 1)) t := by
  obtain ⟨executes, unarmed, inside⟩ := ready
  refine exec_acts executes unarmed runs (acts.trans ?_)
  rw [unlessFault_runs rfl inside none, sideEffect_denied new answers]

end

section
variable {s : State} {st : Stl} (ready : Ready s st) {c : Nat} (new : New s st c) {i : Instr} {f : State → Answer}
  (runs : exec i s = tar st s (opOf i)) (acts : opOf i s = s.unlessFault st false [] fun s => s.sideEffect st c f fun _ _ s => s)
include ready new runs acts

/-- A side effect without data, confirmed in the state that it leads to. -/
theorem exec_confirms (u : State) (answers : f (s.issue st c) = confirm u) : ∃ t, exec i s = .next t ∧ Settles u t := by
  have done := exec_confirmed ready new runs rfl acts answers
  rwa [answered_none] at done

/-- A side effect that its completer refuses with a Ledger source raised. -/
theorem exec_refuses (src : Nat) (answers : f (s.issue st c) = (s.issue st c).refuse src) :
    ∃ t, exec i s = .next t ∧ Settles ((s.issue st c).refusedBy st c src) t :=
  have ⟨t, ran, settles⟩ := exec_denied ready new runs rfl acts answers
  ⟨t, ran, settles⟩

end

/- Ports. -/

section
variable {s : State} {st : Stl} {a v : Nat}

/-- The register at an address is a word's. -/
theorem word_of_word (word : a % 4 = 0) (short : a < 2 ^ 16) : a / 4 * 4 % 65536 = a := by omega

/-- A read that does not act, of anything but a running timer's count. -/
theorem busRead_plain (word : a % 4 = 0) (short : a < 2 ^ 16) (idle : actsOnRead a = false)
    (still : ∀ n, cntTimer a = some n → s.tmRun n = false) : s.busRead (.stl st) a = (s.peek a, s) := by
  obtain ⟨claim, seen⟩ : (0x5540 ≤ a → 0x555C ≤ a) ∧ (0xC000 ≤ a → a % 0x400 ≠ 0x3FC) := by simpa [actsOnRead] using idle
  have unclaimed : ¬ (0x5540 ≤ a ∧ a < 0x555C) := fun h => absurd (claim h.1) (not_le.2 h.2)
  simp only [State.busRead, word_of_word word short, isStall, if_true, Bool.and_eq_true, decide_eq_true_eq, unclaimed, if_false]
  by_cases window : 0xC000 ≤ a
  · have unseen : (a % 0x400 == 0x3FC) = false := beq_eq_false_iff_ne.2 (seen window)
    simp [window, State.peek, State.dbkSeen, unseen, State.ifDo]
  · cases timer : cntTimer a with
    | none => simp [window]
    | some n => simp [window, still n timer]

/-- A read of a running timer's count (R363). -/
theorem busRead_running {n : Nat} (word : a % 4 = 0) (short : a < 2 ^ 16) (timer : cntTimer a = some n) (running : s.tmRun n = true) :
    s.busRead (.stl st) a = (2 ^ 32 - 1, s.put Reg.TM_STAT_RD_RUN_ERR n 1) := by
  have place : 0x5800 ≤ a ∧ a < 0x5A00 := by
    by_contra other
    simp [cntTimer] at timer
    omega
  have unclaimed : ¬ (0x5540 ≤ a ∧ a < 0x555C) := by omega
  have below : ¬ 0xC000 ≤ a := by omega
  simp [State.busRead, word_of_word word short, isStall, unclaimed, below, timer, running]

theorem actsOnRead_timer {n : Nat} (timer : cntTimer a = some n) : actsOnRead a = false := by
  simp [cntTimer] at timer
  simp [actsOnRead]
  omega

/-- A write of a stall that executes acts on the word, or is reported there. -/
theorem busWrite_stl (word : a % 4 = 0) (short : a < 2 ^ 16) (executes : s.executes st = true) :
    s.busWrite (.stl st) a v =
      if s.denied (.stl st) a v then (true, s.reportRefused (.stl st) a) else (false, s.store (.stl st) a v) := by
  have linked : s.linked (.stl st) = true := executes
  simp [State.busWrite, word_of_word word short, isStall, linked]

/-- PIN at a port address, before what retires it where it is no side effect (R195). -/
def State.pinRead (s : State) (st : Stl) (rd : RegN) (a : Nat) : State :=
  if actsOnRead a then
    let r := (s.retire st).complete1 st 1 fun s => { refused := false, data := (s.busRead (.stl st) a).1, after := (s.busRead (.stl st) a).2 }
    r.after.setReg st rd (BitVec.ofNat 32 r.data)
  else ((s.busRead (.stl st) a).2.setReg st rd (BitVec.ofNat 32 (s.busRead (.stl st) a).1)).retire st

theorem pinRead_idle {rd : RegN} (idle : actsOnRead a = false) :
    s.pinRead st rd a = ((s.busRead (.stl st) a).2.setReg st rd (BitVec.ofNat 32 (s.busRead (.stl st) a).1)).retire st :=
  if_neg (Bool.eq_false_iff.1 idle)

/-- A PIN that acts on read, new to the fabric, acts once in the state that its issue leaves (R175). -/
theorem pinRead_acts {rd : RegN} (act : actsOnRead a = true) (new : New s st 1) :
    let r := (((s.retire st).newRecord st 1).put Hid.S_ISN st (s.nextIsn st)).busRead (.stl st) a
    s.pinRead st rd a = (r.2.answered st 1 r.1).setReg st rd (BitVec.ofNat 32 r.1) := by
  intro r
  have retired := sameApart_retireAt s st (s.pc st + 1)
  have isn : (s.retire st).nextIsn st = s.nextIsn st := congrArg (fun x => (x + 1) % 2 ^ 16) (retired.get (by decide))
  have fresh : (s.retire st).reissue st 1 = false := by
    rw [State.reissue, isn]
    exact (congrArg₂ (fun x y => x && y == s.nextIsn st) (retired.is (by decide)) (retired.get (by decide))).trans new
  have answer := complete1_confirmed (f := fun s => { refused := false, data := (s.busRead (.stl st) a).1, after := (s.busRead (.stl st) a).2 })
    fresh (d := r.1) (u := r.2) (by rw [isn])
  rw [State.pinRead, if_pos act, answer]

theorem executes_issue (s : State) (st : Stl) (c : Nat) : (s.issue st c).executes st = s.executes st := by
  have same := sameApart_issue s st c
  simp (disch := decide) only [State.executes, State.runs, State.sl, State.is, same _ _]

end

/- PROG records. -/

section
variable {s : State} {st : Stl} {id mask : Nat} {user : List (BitVec 8)}

/-- The Daybook source of a log id of an identity (R156). -/
def logKey (st : Stl) (id : Nat) : Nat := 256 + 65536 * st.val + id

/-- The PROG record that an identity builds (R159, R204). -/
def State.prog (s : State) (st : Stl) (mask id : Nat) (user : List (BitVec 8)) : Record :=
  s.build tyProg (1 + s.phys st) mask 255 255 (leBytes 2 id) user

theorem logRecord_dropped (full : 16 < s.staging.length + 5 ∨ s.get Reg.DBK_STAT_TOKENS 0 = 0) :
    s.logRecord st id mask user = s.dropped.refuse 80 := by
  have drops : (decide (16 < s.staging.length + 5) || s.get Reg.DBK_STAT_TOKENS 0 == 0) = true := by simpa using full
  simp [State.logRecord, State.stageOther, drops]

section
variable (room : s.staging.length + 5 ≤ 16) (token : s.get Reg.DBK_STAT_TOKENS 0 ≠ 0)
include room token

theorem staging_open : (decide (16 < s.staging.length + 5) || s.get Reg.DBK_STAT_TOKENS 0 == 0) = false := by simp [token, room]

theorem logRecord_repeated {g : Gap} (known : s.gapOf (logKey st id) = some g) (near : s.inGap g = true) :
    s.logRecord st id mask user = confirm (s.setGap { g with rep := g.rep + 1 }) := by
  rw [logKey] at known
  simp [State.logRecord, State.stageOther, staging_open room token, known, near]

theorem logRecord_again {g : Gap} (known : s.gapOf (logKey st id) = some g) (far : s.inGap g = false) :
    s.logRecord st id mask user =
      confirm ((s.setGap { src := logKey st id, last := s.tick, rep := 0 }).append { s.prog st mask id user with rep := min 0xFFFF g.rep }) := by
  rw [logKey] at known
  simp [State.logRecord, State.stageOther, staging_open room token, known, far, logKey, State.prog]

theorem logRecord_first (unknown : s.gapOf (logKey st id) = none) :
    s.logRecord st id mask user = confirm ((s.setGap { src := logKey st id, last := s.tick, rep := 0 }).append (s.prog st mask id user)) := by
  rw [logKey] at unknown
  simp [State.logRecord, State.stageOther, staging_open room token, unknown, logKey, State.prog]

end

/-- What becomes of the PROG record of a side effect of identity st. -/
def Recorded (s : State) (st : Stl) (mask id : Nat) (user : List (BitVec 8)) (u : State) : Prop :=
  let b := s.issue st 2
  let r := b.build tyProg (1 + s.phys st) mask 255 255 (leBytes 2 id) user
  (16 < s.staging.length + 5 ∨ s.get Reg.DBK_STAT_TOKENS 0 = 0 → u = b.dropped.refusedBy st 2 80) ∧
  (s.staging.length + 5 ≤ 16 → s.get Reg.DBK_STAT_TOKENS 0 ≠ 0 →
    (∀ g, s.gapOf (logKey st id) = some g → s.inGap g = true → u = b.setGap { g with rep := g.rep + 1 }) ∧
    (∀ g, s.gapOf (logKey st id) = some g → s.inGap g = false →
      u = (b.setGap { src := logKey st id, last := s.tick, rep := 0 }).append { r with rep := min 0xFFFF g.rep }) ∧
    (s.gapOf (logKey st id) = none → u = (b.setGap { src := logKey st id, last := s.tick, rep := 0 }).append r))

/-- The staging, the tokens, the gaps and the clock are as the issue found them. -/
theorem recorded_sideEffect {f : State → Answer} (new : New s st 2) (asks : f (s.issue st 2) = (s.issue st 2).logRecord st id mask user) :
    Recorded s st mask id user (s.sideEffect st 2 f fun _ _ s => s) := by
  have same := sameApart_issue s st 2
  have length : (s.issue st 2).staging.length = s.staging.length := by rw [issue_staging]
  have tokens : (s.issue st 2).get Reg.DBK_STAT_TOKENS 0 = s.get Reg.DBK_STAT_TOKENS 0 := same.get (by decide)
  have gap (k : Nat) : (s.issue st 2).gapOf k = s.gapOf k := by rw [State.gapOf, issue_gap, State.gapOf]
  have tick : (s.issue st 2).tick = s.tick := same.get (by decide)
  have phys : (s.issue st 2).phys st = s.phys st := same.get (by decide)
  have near (g : Gap) : (s.issue st 2).inGap g = s.inGap g := by rw [State.inGap, tick, same.get (by decide), State.inGap]
  have confirmed {u : State} (answers : (s.issue st 2).logRecord st id mask user = confirm u) :
      s.sideEffect st 2 f (fun _ _ s => s) = u := sideEffect_confirmed (d := 0) new (asks.trans answers)
  refine ⟨fun full => ?_, fun room token => ⟨fun g known inside => ?_, fun g known outside => ?_, fun unknown => ?_⟩⟩
  · rw [← length, ← tokens] at full
    exact sideEffect_refused new (asks.trans (logRecord_dropped full))
  all_goals rw [← length] at room; rw [← tokens] at token
  · rw [← gap] at known
    rw [← near] at inside
    exact confirmed (logRecord_repeated room token known inside)
  · rw [← gap] at known
    rw [← near] at outside
    rw [confirmed (logRecord_again room token known outside), tick, State.prog, phys]
  · rw [← gap] at unknown
    rw [confirmed (logRecord_first room token unknown), tick, State.prog, phys]

/-- A mask that is DBK_MASK, or lies on words within the shared data, is no fault. -/
theorem maskFaults_none {ra : RegN} (fits : ra = 0 ∨ ((s.reg st ra).toNat % 4 = 0 ∧ (s.reg st ra).toNat ≤ 0xFFE8)) :
    s.maskFaults st ra = (false, false) := by
  rcases fits with rfl | ⟨aligned, low⟩
  · rfl
  · simp [State.maskFaults, aligned_of aligned, inside_of (a := (s.reg st ra).toNat) (n := 6) (by omega)]

end

/- Ledger sources. -/

section
variable {s : State} {n : Nat}

theorem raisable_issue (s : State) (st : Stl) (c n : Nat) : (s.issue st c).raisable n = s.raisable n :=
  congrArg (decide (n < 128) && ·) ((sameApart_issue s st c).is (by decide))

theorem raisable_true (low : n ≤ 127) (may : s.is Reg.LS_CFG_RAISABLE n = true) : s.raisable n = true :=
  Bool.and_eq_true_iff.2 ⟨decide_eq_true (Nat.lt_succ_of_le low), may⟩

theorem raisable_false (bad : 127 < n ∨ s.is Reg.LS_CFG_RAISABLE n = false) : s.raisable n = false :=
  Bool.and_eq_false_iff.2 (bad.imp_left fun high => decide_eq_false (not_lt.2 high))

end

/- Mailboxes. -/

section
variable {s : State} {st : Stl} {n : Nat} {v : Word}

theorem mboxPut_mail : (s.mboxPut n v).mail = s.mail ++ [(n, v)] := by
  simp only [State.mboxPut, State.wake, State.demand, State.ifDo]
  split_ifs <;> simp only [State.put_mail]

/-- A word for an identity's mailbox wakes nothing. -/
theorem mboxPut_stl (h : n ≠ 4) : s.mboxPut n v = { s with mail := s.mail ++ [(n, v)] } := by
  rw [State.mboxPut, beq_eq_false_iff_ne.2 h, State.ifDo_false]

theorem mboxSize_eq (n : Nat) : mboxSize n = if n = 4 then 16 else 8 := by simp [mboxSize]

theorem mbox_length : (s.mbox n).length = (s.mail.filter fun e => e.1 == n).length := List.length_map _

theorem mbox_issue (s : State) (st : Stl) (c n : Nat) : (s.issue st c).mbox n = s.mbox n := by rw [State.mbox, issue_mail, State.mbox]

theorem sendBad_issue (s : State) (st : Stl) (c n : Nat) : (s.issue st c).sendBad st n = s.sendBad st n := by
  rw [State.sendBad, State.mboxFull, mbox_issue, State.sl, (sameApart_issue s st c).get (by decide), State.sendBad, State.mboxFull, State.sl]

theorem sendBad_false (named : n ≤ 4) (other : n ≠ st.val) (present : n < 4 → s.sl n ≠ slAbsent)
    (room : (s.mail.filter fun e => e.1 == n).length < (if n = 4 then 16 else 8)) : s.sendBad st n = false := by
  have space : s.mboxFull n = false := by rw [State.mboxFull, mboxSize_eq, mbox_length, decide_eq_false_iff_not, not_le]; exact room
  have here : (decide (n < 4) && s.sl n == slAbsent) = false := by simpa using present
  have known : decide (4 < n) = false := decide_eq_false (not_lt.2 named)
  rw [State.sendBad, known, beq_eq_false_iff_ne.2 other, here, space]
  rfl

theorem sendBad_true (bad : 4 < n ∨ n = st.val ∨ (s.mail.filter fun e => e.1 == n).length = (if n = 4 then 16 else 8)) : s.sendBad st n = true := by
  rcases bad with unknown | own | full
  · simp [State.sendBad, unknown]
  · simp [State.sendBad, own]
  · have taken : s.mboxFull n = true := by rw [State.mboxFull, mboxSize_eq, mbox_length, full, decide_eq_true_eq]
    simp [State.sendBad, taken]

theorem receive_empty {k : Nat} (none : s.mbox n = []) : s.receive n k = { refused := false, data := 2 ^ 32, after := s } := by
  rw [State.receive, none]

theorem receive_word {k : Nat} {t : List Word} (some : s.mbox n = v :: t) :
    s.receive n k = { refused := false, data := v.toNat, after := s.ifDo (k == 0) fun s => s.mboxDrop n } := by
  rw [State.receive, some]

end

section
variable {s u : State} {st : Stl} {rd : RegN} {c d : Nat}

theorem SameApart.answered {l : List Fld} (h : SameApart l s u) (hl : Hid.CP_DAT ∈ l) : SameApart l s (u.answered st c d) := by
  show SameApart l s (if d = 0 then u else u.put Hid.CP_DAT (4 * c + st) d)
  split
  · exact h
  · exact h.put hl

theorem answered_mail : (u.answered st c d).mail = u.mail := by
  show (if d = 0 then u else u.put Hid.CP_DAT (4 * c + st) d).mail = u.mail
  split
  · rfl
  · exact State.put_mail _ _ _ _

theorem setReg_mail {v : Word} : (u.setReg st rd v).mail = u.mail := by
  show (if rd = 0 then u else u.put Hid.S_R (16 * st + rd.val) v.toNat).mail = u.mail
  split
  · rfl
  · exact State.put_mail _ _ _ _

/-- What a RECV that finds a word leaves (R209), where k is 0 of one that takes it from the mailbox. -/
def State.receivedWord (s : State) (st : Stl) (rd : RegN) (k : Nat) (v : Word) : State :=
  ((((s.issue st 4).ifDo (k == 0) fun s => s.mboxDrop st).answered st 4 v.toNat).setReg st rd v).mark Hid.S_Z st false

/-- The word lands, Z tells it, and the mailbox keeps it or not. -/
theorem receivedWord_holds {k : Nat} {v : Word} (inside : s.pc st < 0x1FFF) :
    let u := s.receivedWord st rd k v
    u.reg st rd = landed rd v ∧ u.is Hid.S_Z st = false ∧ u.pc st = s.pc st + 1 ∧ u.is Hid.S_REF st = false ∧
      u.mail = if k = 0 then s.mail.eraseP (fun e => e.1 == st.val) else s.mail := by
  intro u
  let taken := (s.issue st 4).ifDo (k == 0) fun s => s.mboxDrop st
  let recorded := taken.answered st 4 v.toNat
  have kept : SameApart [Hid.CP_DAT, Hid.S_R, Hid.S_Z] (s.issue st 4) u := by
    have took : SameApart [Hid.CP_DAT, Hid.S_R, Hid.S_Z] (s.issue st 4) taken := SameApart.refl.ifDo fun _ hu => hu.of_fld rfl
    exact ((took.answered (by decide)).setReg (by decide)).mark (by decide)
  have flag : SameApart [Hid.S_Z] (recorded.setReg st rd v) u := SameApart.refl.mark (by decide)
  refine ⟨?_, ?_, ?_, ?_, ?_⟩
  · exact (flag.reg (by decide)).trans (State.reg_setReg recorded st rd v)
  · exact is_mark_stl _ _ _ _ rfl rfl
  · exact (kept.get (by decide)).trans (issue_pc inside)
  · exact (kept.is (by decide)).trans issue_ref
  · have mail : u.mail = taken.mail := (State.put_mail _ _ _ _).trans (setReg_mail.trans answered_mail)
    rw [mail, ← issue_mail s st 4]
    by_cases first : k = 0 <;> simp [taken, first, State.ifDo, State.mboxDrop]

end
end Sys2Proof.Machine

open Sys2Proof Sys2Proof.Machine

/-- Settles O30: a read that does not act is a load; one that acts, and a write, are issued to the fabric. -/
theorem portReadsAndWrites : Obligations.PortReadsAndWrites := by
  constructor
  · intro s st ready rd ra imm a
    obtain ⟨executes, unarmed, inside⟩ := ready
    have word : a % 4 = 0 := Nat.mul_mod_left _ 4
    have short : a < 2 ^ 16 := by omega
    have pin : opOf (.tPin st rd ra imm) s = s.pinRead st rd a := by
      simp only [opOf, opPin]
      exact unlessFault_runs rfl inside rfl
    refine ⟨fun idle still => ?_, fun n timer running => ?_, fun act new => ?_⟩
    · refine exec_leaves executes unarmed rfl ?_
      rw [pin, pinRead_idle idle, busRead_plain word short idle still]
      exact loaded_retire inside
    · refine exec_acts executes unarmed rfl ?_
      rw [pin, pinRead_idle (actsOnRead_timer timer), busRead_running word short timer running]
      rfl
    · refine exec_acts executes unarmed rfl ?_
      rw [pin, pinRead_acts act new]
      rfl
  · intro s st ready new rd ra imm a v b
    have word : a % 4 = 0 := Nat.mul_mod_left _ 4
    have short : a < 2 ^ 16 := by omega
    have runs : b.executes st = true := (executes_issue s st 1).trans ready.1
    have acts : opOf (.tPout st rd ra imm) s = s.unlessFault st false [] fun s => s.sideEffect st 1
        (fun s => { refused := (s.busWrite (.stl st) a v).1, data := 0, after := (s.busWrite (.stl st) a v).2 }) fun _ _ s => s := rfl
    refine ⟨fun permitted => ?_, fun denied => ?_⟩
    · refine exec_confirms ready new rfl acts (b.store (.stl st) a v) ?_
      show Answer.mk (b.busWrite (.stl st) a v).1 0 (b.busWrite (.stl st) a v).2 = _
      rw [busWrite_stl word short runs, permitted]
      rfl
    · have answers : Answer.mk (b.busWrite (.stl st) a v).1 0 (b.busWrite (.stl st) a v).2 =
          { refused := true, data := 0, after := b.reportRefused (.stl st) a } := by
        rw [busWrite_stl word short runs, denied]
        rfl
      have ⟨t, ran, settles⟩ := exec_denied ready new rfl rfl acts answers
      exact ⟨t, ran, settles⟩

/-- Settles O33: a mask and a block that fit are no fault, so the record goes to the staging. -/
theorem programsLog : Obligations.ProgramsLog := by
  intro s st ready new rd ra rb imm b src dst n mask staged fits
  obtain ⟨executes, unarmed, inside⟩ := ready
  have mapped : s.maskFaults st ra = (false, false) := maskFaults_none fits
  refine ⟨?_, fun some few aligned within => ?_⟩
  · refine exec_leaves (P := Recorded s st mask imm.toNat (leBytes 4 dst)) executes unarmed rfl ?_
    have acts : opOf (.tLog st rd ra imm) s =
        s.sideEffect st 2 (fun s => s.logRecord st imm.toNat mask (leBytes 4 dst)) fun _ _ s => s := by
      simp only [opOf, opLog, mapped]
      exact unlessFault_runs rfl inside rfl
    rw [acts]
    exact recorded_sideEffect new rfl
  · have none : firstWhy [(misaligned dst, 3), (outside dst n, 4), (decide (30 < n), 7)] = 0 :=
      (firstWhy_miss (aligned_of aligned)).trans ((firstWhy_miss (inside_of within)).trans (firstWhy_miss (decide_eq_false (not_lt.2 few))))
    refine exec_leaves (P := Recorded s st mask (leAt s.sdata dst 2) (bytesAt s.sdata dst (4 * n))) executes unarmed rfl ?_
    have acts : opOf (.tLogb st rd ra rb) s =
        s.sideEffect st 2 (fun s => s.logRecord st (leAt s.sdata dst 2) mask (bytesAt s.sdata dst (4 * n))) fun _ _ s => s := by
      simp only [opOf, opLogb, mapped, Bool.false_or]
      exact block_runs inside some none
    rw [acts]
    exact recorded_sideEffect new (by rw [issue_sdata])

/-- Settles O34: each is issued to its completer, which confirms it or refuses it. -/
theorem eventsMailboxesAndSeal : Obligations.EventsMailboxesAndSeal := by
  intro s st ready rd ra imm n m
  have raises : opOf (.tRaise st ra imm) s = s.unlessFault st false [] fun s => s.sideEffect st 3
      (fun s => if s.raisable n then confirm (s.raise n) else s.refuse 80) fun _ _ s => s := rfl
  have sends : opOf (.tSend st rd ra imm) s = s.unlessFault st false [] fun b => b.sideEffect st 4
      (fun b => if b.sendBad st n then b.refuse 80 else confirm (b.mboxPut n (s.reg st rd))) fun _ _ s => s := rfl
  have receives : opOf (.tRecv st rd imm) s = s.unlessFault st false [] fun s => s.sideEffect st 4
      (fun s => if 1 < imm.toNat then s.refuse 80 else s.receive st imm.toNat) fun refused d s =>
        if refused then s else (s.setReg st rd (BitVec.ofNat 32 d)).mark Hid.S_Z st (d == 2 ^ 32) := rfl
  have seals : opOf (.tSeal st) s = s.unlessFault st false [] fun s => s.sideEffect st 5
      (fun s => if st.val == 0 && s.is Hid.BOOTWIN 0 then confirm s.closeWindow else s.refuse 80) fun _ _ s => s := rfl
  refine ⟨fun new => ⟨fun low may => ?_, fun bad => ?_⟩, fun new => ⟨fun named other present room => ?_, fun bad => ?_, fun none known => ?_,
    fun v t some known => ?_, fun unknown => ?_⟩, fun new => ⟨fun first opened => ?_, fun bad => ?_⟩⟩
  · refine exec_confirms ready new rfl raises _ (if_pos ?_)
    rw [raisable_issue, raisable_true low may]
  · refine exec_refuses ready new rfl raises 80 (if_neg (Bool.eq_false_iff.1 ?_))
    rw [raisable_issue, raisable_false bad]
  · have fits : (s.issue st 4).sendBad st n = false := (sendBad_issue s st 4 n).trans (sendBad_false named other present room)
    obtain ⟨t, ran, settles⟩ := exec_confirms ready new rfl sends ((s.issue st 4).mboxPut n (s.reg st rd)) (if_neg (Bool.eq_false_iff.1 fits))
    refine ⟨_, t, ran, settles, by rw [mboxPut_mail, issue_mail], fun box => ?_⟩
    rw [mboxPut_stl box]
  · refine exec_refuses ready new rfl sends 80 (if_pos ?_)
    rw [sendBad_issue, sendBad_true bad]
  · have empty : (s.issue st 4).mbox st = [] := (mbox_issue s st 4 st).trans none
    have ⟨t, ran, settles⟩ := exec_confirmed ready new rfl rfl receives ((if_neg (not_lt.2 known)).trans (receive_empty empty))
    exact ⟨t, ran, settles⟩
  · have waits : (s.issue st 4).mbox st = v :: t := (mbox_issue s st 4 st).trans some
    obtain ⟨x, ran, settles⟩ := exec_confirmed ready new rfl rfl receives ((if_neg (not_lt.2 known)).trans (receive_word waits))
    have short : (v.toNat == 2 ^ 32) = false := beq_eq_false_iff_ne.2 v.isLt.ne
    rw [if_neg Bool.false_ne_true, BitVec.ofNat_toNat, BitVec.setWidth_eq, short] at settles
    exact ⟨_, x, ran, settles, receivedWord_holds ready.2.2⟩
  · have ⟨t, ran, settles⟩ := exec_denied (u := (s.issue st 4).raise 80) ready new rfl rfl receives (if_pos unknown)
    exact ⟨t, ran, settles⟩
  · refine exec_confirms ready new rfl seals _ (if_pos ?_)
    rw [(sameApart_issue s st 5).is (by decide), opened, first]
    rfl
  · refine exec_refuses ready new rfl seals 80 (if_neg ?_)
    rw [(sameApart_issue s st 5).is (by decide), Bool.and_eq_true, beq_iff_eq]
    rintro ⟨first, opened⟩
    exact bad.elim (fun other => other (Fin.ext first)) fun closed => Bool.false_ne_true (closed.symm.trans opened)
end

section
/-! PROOFS. Values wider than their fields: an entry and a watchdog time that no write brings about. -/

namespace Sys2Proof.Machine
open Sys2Proof

/-- A state whose store holds a value for unit n of a field as it stands, however wide: `State.put` would cut it to the field's width, and the canonical
form (`State.Inv`) does not ask that it fit. -/
def State.holding (s : State) (f : Fld) (n v : Nat) : State := { s with fld := Pages.set s.fld (f.key n) (Nat.xor v (f.dflt n)) }

/-- The part in RUN on FCLK. -/
def inRun : State := ((State.reset.put Hid.MAIN 0 3).put Hid.FCLK 0 2).put Reg.PWR_STATE_CUR 0 2

/-- Every region is open to the host links, and the program of identity 0 enters at word 8192, one past the last word of instruction memory that its
13 bits of entry could name. -/
def wideEntry : State := ((inRun.put Reg.SEC_PMAP_REGIONS 0 0xFFFFF).put Hid.S_LEN 0 1).holding Hid.S_ENT 0 0x2000

theorem wideEntry_permits : Permitted wideEntry .spi 0x6000 1 := by
  unfold Permitted; decide

theorem wideEntry_stopped : wideEntry.sl 0 = slStopped := by decide

theorem wideEntry_loaded : wideEntry.is Hid.S_LEN 0 = true := by decide

theorem get_forEach_put_at (l : List Nat) (f g : Fld) (k : Nat → Nat) (v n : Nat) (s : State) (h : Fld.apart f g = true) :
    (s.forEach l (fun t i => t.put f (k i) v)).get g n = s.get g n :=
  closed_foldl (fun t => t.get g n = s.get g n) _ l s rfl fun t i ht => (State.get_put_apart t f g (k i) n v h).trans ht

/-- The reset state of an identity has the low 13 bits of its entry in PC. -/
theorem archReset_pc (s : State) (st : Stl) : (s.archReset st).pc st = s.get Hid.S_ENT st % 2 ^ 13 := by
  rw [State.archReset, State.pc, get_put_stl _ _ _ _ rfl]
  simp (disch := decide) only [State.get_put_apart, get_forEach_put_at]
  rfl

theorem stallEnter_pc (s : State) (st : Stl) : (s.stallEnter st).pc st = s.get Hid.S_ENT st % 2 ^ 13 := by
  rw [← archReset_pc]
  simp (disch := decide) only [State.stallEnter, State.stallGo, State.setSl, State.demand, State.pc, State.get_ifDo, State.get_put_apart, ite_self]

theorem stallStart_stopped {s : State} {st : Nat} (stopped : s.sl st = slStopped) (loaded : s.is Hid.S_LEN st = true) :
    s.stallStart st = s.stallEnter st := by
  have program : (s.get Hid.S_LEN st == 0) = false := by simpa [State.is] using loaded
  simp [State.stallStart, State.noProgram, stopped, program, slStopped, slTakeover, slAbsent, slFault]

/-- A START of identity 0 there comes to PC 0. -/
theorem wideEntry_start : ((wideEntry.arrive .spi).stallStart 0).pc 0 ≠ wideEntry.get Hid.S_ENT 0 := by
  have begun : ((wideEntry.arrive .spi).stallStart 0).pc 0 = (wideEntry.arrive .spi).get Hid.S_ENT 0 % 2 ^ 13 := by
    rw [stallStart_stopped (by decide) (by decide)]
    exact stallEnter_pc (wideEntry.arrive .spi) 0
  rw [begun]
  decide

/-- Identity 0 runs with a watchdog time of 2^26 ms, where STL_WDCFG has 16 bits for it. -/
def longWatch : State := (inRun.put Reg.STL_STAT_STATE 0 slRun).holding Reg.STL_WDCFG_TMO 0 (2 ^ 26)

theorem longWatch_runs : longWatch.wdRuns 0 = true := by decide

theorem longWatch_before : ∀ k : Stl, longWatch.wdRuns k = true →
    longWatch.get Hid.S_WDC k + (longWatch.wdTop 0 / 2 - longWatch.get Hid.S_WDC 0) < longWatch.wdTop k := by decide

/-- The count has 26 bits, and half the time needs more. -/
theorem longWatch_passTime :
    (longWatch.passTime (longWatch.wdTop 0 / 2 - longWatch.get Hid.S_WDC 0)).get Hid.S_WDC 0 ≠ 500 * longWatch.get Reg.STL_WDCFG_TMO 0 := by
  decide

end Sys2Proof.Machine

open Sys2Proof Sys2Proof.Machine

/-- Refutes O38: it asks no field to hold a value of its width. In `wideEntry` a START leaves identity 0 at PC 0, where the statement says 8192. -/
theorem not_stallsFailAndStart : ¬ Obligations.StallsFailAndStart := by
  intro h
  obtain ⟨-, -, -, -, starts, -⟩ := h wideEntry .spi 0
  obtain ⟨u, t, -, -, started, enters⟩ := starts wideEntry_permits
  exact wideEntry_start (started ▸ (enters wideEntry_stopped wideEntry_loaded).2)

/-- Refutes O39: it asks no field to hold a value of its width. In `longWatch` the early warning comes with S_WDC at 0, where the statement says
500 · 2^26. -/
theorem not_watchdogsAndMailboxes : ¬ Obligations.WatchdogsAndMailboxes := by
  rintro ⟨watchdogs, -⟩
  obtain ⟨-, -, runs⟩ := watchdogs longWatch .spi 0 0
  obtain ⟨early, -⟩ := runs longWatch_runs
  obtain ⟨u, t, -, -, passed, warns⟩ := early (by decide)
  exact longWatch_passTime (passed ▸ (warns longWatch_before).2)
end

section
/-! PROOFS. The queues of bounded size: each operation that adds to one asks for room first, and the others leave them or make them shorter. -/

-- The proofs of this section are elaborated one after another: the text is compiled as one, and its threads stand near the memory limit.
set_option deprecated.oldSectionVars true

namespace Sys2Proof.Machine
open Sys2Proof

/-- The queues are within their sizes: each mailbox holds the words that it has room for (R234), and 16 writes at most wait for NVM (R409). -/
def State.Fit (s : State) : Prop := (∀ b, (s.mail.filter fun e => e.1 == b).length ≤ mboxSize b) ∧ s.nvmq.length ≤ 16

/- The changes of state that the operations are made of. -/

section
variable {s : State} {n v : Nat} {f : Fld}

theorem fit_ite {p : Prop} [Decidable p] {t : State} (h : s.Fit) (ht : t.Fit) : (if p then s else t).Fit := closed_ite State.Fit p s t h ht

theorem fit_empty (writes : s.nvmq = []) (words : s.mail = []) : s.Fit := by
  simp [State.Fit, writes, words]

variable (h : s.Fit)
include h

theorem fit_put : (s.put f n v).Fit := fit_ite h h

theorem fit_mark {b : Bool} : (s.mark f n b).Fit := fit_put h

theorem fit_setBit {i : Nat} {b : Bool} : (s.setBit f n i b).Fit := fit_put h

theorem fit_setArr {b : Bool} : (s.setArr f n b).Fit := fit_put h

theorem fit_sat {lim : Nat} : (s.sat f n lim).Fit := fit_put h

theorem fit_top {a b c d e f g i j k l m o p q r} : State.Fit ⟨a, b, c, d, e, f, s.nvmq, g, i, j, k, s.mail, l, m, o, p, q, r⟩ := h

theorem fit_drop {c : Kept} : (s.drop c).Fit := h

theorem fit_ifDo {b : Bool} {e : State → State} (he : ∀ t : State, t.Fit → (e t).Fit) : (s.ifDo b e).Fit := fit_ite (he s h) h

theorem fit_foldl {α : Type} {l : List α} {e : State → α → State} (he : ∀ (t : State) a, t.Fit → (e t a).Fit) : (l.foldl e s).Fit :=
  closed_foldl State.Fit e l s h he

theorem fit_forEach {l : List Nat} {e : State → Nat → State} (he : ∀ (t : State) i, t.Fit → (e t i).Fit) : (s.forEach l e).Fit := fit_foldl h he

theorem fit_times {e : State → State} (he : ∀ t : State, t.Fit → (e t).Fit) : (s.times n e).Fit := fit_forEach h fun t _ => he t

theorem fit_flag : (s.flag f n v).Fit := fit_ifDo (fit_put h) fun _ ht => fit_put ht

/- Changes of the queues. -/

theorem fit_writes {l : List (Nat × Word)} (shorter : l.length ≤ s.nvmq.length) : State.Fit { s with nvmq := l } := ⟨h.1, shorter.trans h.2⟩

theorem fit_write (e : Nat × Word) (room : s.nvmq.length < 16) : State.Fit { s with nvmq := s.nvmq ++ [e] } := ⟨h.1, by simpa using room⟩

theorem fit_words {l : List (Nat × Word)} (part : l.Sublist s.mail) : State.Fit { s with mail := l } :=
  ⟨fun b => (part.filter _).length_le.trans (h.1 b), h.2⟩

theorem fit_word {b : Nat} (w : Word) (room : (s.mail.filter fun e => e.1 == b).length < mboxSize b) :
    State.Fit { s with mail := s.mail ++ [(b, w)] } := by
  refine ⟨fun c => ?_, h.2⟩
  have words : (s.mail.filter fun e => e.1 == c).length ≤ mboxSize c := h.1 c
  by_cases hc : b = c
  · subst hc
    simpa using room
  · simpa [hc] using words

end

/-- What follows a command by itself leaves the queues. -/
theorem closed_fit : Closed State.Fit where
  put := fun _ _ _ _ _ h => fit_put h
  dropV := fun _ h => h
  dropW := fun _ h => h
  top := fun _ _ _ _ _ _ _ _ h => h

/-- The words of the unit write in progress and the others are each some of the queue. -/
theorem length_queueSplit (s : State) : s.queueSplit.1.length ≤ s.nvmq.length ∧ s.queueSplit.2.length ≤ s.nvmq.length := by
  unfold State.queueSplit
  split
  · exact ⟨Nat.zero_le _, Nat.zero_le _⟩
  · next e l whole =>
    rw [List.partition_eq_filter_filter]
    have first := List.length_filter_le (fun x : Nat × Word => x.1 / 64 == e.1 / 64) (s.nvmq.take (s.get Hid.Q_CNT 0))
    have others := List.length_filter_le (not ∘ fun x : Nat × Word => x.1 / 64 == e.1 / 64) (s.nvmq.take (s.get Hid.Q_CNT 0))
    simp only [List.length_append, List.length_take, List.length_drop] at first others ⊢
    omega

section
variable {s : State} (h : s.Fit)
include h

/- Fields and the operations of every chapter. -/

theorem fit_fclkOn : s.fclkOn.Fit := fit_put (fit_top h)

theorem fit_demand : s.demand.Fit := closed_demand _ closed_fit s h

theorem fit_drawFree {w : Nat} : (s.drawFree w).2.Fit := fit_top h

theorem fit_wake {n : Nat} : (s.wake n).Fit := closed_wake _ closed_fit s _ h

theorem fit_irq {n : Nat} : (s.irq n).Fit := closed_irq _ closed_fit s _ h

theorem fit_portFlag {x : Nat} {f : Fld} : (s.portFlag f x).Fit := fit_wake (fit_flag h)

theorem fit_raise {n : Nat} : (s.raise n).Fit := closed_raise _ closed_fit s _ h

/- The daybook. -/

theorem fit_nvmNext : s.nvmNext.Fit := closed_nvmNext _ closed_fit s h

theorem fit_stageCritical {r : Record} : (s.stageCritical r).Fit := closed_stageCritical _ closed_fit s _ h

theorem fit_stageOther {src : Option Nat} {r : Record} : (s.stageOther src r).2.Fit := closed_stageOther _ closed_fit s _ _ h

theorem fit_record {ty rail lsrc : Nat} {ev : List (BitVec 8)} : (s.record ty rail lsrc ev).Fit := closed_record _ closed_fit s _ _ _ _ h

theorem fit_setLatch {cause rail lsrc : Nat} : (s.setLatch cause rail lsrc).Fit := closed_setLatch _ closed_fit s _ _ _ h

theorem fit_freeBytes {n : Nat} : (s.freeBytes n).2.Fit := by
  induction n generalizing s with
  | zero => exact h
  | succ k ih => exact ih (fit_drawFree h)

theorem fit_writeUnit {a : Nat} {l : List (BitVec 8)} {ok : Bool} : (s.writeUnit a l ok).Fit :=
  fit_ite (fit_top h) (fit_raise (fit_put (fit_top (fit_freeBytes h))))

theorem fit_commit : s.commit.Fit := fit_put (fit_put (fit_put (fit_put (fit_put (fit_top h)))))

theorem fit_daybookUnit {ok : Bool} : (s.daybookUnit ok).2.Fit := by
  unfold State.daybookUnit
  split
  · exact fit_put h
  · extract_lets seq k wrote done
    have written : done.Fit := fit_put (fit_writeUnit h)
    split
    · exact fit_nvmNext (fit_put written)
    · exact fit_nvmNext (fit_commit written)

theorem fit_flushStaging {fuel : Nat} : (s.flushStaging fuel).Fit := by
  induction fuel generalizing s with
  | zero => exact h
  | succ k ih =>
    unfold State.flushStaging
    split
    · exact h
    · dsimp only
      split
      · exact fit_nvmNext h
      · exact ih (fit_commit (fit_put (fit_top (fit_nvmNext h))))

theorem fit_findHead : s.findHead.Fit := by
  unfold State.findHead
  exact fit_ite (fit_put (fit_put h)) (fit_put (fit_put h))

/- The converters. -/

theorem fit_sense {n : Nat} {m : LoopSense} : (s.sense n m).Fit := fit_foldl (fit_put h) fun _ _ ht => fit_put ht

theorem fit_swOpen {n : Nat} : (s.swOpen n).Fit := closed_swOpen _ closed_fit s _ h

theorem fit_loopStart {n : Nat} : (s.loopStart n).Fit := fit_ifDo (fit_put (fit_put (fit_put (fit_put h)))) fun _ ht => fit_put (fit_put (fit_put ht))

theorem fit_setBal {k : Nat} {b : Rat} : (s.setBal k b).Fit := closed_setBal _ closed_fit s _ _ h

theorem fit_phaseJoin {k : Nat} : (s.phaseJoin k).Fit := closed_phaseJoin _ closed_fit s _ h

theorem fit_pgLow {n : Nat} : (s.pgLow n).Fit := closed_pgLow _ closed_fit s _ h

theorem fit_rushEnd {n : Nat} : (s.rushEnd n).Fit := closed_rushEnd _ closed_fit s _ h

theorem fit_brakeEnd {n : Nat} : (s.brakeEnd n).Fit := closed_brakeEnd _ closed_fit s _ h

theorem fit_loopOff {n : Nat} : (s.loopOff n).Fit := closed_loopOff _ closed_fit s _ h

theorem fit_rampTick {n : Nat} : (s.rampTick n).Fit := fit_ite h (fit_ite (fit_put h) (fit_put (fit_put h)))

theorem fit_phaseReadmit {k : Nat} : (s.phaseReadmit k).Fit :=
  fit_ite h (fit_ite (fit_phaseJoin h) (fit_ite (fit_put h) (fit_put (fit_put (fit_put h)))))

theorem fit_takeSample {n : Nat} : (s.takeSample n).Fit := fit_top h

theorem fit_nextPeriod {n : Nat} : (s.nextPeriod n).Fit := by
  unfold State.nextPeriod
  exact fit_ifDo (fit_forEach h fun _ _ ht => fit_put (fit_setBal ht)) fun _ ht => fit_put ht

theorem fit_loopClock {n : Nat} : (s.loopClock n).Fit :=
  fit_times (fit_times (fit_put (fit_put h)) fun _ ht => fit_takeSample ht) fun _ ht => fit_nextPeriod ht

theorem fit_eventEnds {n : Nat} : (s.eventEnds n).Fit := by
  unfold State.eventEnds
  exact fit_ifDo (fit_ifDo h fun _ ht => fit_rushEnd ht) fun _ ht => fit_brakeEnd ht

/- The inputs. -/

theorem fit_setInSt {i v : Nat} : (s.setInSt i v).Fit := by
  unfold State.setInSt
  split <;> exact fit_put h

/- The Keeper. -/

theorem fit_setRail {r v : Nat} : (s.setRail r v).Fit := closed_setRail _ closed_fit s _ _ h

theorem fit_tableCheck : s.tableCheck.Fit := by
  unfold State.tableCheck
  exact
    fit_ifDo (fit_mark (fit_forEach h fun _ _ ht => fit_ite (fit_top (fit_setRail ht)) (fit_ifDo ht fun _ hu => fit_setRail hu))) fun _ ht =>
      fit_raise ht

theorem fit_checkOn : s.checkOn.Fit := closed_checkOn _ closed_fit s h

theorem fit_enterRising : s.enterRising.Fit := fit_checkOn (fit_irq (fit_put (fit_put (fit_put h))))

theorem fit_enterOff : s.enterOff.Fit := closed_enterOff _ closed_fit s h

theorem fit_becomeGood {r : Nat} : (s.becomeGood r).Fit := closed_becomeGood _ closed_fit s _ h

theorem fit_tryGood {r : Nat} : (s.tryGood r).Fit := closed_tryGood _ closed_fit s _ h

theorem fit_tryGoods {p : Nat → Bool} : (s.tryGoods p).Fit := fit_forEach h fun _ _ ht => fit_tryGood ht

theorem fit_drivePin {r v : Nat} : (s.drivePin r v).Fit := closed_drivePin _ closed_fit s _ _ h

theorem fit_stopRail {r : Nat} : (s.stopRail r).Fit := closed_stopRail _ closed_fit s _ h

theorem fit_railOff {r : Nat} : (s.railOff r).Fit := closed_railOff _ closed_fit s _ h

theorem fit_finishStop {r : Nat} : (s.finishStop r).Fit := closed_finishStop _ closed_fit s _ h

theorem fit_startRail {r : Nat} : (s.startRail r).Fit :=
  fit_tryGood (fit_ifDo (fit_drivePin (fit_top (fit_put (fit_setRail h)))) fun _ ht => fit_ite (fit_put ht) (fit_loopStart ht))

theorem fit_sdTop : s.sdTop.Fit := closed_sdTop _ closed_fit s h

theorem fit_shutdown : s.shutdown.Fit := closed_shutdown _ closed_fit s h

theorem fit_branchTop : s.branchTop.Fit := closed_branchTop _ closed_fit s h

theorem fit_shutdownStep : s.shutdownStep.Fit := by
  refine fit_ite ?_ ?_
  · split
    · exact fit_enterOff h
    · exact fit_ite (fit_sdTop (fit_railOff h)) h
  · split
    · exact h
    · exact fit_ite (fit_branchTop (fit_top h)) (fit_ite (fit_branchTop (fit_railOff h)) h)

theorem fit_release {reset : Bool} : (s.release reset).Fit := closed_release _ closed_fit s _ h

theorem fit_faultAct {r act : Nat} : (s.faultAct r act).Fit := closed_faultAct _ closed_fit s _ _ h

theorem fit_railFault {r : Nat} : (s.railFault r).Fit := closed_railFault _ closed_fit s _ h

theorem fit_zoneFault {n zone : Nat} : (s.zoneFault n zone).Fit := fit_forEach h fun _ _ ht => fit_ifDo ht fun _ hu => fit_railFault hu

theorem fit_pgChange {src : Nat} {level : Bool} : (s.pgChange src level).Fit := closed_pgChange _ closed_fit s _ _ h

theorem fit_pgHigh {n : Nat} : (s.pgHigh n).Fit := fit_ifDo h fun _ ht => fit_pgChange (fit_put ht)

theorem fit_crierAct {c : Nat} {hi : Bool} : (s.crierAct c hi).Fit := fit_forEach h fun _ _ ht => fit_ifDo ht fun _ hu => fit_faultAct (fit_record hu)

theorem fit_capLow {n old : Nat} : (s.capLow n old).Fit := closed_capLow _ closed_fit s _ _ h

theorem fit_fencePhase {k origin : Nat} : (s.fencePhase k origin).Fit := closed_fencePhase _ closed_fit s _ _ h

theorem fit_fenceConv {x origin : Nat} : (s.fenceConv x origin).Fit := fit_put (fit_put (fit_put (fit_setBit h)))

theorem fit_fenceCrier {c origin : Nat} : (s.fenceCrier c origin).Fit := closed_fenceCrier _ closed_fit s _ _ h

theorem fit_admitUnit {u : Nat} : (s.admitUnit u).Fit :=
  fit_ite (fit_phaseReadmit (fit_put (fit_put h))) (fit_ite (fit_put (fit_put (fit_put h))) (fit_put (fit_put (fit_put h))))

theorem fit_requestOff : s.requestOff.Fit := closed_requestOff _ closed_fit s h

theorem fit_doRamp {n p : Nat} : (s.doRamp n p).Fit := by
  unfold State.doRamp
  dsimp only
  split
  · exact fit_ifDo (fit_put h) fun _ ht => fit_put ht
  · exact
      fit_ite (fit_startRail (fit_ifDo (fit_put h) fun _ ht => fit_put ht)) (fit_ifDo (fit_put (fit_ifDo (fit_put h) fun _ ht => fit_put ht))
        fun _ ht => fit_loopStart ht)

theorem fit_doEnab {kind num : Nat} : (s.doEnab kind num).Fit := by
  unfold State.doEnab
  split
  · exact h
  · exact fit_ite (fit_startRail h) (fit_ifDo h fun _ ht => fit_loopStart ht)

theorem fit_doDisb {kind num : Nat} : (s.doDisb kind num).Fit := by
  unfold State.doDisb
  split
  · exact h
  · exact fit_ifDo h fun _ ht => fit_finishStop (fit_stopRail ht)

theorem fit_doFence {u : Nat} : (s.doFence u).Fit :=
  fit_ite (fit_ifDo h fun _ ht => fit_fencePhase ht) (fit_ite (fit_ifDo h fun _ ht => fit_put ht) (fit_ifDo h fun _ ht => fit_fenceCrier ht))

theorem fit_doAdmit {u : Nat} : (s.doAdmit u).Fit := fit_ite h (fit_admitUnit (fit_ifDo h fun _ ht => fit_sat ht))

theorem fit_loopStopped {n : Nat} : (s.loopStopped n).Fit := by
  refine fit_ite (fit_loopStart (fit_loopOff h)) ?_
  split
  · exact fit_loopOff h
  · exact fit_finishStop (fit_loopOff h)

/- The ledger. -/

theorem fit_settle : s.settle.Fit := closed_settle _ closed_fit s h

theorem fit_quietEnd {n : Nat} : (s.quietEnd n).Fit := fit_ite (fit_admitUnit (fit_sat h)) (fit_put (fit_put h))

theorem fit_clearSticky {n : Nat} : (s.clearSticky n).Fit := fit_ite h (fit_put (fit_put (fit_setArr h)))

/- The gauge. -/

theorem fit_ocvX {z : Rat} : (s.ocvX z).2.Fit := by
  unfold State.ocvX
  dsimp only
  split <;> exact h

theorem fit_setStale {b : Bool} : (s.setStale b).Fit := fit_mark (fit_ifDo h fun _ ht => fit_irq ht)

theorem fit_gaugePredict {dq : Rat} : (s.gaugePredict dq).Fit := fit_top h

theorem fit_gaugeCorrect {z sv : Rat} : (s.gaugeCorrect z sv).Fit := fit_top h

theorem fit_jrnlStart {kind : Nat} : (s.jrnlStart kind).Fit := closed_jrnlStart _ closed_fit s _ h

theorem fit_jrnlLearn : s.jrnlLearn.Fit := fit_ifDo h fun _ ht => fit_jrnlStart ht

theorem fit_gaugeLearn : s.gaugeLearn.Fit := by
  unfold State.gaugeLearn
  dsimp only
  split
  · exact h
  · split
    · exact h
    · exact fit_jrnlLearn (fit_put (fit_sat (fit_top h)))

theorem fit_learnNow : s.learnNow.Fit := fit_ite h (fit_ite (fit_top h) (fit_gaugeLearn h))

theorem fit_gaugeRef {last : Nat} {relaxed : Bool} {z sv : Rat} : (s.gaugeRef relaxed z sv last).Fit :=
  fit_learnNow (fit_ite (fit_put (fit_put (fit_top (fit_ocvX (fit_gaugeCorrect h))))) (fit_ifDo (fit_sat (fit_put (fit_top (fit_ocvX
    (fit_gaugeCorrect h))))) fun _ ht => fit_put ht))

theorem fit_stepCut : s.stepCut.Fit := closed_stepCut _ closed_fit s h

theorem fit_gaugeStep {r : StepRef} : (s.gaugeStep r).Fit := fit_ite h (fit_top (fit_gaugeRef h))

theorem fit_gaugeReport : s.gaugeReport.Fit :=
  fit_mark (fit_put (fit_mark (fit_put (fit_put (fit_put (fit_put (fit_put (fit_put (fit_put (fit_top (fit_ocvX h)))))))))))

theorem fit_level {src : Nat} {bit : Fld} {use : Bool} {thr : Rat} : (s.level bit use thr src).Fit :=
  fit_ite (fit_ifDo h fun _ ht => fit_irq (fit_put ht)) (fit_ifDo h fun _ ht => fit_put ht)

theorem fit_levels : s.levels.Fit := fit_ite h (fit_level (fit_level (fit_level (fit_level (fit_level h)))))

theorem fit_cellBit {bit : Fld} {b : Bool} : (s.cellBit bit b).Fit := fit_mark (fit_ifDo h fun _ ht => fit_irq ht)

theorem fit_cellCheck {cells : List Nat} : (s.cellCheck cells).Fit :=
  fit_ite (fit_sat (fit_cellBit (fit_cellBit h))) (fit_put (fit_cellBit (fit_cellBit h)))

theorem fit_gaugeUpdate {m : GaugeSample} : (s.gaugeUpdate m).Fit := by
  refine fit_ite (fit_jrnlLearn (fit_cellCheck h)) (fit_levels (fit_gaugeReport (fit_jrnlLearn ?_)))
  split
  · exact fit_ifDo (fit_gaugePredict (fit_cellCheck h)) fun _ ht => fit_gaugeLearn (fit_top ht)
  · exact fit_gaugeStep (fit_ifDo (fit_gaugePredict (fit_cellCheck h)) fun _ ht => fit_gaugeLearn (fit_top ht))

theorem fit_gaugeRestart : s.gaugeRestart.Fit := fit_top (fit_put (fit_put h))

theorem fit_gaugeLoad {r : Option (List (BitVec 8))} : (s.gaugeLoad r).Fit := by
  unfold State.gaugeLoad
  split
  · exact fit_raise (fit_top h)
  · exact fit_put (fit_top h)

theorem fit_gaugeStart {v i : Rat} : (s.gaugeStart v i).Fit := by
  refine fit_gaugeReport (fit_put ?_)
  split
  · exact
      fit_ite (fit_gaugeRef (fit_put (fit_setStale (fit_top (fit_top (fit_ifDo h fun _ ht => fit_gaugeLoad ht)))))) (fit_put (fit_gaugeCorrect
        (fit_put (fit_setStale (fit_top (fit_top (fit_ifDo h fun _ ht => fit_gaugeLoad ht)))))))
  · exact
      fit_put (fit_gaugeCorrect (fit_put (fit_setStale (fit_top (fit_drawFree (fit_ocvX (fit_top (fit_ifDo h fun _ ht => fit_gaugeLoad ht))))))))

/- The ports. -/

theorem fit_bmc {x : Nat} : (s.bmc x).Fit := closed_bmc _ closed_fit s _ h

theorem fit_tx {x m : Nat} : (s.tx x m).Fit := closed_tx _ closed_fit s _ _ h

theorem fit_nsup {x : Nat} : (s.nsup x).Fit := fit_portFlag (fit_tx h)

theorem fit_request {x : Nat} {a : Ask} : (s.request x a).Fit := closed_request _ closed_fit s _ _ h

theorem fit_requestBest {x : Nat} : (s.requestBest x).Fit := closed_requestBest _ closed_fit s _ h

theorem fit_eprEnter {x : Nat} : (s.eprEnter x).Fit := closed_eprEnter _ closed_fit s _ h

theorem fit_eprFail {x : Nat} : (s.eprFail x).Fit := fit_portFlag (fit_put (fit_put (fit_put h)))

theorem fit_eprCut {x : Nat} : (s.eprCut x).Fit := fit_ifDo h fun _ ht => fit_eprFail ht

theorem fit_noContract {x : Nat} : (s.noContract x).Fit := closed_noContract _ closed_fit s _ h

theorem fit_newContract {x : Nat} : (s.newContract x).Fit := fit_put (fit_portFlag (fit_put (fit_put (fit_put (fit_put h)))))

theorem fit_endExchange {x : Nat} : (s.endExchange x).Fit := closed_endExchange _ closed_fit s _ h

theorem fit_protoReset {x : Nat} : (s.protoReset x).Fit := closed_protoReset _ closed_fit s _ h

theorem fit_sourceOff {x : Nat} : (s.sourceOff x).Fit := closed_sourceOff _ closed_fit s _ h

theorem fit_unattach {x tc : Nat} : (s.unattach x tc).Fit := closed_unattach _ closed_fit s _ _ h

theorem fit_portAbort {x : Nat} : (s.portAbort x).Fit := fit_portFlag (fit_put (fit_unattach h))

theorem fit_vconnOn {x : Nat} : (s.vconnOn x).Fit := closed_vconnOn _ closed_fit s _ h

theorem fit_sendCaps {x : Nat} : (s.sendCaps x).Fit := closed_sendCaps _ closed_fit s _ h

theorem fit_sourceStart {x : Nat} : (s.sourceStart x).Fit := fit_put (fit_put (fit_put (fit_put h)))

theorem fit_holdSrc {x : Nat} : (s.holdSrc x).Fit := closed_holdSrc _ closed_fit s _ h

theorem fit_portsHold : s.portsHold.Fit := fit_forEach h fun _ _ ht => fit_ite (fit_put ht) (fit_holdSrc ht)

theorem fit_portsActive : s.portsActive.Fit := fit_forEach h fun _ _ ht => fit_ifDo (fit_put (fit_put (fit_put ht))) fun _ hu => fit_sendCaps hu

theorem fit_answerRequest {x rdo : Nat} : (s.answerRequest x rdo).Fit := by
  unfold State.answerRequest
  dsimp only
  split
  · exact fit_tx h
  · exact
      fit_ite (fit_tx h) (fit_ite (fit_tx (fit_newContract (fit_put (fit_put (fit_put (fit_put (fit_put h))))))) (fit_tx (fit_put (fit_ifDo (fit_put
        (fit_put (fit_put (fit_put (fit_put (fit_put (fit_put h))))))) fun _ ht => fit_put ht))))

theorem fit_portCfgTake {x w : Nat} : (s.portCfgTake x w).Fit := closed_portCfgTake _ closed_fit s _ _ h

/- Security. -/

theorem fit_tpertOff : s.tpertOff.Fit := fit_forEach (fit_foldl h fun _ _ ht => fit_put ht) fun _ _ ht => fit_put (fit_put ht)

theorem fit_unhalt : s.unhalt.Fit := fit_forEach h fun _ _ ht => fit_put (fit_put ht)

theorem fit_endSession : s.endSession.Fit := fit_put (fit_put (fit_tpertOff (fit_unhalt h)))

theorem fit_debugHold : s.debugHold.Fit := fit_put (fit_tpertOff (fit_unhalt h))

theorem fit_spendNonce : s.spendNonce.Fit := fit_put (fit_forEach h fun _ _ ht => fit_put ht)

theorem fit_hashDone : s.hashDone.Fit := fit_put (fit_setBit h)

theorem fit_lcStepped : s.lcStepped.Fit := fit_put (fit_put h)

theorem fit_takeMap : s.takeMap.Fit := fit_put (fit_forEach h fun _ _ ht => fit_put (fit_put ht))

/- The power states. -/

theorem fit_bfetRefresh : s.bfetRefresh.Fit := closed_bfetRefresh _ closed_fit s h

theorem fit_bfetClose : s.bfetClose.Fit := fit_ifDo h fun _ ht => fit_put ht

theorem fit_batGo : s.batGo.Fit := fit_ite (fit_flag h) (fit_bfetClose (fit_put (fit_put h)))

theorem fit_setPhase {p why : Nat} : (s.setPhase p why).Fit := closed_setPhase _ closed_fit s _ _ h

theorem fit_chgFault {why : Nat} : (s.chgFault why).Fit := fit_setPhase h

theorem fit_chgTime {d : Nat} : (s.chgTime d).Fit := by
  unfold State.chgTime
  split
  · exact fit_ifDo (fit_put h) fun _ ht => fit_chgFault ht
  · exact fit_ifDo (fit_put h) fun _ ht => fit_chgFault ht
  · exact fit_ifDo (fit_put h) fun _ ht => fit_chgFault ht
  · exact h

theorem fit_phaseFrom {vbat : Nat} : (s.phaseFrom vbat).Fit :=
  fit_ite (fit_setPhase (fit_mark h)) (fit_ite (fit_setPhase (fit_mark h)) (fit_setPhase (fit_mark h)))

theorem fit_ptStart : s.ptStart.Fit := closed_ptStart _ closed_fit s h

theorem fit_batGone : s.batGone.Fit := fit_stepCut (fit_put (fit_put (fit_put (fit_put (fit_put h)))))

theorem fit_ptEnd {res : Nat} : (s.ptEnd res).Fit := by
  unfold State.ptEnd
  dsimp only
  split
  · exact
      fit_ite (fit_bfetClose (fit_ifDo (fit_put (fit_put (fit_put (fit_stepCut (fit_put h))))) fun _ ht => fit_gaugeRestart (fit_flag ht)))
        (fit_bfetRefresh (fit_put (fit_ifDo (fit_put (fit_put (fit_put (fit_stepCut (fit_put h))))) fun _ ht => fit_gaugeRestart (fit_flag ht))))
  · exact fit_batGone (fit_stepCut (fit_put h))
  · exact fit_raise (fit_flag (fit_put (fit_put (fit_stepCut (fit_put h)))))

theorem fit_crierIdle {c : Nat} : (s.crierIdle c).Fit := closed_crierIdle _ closed_fit s _ h

theorem fit_criersRest : s.criersRest.Fit := closed_criersRest _ closed_fit s h

theorem fit_toStandby {c : Nat} : (s.toStandby c).Fit := closed_toStandby _ closed_fit s _ h

theorem fit_rest {c : Nat} : (s.rest c).Fit := closed_rest _ closed_fit s _ h

theorem fit_enterHold {lost : Nat} : (s.enterHold lost).Fit := by
  unfold State.enterHold
  exact fit_debugHold (fit_portsHold (fit_record (fit_irq (fit_put (fit_put (fit_put (fit_put h)))))))

theorem fit_backToActive : s.backToActive.Fit := fit_portsActive (fit_record (fit_irq (fit_put h)))

theorem fit_batteryEmpty : s.batteryEmpty.Fit := closed_batteryEmpty _ closed_fit s h

theorem fit_pwrRefuse : s.pwrRefuse.Fit := closed_pwrRefuse _ closed_fit s h

theorem fit_shipCancel : s.shipCancel.Fit := closed_shipCancel _ closed_fit s h

theorem fit_pwrAct {req : Nat} : (s.pwrAct req).Fit := closed_pwrAct _ closed_fit s _ h

theorem fit_pwrReq {req : Nat} : (s.pwrReq req).Fit := fit_ite h (fit_ite (fit_put h) (fit_ite (fit_ifDo h fun _ ht => fit_put ht) (fit_pwrAct h)))

theorem fit_searchStart : s.searchStart.Fit := fit_put (fit_put (fit_put h))

theorem fit_selectInput {i : Nat} : (s.selectInput i).Fit := fit_searchStart (fit_put (fit_put (fit_put (fit_setInSt (fit_put h)))))

theorem fit_qualify {i : Nat} : (s.qualify i).Fit :=
  fit_bfetRefresh (fit_ifDo (fit_ifDo (fit_ifDo (fit_ifDo (fit_put h) fun _ ht => fit_put (fit_put (fit_put ht))) fun _ ht => fit_irq ht)
    fun _ ht => fit_backToActive ht) fun _ ht => fit_ptStart (fit_put ht))

theorem fit_openInput {i st : Nat} : (s.openInput i st).Fit :=
  fit_put (fit_put (fit_put (fit_put (fit_put (fit_put (fit_put (fit_put (fit_setInSt (fit_put (fit_put (fit_put h)))))))))))

theorem fit_noBatteryLoss : s.noBatteryLoss.Fit := fit_ifDo (fit_toStandby (fit_release h)) fun _ ht => fit_put ht

theorem fit_afterLoss {i : Nat} {was : Bool} : (s.afterLoss i was).Fit := by
  refine fit_ite ?_ ?_
  · split
    · exact
        fit_ifDo (fit_ifDo (fit_put (fit_put (fit_ifDo h fun _ ht => fit_put (fit_put ht)))) fun _ ht => fit_enterHold ht) fun _ ht => fit_irq ht
    · exact
        fit_selectInput (fit_ifDo (fit_ifDo (fit_put (fit_put (fit_ifDo h fun _ ht => fit_put (fit_put ht)))) fun _ ht => fit_enterHold ht)
          fun _ ht => fit_irq ht)
  · split
    · exact fit_qualify (fit_selectInput (fit_put (fit_ifDo h fun _ ht => fit_put (fit_put ht))))
    · exact fit_ifDo (fit_put (fit_ifDo h fun _ ht => fit_put (fit_put ht))) fun _ ht => fit_noBatteryLoss ht

theorem fit_lostInput {i st : Nat} : (s.lostInput i st).Fit := fit_afterLoss (fit_openInput (fit_stepCut (fit_raise (fit_flag h))))

theorem fit_notReady {i : Nat} : (s.notReady i).Fit := fit_ifDo h fun _ ht => fit_put ht

theorem fit_portEnds {x : Nat} : (s.portEnds x).Fit :=
  fit_ite (fit_lostInput (fit_put (fit_put h))) (fit_notReady (fit_setInSt (fit_put (fit_put h))))

theorem fit_selectNext : s.selectNext.Fit := by
  unfold State.selectNext
  split
  · exact fit_selectInput h
  · exact h

theorem fit_upgrade {i : Nat} : (s.upgrade i).Fit := by
  unfold State.upgrade
  split
  · exact h
  · exact fit_qualify (fit_put (fit_put (fit_selectInput (fit_setInSt (fit_put (fit_put h))))))

theorem fit_holdUpgrade {i : Nat} : (s.holdUpgrade i).Fit := by
  unfold State.holdUpgrade
  exact fit_ifDo h fun _ ht => fit_put ht

theorem fit_feed {i : Nat} : (s.feed i).Fit :=
  fit_ifDo (fit_put (fit_ifDo (fit_put (fit_setInSt h)) fun _ ht => fit_qualify ht)) fun _ ht => fit_upgrade ht

theorem fit_searchEnd {res : Nat} : (s.searchEnd res).Fit := fit_feed (fit_irq (fit_flag (fit_put h)))

theorem fit_dipLimit : s.dipLimit.Fit := fit_put h

theorem fit_searchStep {dip inReg : Bool} : (s.searchStep dip inReg).Fit :=
  fit_ite (fit_searchEnd (fit_dipLimit h)) (fit_ite (fit_searchEnd h) (fit_ite (fit_put (fit_put h)) (fit_ifDo (fit_put h) fun _ ht => fit_searchEnd
    ht)))

theorem fit_searchBack {dip whole : Bool} : (s.searchBack dip whole).Fit := fit_ite (fit_put (fit_dipLimit h)) (fit_ifDo h fun _ ht => fit_put ht)

theorem fit_retest : s.retest.Fit := by
  unfold State.retest
  exact fit_ifDo (fit_ptStart (fit_forEach h fun _ _ ht => fit_ifDo ht fun _ hu => fit_setInSt hu)) fun _ ht => fit_put ht

theorem fit_queueUnit {ok : Bool} : (s.queueUnit ok).Fit := by
  have rest : State.Fit { s with nvmq := s.queueSplit.2 } := fit_writes h (length_queueSplit s).2
  unfold State.queueUnit
  dsimp only
  split
  · exact fit_put (fit_put rest)
  · exact fit_writeUnit (fit_top (fit_put (fit_put rest)))

theorem fit_journalDone {ok : Bool} : (s.journalDone ok).Fit := fit_nvmNext (fit_put (fit_top (fit_writeUnit h)))

theorem fit_domainReset : s.domainReset.Fit := fit_top (fit_put (fit_put (fit_drop h)))

theorem fit_portsClamp : s.portsClamp.Fit := fit_forEach h fun _ _ ht => fit_put (fit_put ht)

omit h in
theorem fit_mainDown {completed : Bool} : (s.mainDown completed).Fit :=
  fit_ite (fit_put (fit_mark (fit_put (fit_put (fit_portsClamp (fit_put (fit_put (fit_put (fit_empty rfl rfl))))))))) (fit_domainReset (fit_mark
    (fit_put (fit_put (fit_portsClamp (fit_put (fit_put (fit_put (fit_empty rfl rfl)))))))))

/- Resets and the boot. -/

theorem fit_clearCauses : s.clearCauses.Fit := fit_put (fit_foldl h fun _ _ ht => fit_put ht)

theorem fit_setSl {st v : Nat} : (s.setSl st v).Fit := fit_put h

theorem fit_archReset {st : Nat} : (s.archReset st).Fit :=
  fit_put (fit_put (fit_put (fit_put (fit_put (fit_put (fit_put (fit_put (fit_put (fit_put (fit_forEach (fit_forEach h fun _ _ ht => fit_put ht)
    fun _ _ ht => fit_put ht))))))))))

theorem fit_stallsReset : s.stallsReset.Fit :=
  fit_put (fit_forEach (fit_forEach h fun _ _ ht => fit_setSl (fit_put (fit_put (fit_put (fit_put (fit_put (fit_archReset ht))))))) fun _ _ ht =>
    fit_put ht)

theorem fit_writeResetRec {origin : Nat} : (s.writeResetRec origin).Fit :=
  fit_put (fit_put (fit_flushStaging (fit_stageCritical (fit_flushStaging h))))

theorem fit_resetUnits : s.resetUnits.Fit := by
  have kept : State.Fit { s with nvmq := if s.get Hid.NVM_JOB 0 == 3 then s.queueSplit.1 else [] } :=
    fit_writes h (by split; exacts [(length_queueSplit s).1, Nat.zero_le _])
  unfold State.resetUnits
  dsimp only
  split
  · exact fit_journalDone kept
  · exact fit_daybookUnit kept
  · exact fit_queueUnit kept
  · exact kept

theorem fit_resetBegins : s.resetBegins.Fit := fit_put (fit_put (fit_put (fit_put (fit_clearCauses h))))

theorem fit_bootCut : s.bootCut.Fit := fit_ifDo h fun _ ht => fit_put (fit_stageCritical ht)

omit h in
theorem fit_coldReset {bor : Nat} : (s.coldReset bor).Fit :=
  fit_ifDo (fit_forEach (fit_portsClamp (fit_mark (fit_put (fit_put (fit_put (fit_put (fit_empty rfl rfl))))))) fun _ _ ht => fit_put ht)
    fun _ ht => fit_setInSt (fit_put ht)

theorem fit_warmReset {cause : Fld} : (s.warmReset cause).Fit :=
  fit_ite (fit_put h) (fit_shutdown (fit_ifDo (fit_stallsReset (fit_mark (fit_put (fit_put (fit_put (fit_put (fit_put (fit_put (fit_criersRest
    (fit_put (fit_put (fit_put (fit_put (fit_put (fit_put (fit_put (fit_put (fit_put (fit_mark (fit_put (fit_put (fit_top (fit_drop (fit_resetUnits
    (fit_spendNonce (fit_endSession (fit_put (fit_resetBegins (fit_bootCut (fit_settle h)))))))))))))))))))))))))))))) fun _ ht => fit_put ht))

theorem fit_loadSlot {slot : Nat} : (s.loadSlot slot).Fit :=
  fit_top (fit_forEach (fit_top h) fun _ _ ht => fit_ifDo (fit_put (fit_put ht)) fun _ hu => fit_top hu)

theorem fit_bootStart : s.bootStart.Fit := by
  unfold State.bootStart
  exact fit_ifDo (fit_put (fit_put h)) fun _ ht => fit_setSl (fit_archReset ht)

theorem fit_bootSlot : s.bootSlot.Fit := by
  unfold State.bootSlot
  exact
    fit_ite (fit_bootStart (fit_loadSlot (fit_put (fit_mark (fit_put (fit_ifDo (fit_put (fit_put (fit_put (fit_put h)))) fun _ ht => fit_raise
      (fit_put ht))))))) (fit_raise (fit_put (fit_put (fit_put (fit_put (fit_forEach (fit_put (fit_put (fit_put (fit_put h)))) fun _ _ ht => fit_put
      ht))))))

theorem fit_returnErase : s.returnErase.Fit := fit_ifDo h fun _ ht => fit_findHead (fit_put (fit_top ht))

theorem fit_loadCal : s.loadCal.Fit := fit_foldl h fun _ _ ht => fit_forEach ht fun _ _ hu => fit_put hu

theorem fit_romBoot : s.romBoot.Fit := by
  unfold State.romBoot
  exact
    fit_ifDo (fit_ifDo (fit_bootSlot (fit_returnErase (fit_ifDo (fit_ifDo (fit_flushStaging (fit_findHead (fit_ifDo (fit_ifDo (fit_put (fit_loadCal
      (fit_forEach (fit_put (fit_put (fit_fclkOn h))) fun _ _ ht => fit_put ht))) fun _ ht => fit_raise ht) fun _ ht => fit_top ht))) fun _ ht =>
      fit_writeResetRec ht) fun _ ht => fit_raise (fit_put (fit_flushStaging (fit_stageCritical ht)))))) fun _ ht => fit_raise ht) fun _ ht =>
      fit_raise ht

theorem fit_closeWindow : s.closeWindow.Fit := by
  unfold State.closeWindow
  exact fit_tableCheck (fit_takeMap (fit_put (fit_put h)))

/- Interrupts and timers. -/

theorem fit_claimTake {t n : Nat} : (s.claimTake t n).Fit := fit_put (fit_setArr (fit_put (fit_setArr h)))

theorem fit_putWide {n v : Nat} {lo hi : Fld} : (s.putWide lo hi n v).Fit := fit_put (fit_put h)

theorem fit_tmCommit {n : Nat} : (s.tmCommit n).Fit := fit_put (fit_put h)

theorem fit_tmStop {n : Nat} : (s.tmStop n).Fit := fit_ifDo (fit_put h) fun _ ht => fit_tmCommit ht

theorem fit_tmPin {n act : Nat} : (s.tmPin n act).Fit := by
  unfold State.tmPin
  split
  · exact fit_put h
  · exact fit_put h
  · exact fit_put h
  · exact h

theorem fit_tmEvent {n : Nat} {bit act stop : Fld} : (s.tmEvent n bit act stop).Fit :=
  fit_wake (fit_ifDo (fit_tmPin (fit_flag h)) fun _ ht => fit_tmStop ht)

theorem fit_tmArrive {n c : Nat} {wrap : Bool} : (s.tmArrive n c wrap).Fit :=
  fit_ifDo (fit_ifDo (fit_putWide h) fun _ ht => fit_tmEvent ht) fun _ ht => fit_tmEvent ht

theorem fit_tmTick {n : Nat} : (s.tmTick n).Fit := fit_ite h (fit_tmArrive (fit_ifDo h fun _ ht => fit_tmCommit ht))

theorem fit_tmJump {n d fuel : Nat} : (s.tmJump n d fuel).Fit := by
  induction fuel generalizing s d with
  | zero => exact h
  | succ k ih => exact fit_ite h (fit_ite (fit_putWide h) (ih (fit_ite (fit_tmArrive h) (fit_tmArrive h))))

theorem fit_tmPass {n d : Nat} : (s.tmPass n d).Fit := fit_tmJump (fit_ifDo h fun _ ht => fit_tmCommit ht)

theorem fit_tmCtrl {n w : Nat} : (s.tmCtrl n w).Fit :=
  fit_wake (fit_ite (fit_put (fit_ifDo (fit_foldl (fit_ite (fit_ifDo h fun _ ht => fit_put ht) (fit_ifDo (fit_foldl h fun _ _ ht => fit_put ht)
    fun _ ht => fit_put ht)) fun _ _ ht => fit_put ht) fun _ ht => fit_put ht)) (fit_tmStop (fit_ifDo (fit_foldl (fit_ite (fit_ifDo h fun _ ht =>
    fit_put ht) (fit_ifDo (fit_foldl h fun _ _ ht => fit_put ht) fun _ ht => fit_put ht)) fun _ _ ht => fit_put ht) fun _ ht => fit_put ht)))

theorem fit_tmSet {n w : Nat} {f : Fld} : (s.tmSet f n w).Fit := fit_ite (fit_put h) (fit_put h)

theorem fit_tmMatHi {n w : Nat} : (s.tmMatHi n w).Fit := fit_ite (fit_put (fit_put h)) (fit_tmCommit (fit_put h))

theorem fit_tmGlobal {w : Nat} : (s.tmGlobal w).Fit :=
  fit_ifDo (fit_ifDo h fun _ ht => fit_forEach ht fun _ _ hu => fit_put hu) fun _ ht => fit_forEach ht fun _ _ hu => fit_tmStop hu

/- The backup domain. -/

theorem fit_slowTick : s.slowTick.Fit := fit_ite (fit_put (fit_put (fit_put (fit_put h)))) (fit_put (fit_put h))

theorem fit_trimStart {temp : Int} : (s.trimStart temp).Fit := by
  unfold State.trimStart
  exact fit_ifDo (fit_put h) fun _ ht => fit_put ht

theorem fit_almFire : s.almFire.Fit := fit_wake (fit_ifDo (fit_ifDo (fit_put (fit_put h)) fun _ ht => fit_put ht) fun _ ht => fit_put ht)

theorem fit_fieldWrite {n w : Nat} {f : Fld} : (s.fieldWrite f n w).Fit := by
  unfold State.fieldWrite
  dsimp only
  split
  · exact fit_put h
  · exact fit_ifDo h fun _ ht => fit_put ht
  · exact fit_put h
  · exact fit_put h
  · exact fit_put h
  · exact h
  · exact h

theorem fit_regStore {a w : Nat} : (s.regStore a w).Fit := fit_foldl h fun _ _ ht => fit_fieldWrite ht

theorem fit_bkApply {a w : Nat} : (s.bkApply a w).Fit :=
  fit_ifDo (fit_ifDo (fit_ifDo (fit_regStore h) fun _ ht => fit_put ht) fun _ ht => fit_put ht) fun _ ht => fit_ite (fit_put (fit_put (fit_put
    (fit_put ht)))) (fit_put ht)

theorem fit_bkReach : s.bkReach.Fit := by
  unfold State.bkReach
  split
  · exact h
  · exact fit_bkApply (fit_top h)

theorem fit_bkDrain : s.bkDrain.Fit := fit_foldl h fun _ _ ht => fit_bkReach ht

/- The identities, their watchdogs and mailboxes. -/

theorem fit_stallGo {st : Nat} : (s.stallGo st).Fit := fit_ifDo (fit_setSl h) fun _ ht => fit_demand ht

theorem fit_stallEnter {st : Nat} : (s.stallEnter st).Fit := fit_stallGo (fit_put (fit_archReset h))

theorem fit_startBadly {st : Nat} : (s.startBadly st).Fit := fit_put h

theorem fit_stallStart {st : Nat} : (s.stallStart st).Fit :=
  fit_ite (fit_setBit h) (fit_ite (fit_startBadly h) (fit_ite (fit_stallEnter h) (fit_ite (fit_stallGo (fit_put h)) h)))

theorem fit_stallRestart {st : Nat} : (s.stallRestart st).Fit := fit_ite (fit_setBit h) (fit_ite (fit_startBadly h) (fit_stallEnter h))

theorem fit_stlCtrl {w : Nat} : (s.stlCtrl w).Fit :=
  fit_forEach h fun _ _ ht => fit_ite (fit_stallRestart ht) (fit_ifDo ht fun _ hu => fit_stallStart hu)

theorem fit_kick {st w : Nat} {own : Bool} : (s.kick st own w).Fit := fit_ite (fit_put h) (fit_put h)

theorem fit_mboxPut {b : Nat} {v : Word} (room : s.mboxFull b = false) : (s.mboxPut b v).Fit := by
  have less : (s.mail.filter fun e => e.1 == b).length < mboxSize b := by simpa [State.mboxFull, State.mbox] using room
  exact fit_ifDo (fit_word h v less) fun _ ht => fit_wake ht

theorem fit_mboxDrop {b : Nat} : (s.mboxDrop b).Fit := fit_words h List.eraseP_sublist

theorem fit_mboxFlush {b : Nat} : (s.mboxFlush b).Fit := fit_words h List.filter_sublist

theorem fit_hostPost {st : Nat} {v : Word} : (s.hostPost st v).Fit := by
  unfold State.hostPost
  split
  · exact fit_put h
  · next room => exact fit_mboxPut h (by simpa using room)

theorem fit_mbxCtrl {w : Nat} : (s.mbxCtrl w).Fit :=
  fit_forEach (fit_ifDo (fit_ifDo h fun _ ht => fit_mboxDrop ht) fun _ ht => fit_mboxFlush ht) fun _ _ ht => fit_mboxFlush ht

theorem fit_wdCount {st d : Nat} : (s.wdCount st d).Fit := fit_ifDo (fit_put h) fun _ ht => fit_wake (fit_flag ht)

theorem fit_wdExpire {l : List Nat} : (s.wdExpire l).Fit :=
  fit_ifDo (fit_forEach h fun _ _ ht => fit_raise (fit_put ht)) fun _ ht => fit_warmReset ht

theorem fit_passTnow {d : Nat} : (s.passTnow d).Fit :=
  fit_wdExpire (fit_forEach (fit_chgTime (fit_forEach (fit_put h) fun _ _ ht => fit_tmPass ht)) fun _ _ ht => fit_wdCount ht)

theorem fit_slowPass {k : Nat} : (s.slowPass k).Fit :=
  fit_forEach (fit_put (fit_ite h (fit_put (fit_put (fit_slowTick h))))) fun _ _ ht => fit_tmPass ht

theorem fit_passTime {d : Nat} : (s.passTime d).Fit := fit_slowPass (fit_put (fit_passTnow h))

theorem fit_advanceTo {t : Nat} : (s.advanceTo t).Fit := fit_ite h (fit_passTime h)

theorem fit_fencePair {p : Nat} : (s.fencePair p).Fit := fit_setBit h

theorem fit_spareFor {st : Nat} : (s.spareFor st).Fit := fit_put (fit_put (fit_put h))

theorem fit_secondFailure {st : Nat} : (s.secondFailure st).Fit :=
  fit_raise (fit_ifDo (fit_put (fit_put (fit_setBit (fit_setSl (fit_fencePair h))))) fun _ ht => fit_put (fit_put ht))

theorem fit_spareLost : s.spareLost.Fit := fit_raise (fit_put (fit_fencePair h))

theorem fit_takeover {st : Nat} {issued : Bool} : (s.takeover st issued).Fit :=
  fit_raise (fit_put (fit_put (fit_put (fit_sat (fit_spareFor (fit_setSl (fit_put (fit_fencePair h))))))))

theorem fit_mismatch {p : Nat} {issued : Bool} : (s.mismatch p issued).Fit := by
  unfold State.mismatch
  split
  · exact fit_ifDo h fun _ ht => fit_spareLost ht
  · exact
      fit_ite (fit_ite (fit_warmReset (fit_spareFor (fit_fencePair h))) (fit_secondFailure h)) (fit_ite h (fit_ite (fit_takeover h)
        (fit_secondFailure h)))

theorem fit_takeoverEnd {st dur : Nat} : (s.takeoverEnd st dur).Fit :=
  fit_put (fit_ifDo (fit_ite (fit_stallRestart (fit_put (fit_record (fit_put (fit_put (fit_put (fit_setSl (fit_top h)))))))) (fit_ifDo (fit_put
    (fit_record (fit_put (fit_put (fit_put (fit_setSl (fit_top h))))))) fun _ ht => fit_stallStart ht)) fun _ ht => fit_put (fit_put ht))

/- Debug sessions. -/

theorem fit_lcRequest {w : Nat} {debug field : Bool} : (s.lcRequest debug field w).Fit := fit_ite h (fit_ite (fit_put (fit_put h)) (fit_put h))

theorem fit_otpCmd {w : Nat} : (s.otpCmd w).Fit :=
  fit_ite (fit_ifDo h fun _ ht => fit_put ht) (fit_ite (fit_put (fit_put (fit_ifDo h fun _ ht => fit_put ht))) (fit_put (fit_ifDo h fun _ ht =>
    fit_put ht)))

theorem fit_tapDbg : s.tapDbg.Fit := fit_put h

theorem fit_openSession {k : Nat} : (s.openSession k).Fit := fit_raise (fit_put h)

theorem fit_tpApplied : s.tpApplied.Fit := fit_raise (fit_sat h)

theorem fit_tpCtrl {w : Nat} : (s.tpCtrl w).Fit :=
  fit_ifDo (fit_forEach (fit_forEach (fit_regStore h) fun _ _ ht => fit_put ht) fun _ _ ht => fit_put ht) fun _ ht => fit_tpApplied ht

theorem fit_tpMag0 {w : Nat} : (s.tpMag0 w).Fit := fit_ifDo (fit_put (fit_put h)) fun _ ht => fit_tpApplied ht

theorem fit_tpMag1 {w : Nat} : (s.tpMag1 w).Fit := fit_ifDo (fit_put (fit_put (fit_put (fit_put h)))) fun _ ht => fit_tpApplied ht

/- Port commands. -/

theorem fit_hardReset {x : Nat} : (s.hardReset x).Fit :=
  fit_ite (fit_put (fit_put (fit_put (fit_put (fit_put (fit_protoReset h)))))) (fit_ifDo (fit_protoReset h) fun _ ht => fit_portEnds ht)

theorem fit_sendHardReset {x : Nat} : (s.sendHardReset x).Fit := fit_portFlag (fit_tx (fit_hardReset h))

theorem fit_portAct {x cmd : Nat} : (s.portAct x cmd).Fit := by
  refine fit_ite (fit_portFlag h) ?_
  split
  · exact fit_ite (fit_sendCaps h) (fit_tx (fit_put h))
  · exact fit_tx (fit_put h)
  · exact fit_tx (fit_put h)
  · exact fit_sendHardReset h
  · exact fit_put (fit_put h)
  · exact h

/- The Scales and the criers. -/

theorem fit_deal : s.deal.Fit := fit_forEach (fit_put (fit_put h)) fun _ _ ht => fit_put (fit_put (fit_put ht))

theorem fit_chanTake {n : Nat} : (s.chanTake n).Fit :=
  fit_ite h (fit_ifDo (fit_forEach (fit_put h) fun _ _ ht => fit_put ht) fun _ ht => fit_mark (fit_put (fit_put ht)))

theorem fit_enterBlind : s.enterBlind.Fit :=
  fit_ite h (fit_raise (fit_forEach (fit_forEach (fit_put (fit_put (fit_put h))) fun _ _ ht => fit_put ht) fun _ _ ht => fit_put ht))

theorem fit_convJoin {x : Nat} : (s.convJoin x).Fit := fit_put (fit_put (fit_setBit h))

theorem fit_scanStart : s.scanStart.Fit := by
  refine
    fit_ifDo (fit_deal (fit_forEach (fit_forEach (fit_forEach h fun _ _ ht => ?_) fun _ _ ht => fit_chanTake ht) fun _ _ ht => fit_put ht))
      fun _ ht => fit_enterBlind ht
  split
  · exact fit_fenceConv ht
  · exact fit_put (fit_convJoin ht)
  · exact ht

theorem fit_pmSet {p bit : Nat} {f : Fld} : (s.pmSet f p bit).Fit := fit_ifDo (fit_setBit h) fun _ ht => fit_put ht

theorem fit_pmLatch {n zone : Nat} : (s.pmLatch n zone).Fit :=
  fit_ite h (fit_forEach (fit_forEach h fun _ _ ht => fit_pmSet ht) fun _ _ ht => fit_ifDo (fit_ifDo ht fun _ hu => fit_pmSet hu) fun _ hu =>
    fit_pmSet hu)

theorem fit_zoneTo {n zone : Nat} : (s.zoneTo n zone).Fit :=
  fit_pmLatch (fit_ifDo (fit_ifDo h fun _ ht => fit_zoneFault (fit_raise (fit_put ht))) fun _ ht => fit_irq ht)

theorem fit_judge {n v tag : Nat} : (s.judge n v tag).Fit :=
  fit_put (fit_put (fit_put (fit_put (fit_forEach h fun _ _ ht => fit_ifDo ht fun _ hu => fit_put hu))))

theorem fit_crierMove {c : Nat} {hi v : Bool} : (s.crierMove c hi v).Fit := fit_put (fit_mark h)

theorem fit_crierTake {c : Nat} {hi v : Bool} : (s.crierTake c hi v).Fit :=
  fit_ite (fit_mark h) (fit_ifDo (fit_ifDo (fit_raise (fit_irq (fit_flag (fit_mark h)))) fun _ ht => fit_demand ht) fun _ ht => fit_crierAct ht)

theorem fit_crierCheck {c : Nat} {v : Option Nat} : (s.crierCheck c v).Fit := by
  unfold State.crierCheck
  split
  · exact fit_put h
  · exact
      fit_ite (fit_ifDo (fit_put h) fun _ ht => fit_ifDo (fit_ifDo (fit_put ht) fun _ hu => fit_raise hu) fun _ hu => fit_put (fit_put hu))
        (fit_ifDo (fit_put h) fun _ ht => fit_mark (fit_mark (fit_put (fit_put (fit_put ht)))))

theorem fit_zerosTake {m : ScanSample} : (s.zerosTake m).Fit :=
  fit_forEach h fun _ _ ht => fit_put (fit_forEach (fit_put ht) fun _ _ hu => fit_put hu)

theorem fit_checks {m : ScanSample} : (s.checks m).Fit := fit_forEach h fun _ _ ht => fit_put (fit_ifDo ht fun _ hu => fit_put hu)

theorem fit_convFlt {x : Nat} : (s.convFlt x).Fit := fit_ifDo h fun _ ht => fit_raise ht

theorem fit_judgeAll {tag : Nat} {vals : List (Nat × Nat)} : (s.judgeAll vals tag).Fit :=
  fit_tryGoods (fit_forEach (fit_foldl (fit_forEach (fit_foldl (fit_ifDo h fun _ ht => fit_record (fit_put (fit_put ht))) fun _ _ ht => fit_judge
    ht) fun _ _ ht => fit_put ht) fun _ _ ht => fit_ifDo ht fun _ hu => fit_zoneTo hu) fun _ _ ht => fit_crierCheck ht)

theorem fit_scanJudge {m : ScanSample} : (s.scanJudge m).2.Fit := by
  unfold State.scanJudge
  dsimp only
  split
  · exact fit_forEach (fit_forEach (fit_put (fit_checks (fit_zerosTake h))) fun _ _ ht => fit_put ht) fun _ _ ht => fit_convFlt ht
  · split
    · exact
        fit_ifDo (fit_forEach (fit_raise (fit_put (fit_put (fit_forEach (fit_put (fit_checks (fit_zerosTake h))) fun _ _ ht => fit_put ht))))
          fun _ _ ht => fit_convFlt ht) fun _ ht => fit_enterBlind ht
    · split
      · exact fit_judgeAll (fit_forEach (fit_put (fit_put (fit_put (fit_checks (fit_zerosTake h))))) fun _ _ ht => fit_convFlt ht)
      · exact
          fit_irq (fit_forEach (fit_forEach (fit_forEach (fit_put (fit_put (fit_put (fit_checks (fit_zerosTake h))))) fun _ _ ht => fit_convFlt ht)
            fun _ _ ht => fit_put ht) fun _ _ ht => fit_fenceConv ht)

theorem fit_scanEnd {m : ScanSample} : (s.scanEnd m).Fit :=
  fit_ite (fit_scanStart (fit_scanJudge h)) (fit_ite (fit_scanStart (fit_scanJudge h)) (fit_put (fit_scanJudge h)))

theorem fit_burstStart : s.burstStart.Fit :=
  fit_scanStart (fit_ifDo (fit_put (fit_put (fit_put (fit_put (fit_demand h))))) fun _ ht => fit_forEach ht fun _ _ hu => fit_ifDo hu fun _ hv =>
    fit_fenceConv hv)

theorem fit_unpack {n w : Nat} {l : List Fld} : (s.unpack l n w).Fit := fit_foldl h fun _ _ ht => fit_put ht

theorem fit_chanKeep {n bit : Nat} : (s.chanKeep n bit).Fit := fit_ite h (fit_setBit (fit_ite (fit_put h) (fit_put (fit_put h))))

theorem fit_chanThr {n w : Nat} {uv : Bool} : (s.chanThr n uv w).Fit := fit_unpack (fit_chanKeep h)

theorem fit_crierWrite {c w : Nat} {thr : Bool} : (s.crierWrite c thr w).Fit :=
  fit_ite (fit_put (fit_put (fit_ifDo (fit_ifDo (fit_ifDo (fit_unpack h) fun _ ht => fit_put (fit_put ht)) fun _ ht => fit_crierMove ht) fun _ ht =>
    fit_crierMove ht))) (fit_crierIdle (fit_ifDo (fit_unpack h) fun _ ht => fit_put (fit_put ht)))

/- Register accesses. -/

theorem fit_reportRefused {a : Nat} {w : Writer} : (s.reportRefused w a).Fit := by
  unfold State.reportRefused
  dsimp only
  split
  · exact fit_setBit (fit_sat (fit_put (fit_put h)))
  · exact fit_setBit (fit_sat (fit_put (fit_put h)))
  · exact fit_raise (fit_put (fit_sat (fit_put (fit_put h))))
  · exact fit_sat (fit_put (fit_put h))

theorem fit_nvmQueue {a v : Nat} : (s.nvmQueue a v).Fit := by
  unfold State.nvmQueue
  split
  · exact fit_put h
  · next room => exact fit_nvmNext (fit_write h _ (Nat.lt_of_not_le room))

theorem fit_nvmWrite {a v : Nat} : (s.nvmWrite a v).Fit := fit_ite (fit_nvmQueue h) h

theorem fit_dbkSeen {a : Nat} : (s.dbkSeen a).Fit := by
  unfold State.dbkSeen
  exact fit_ifDo h fun _ ht => fit_put ht

theorem fit_claim {t : Nat} {w : Writer} : (s.claim w t).2.Fit := by
  unfold State.claim
  split
  · exact h
  · split
    · exact fit_put h
    · split
      · exact h
      · exact fit_claimTake h

theorem fit_busRead {a : Nat} {w : Writer} : (s.busRead w a).2.Fit := by
  unfold State.busRead
  extract_lets word awake reached
  have hr : reached.Fit := fit_ite (fit_tapDbg (fit_ite h (fit_demand h))) (fit_ite h (fit_demand h))
  split
  · exact fit_claim hr
  · split
    · exact fit_dbkSeen hr
    · split
      · split
        · exact fit_put hr
        · exact hr
      · exact hr

theorem fit_bkWrite {a v : Nat} : (s.bkWrite a v).Fit := fit_ite h (fit_top h)

theorem fit_storeSys {a v : Nat} : (s.storeSys a v).Fit := by
  unfold State.storeSys
  split
  · exact fit_ite (fit_warmReset (fit_regStore h)) (fit_ifDo (fit_regStore h) fun _ ht => fit_put ht)
  · exact fit_nvmQueue h
  · exact fit_ifDo (fit_regStore h) fun _ ht => fit_put (fit_put ht)
  · exact fit_ifDo (fit_regStore h) fun _ ht => fit_put ht
  · exact fit_regStore h

theorem fit_stbyCfg {v : Nat} : (s.stbyCfg v).Fit := by
  unfold State.stbyCfg
  exact fit_ifDo (fit_regStore h) fun _ ht => fit_mark ht

theorem fit_storePwr {a v : Nat} : (s.storePwr a v).Fit := by
  unfold State.storePwr
  split
  · exact fit_pwrReq h
  · exact fit_stbyCfg h
  · exact fit_regStore h

theorem fit_storeKpr {a v : Nat} {w : Writer} : (s.storeKpr w a v).Fit := by
  unfold State.storeKpr
  split
  · exact
      fit_ite (fit_ite (fit_put h) (fit_ite (fit_sat h) (fit_ite (fit_enterRising h) (fit_ifDo h fun _ ht => fit_put ht)))) (fit_ite (fit_requestOff
        h) h)
  · exact fit_ifDo (fit_regStore h) fun _ ht => fit_put ht
  · exact fit_ifDo h fun _ ht => fit_stageOther ht
  · exact fit_regStore h

theorem fit_frameWrite {v : Nat} : (s.frameWrite v).Fit :=
  fit_ite (fit_ifDo (fit_regStore h) fun _ ht => fit_put ht) (fit_regStore (fit_ite (fit_ifDo h fun _ ht => fit_put ht) (fit_put (fit_put h))))

theorem fit_loopCtrl {a v : Nat} : (s.loopCtrl a v).Fit := by
  unfold State.loopCtrl
  exact fit_ite (fit_ifDo (fit_regStore h) fun _ ht => fit_put ht) (fit_regStore h)

theorem fit_phCfg {k v : Nat} : (s.phCfg k v).Fit := by
  unfold State.phCfg
  exact
    fit_ite (fit_ifDo (fit_ifDo h fun _ ht => fit_put ht) fun _ ht => fit_put ht) (fit_ite (fit_put h) (fit_forEach (fit_regStore h) fun _ _ ht =>
      fit_capLow (fit_irq ht)))

theorem fit_lpStat {n v : Nat} : (s.lpStat n v).Fit := by
  unfold State.lpStat
  exact fit_ifDo (fit_regStore h) fun _ ht => fit_put ht

theorem fit_storeMlc {a v : Nat} : (s.storeMlc a v).Fit :=
  fit_ite (fit_frameWrite h) (fit_ite (fit_phCfg h) (fit_ite (fit_loopCtrl h) (fit_ite (fit_lpStat h) (fit_regStore h))))

theorem fit_storeChan {a v : Nat} : (s.storeChan a v).Fit := by
  unfold State.storeChan
  dsimp only
  split
  · exact
      fit_ite (fit_put h) (fit_ifDo (fit_ifDo (fit_unpack (fit_chanKeep h)) fun _ ht => fit_ifDo ht fun _ hu => fit_crierIdle (fit_put (fit_put
        hu))) fun _ ht => fit_ifDo ht fun _ hu => fit_crierIdle (fit_put (fit_put hu)))
  · exact fit_chanThr h
  · exact fit_chanThr h
  · exact fit_regStore h

theorem fit_storeCrier {a v : Nat} : (s.storeCrier a v).Fit := fit_ite (fit_crierWrite h) (fit_ite (fit_crierWrite h) (fit_regStore h))

theorem fit_storePath {a v : Nat} : (s.storePath a v).Fit := by
  unfold State.storePath
  split
  · exact
      fit_selectNext (fit_forEach (fit_regStore h) fun _ _ ht => fit_ite ht (fit_ite (fit_notReady (fit_setInSt ht)) (fit_ifDo ht fun _ hu =>
        fit_setInSt hu)))
  · exact
      fit_ifDo (fit_ifDo (fit_ifDo (fit_ifDo (fit_regStore h) fun _ ht => fit_batGo ht) fun _ ht => fit_retest ht) fun _ ht => fit_ite ht (fit_ifDo
        (fit_setPhase ht) fun _ hu => fit_chgFault hu)) fun _ ht => fit_ifDo ht fun _ hu => fit_searchStart (fit_setInSt hu)
  · exact fit_regStore h

theorem fit_storePort {a v : Nat} : (s.storePort a v).Fit := by
  refine fit_ite h ?_
  split
  · exact fit_ite (fit_portCfgTake h) (fit_put (fit_put h))
  · exact fit_ifDo (fit_put h) fun _ ht => fit_ite (fit_requestBest ht) (fit_put ht)
  · exact fit_ite h (fit_ite (fit_put h) (fit_portAct h))
  · exact fit_regStore h

theorem fit_storeGauge {a v : Nat} : (s.storeGauge a v).Fit :=
  fit_ifDo (fit_regStore h) fun _ ht => fit_ite (fit_put ht) (fit_jrnlLearn (fit_put (fit_gaugeRestart (fit_put (fit_put (fit_top ht))))))

theorem fit_hostAdmit {v : Nat} : (s.hostAdmit v).Fit := by
  unfold State.hostAdmit
  exact fit_ifDo (fit_ifDo h fun _ ht => fit_ite (fit_put ht) (fit_admitUnit ht)) fun _ ht => fit_put ht

theorem fit_storeLedger {a v : Nat} {w : Writer} : (s.storeLedger w a v).Fit := by
  unfold State.storeLedger
  exact fit_ite (fit_ifDo h fun _ ht => fit_hostAdmit ht) (fit_ite (fit_forEach h fun _ _ ht => fit_clearSticky ht) (fit_regStore h))

theorem fit_storeIrq {a v : Nat} : (s.storeIrq a v).Fit :=
  fit_ite (fit_forEach (fit_put h) fun _ _ ht => fit_wake ht) (fit_ite (fit_put h) (fit_ite (fit_ite h (fit_ite (fit_wake (fit_setArr h))
    (fit_setBit h))) (fit_ite (fit_ite (fit_ite (fit_forEach (fit_put h) fun _ _ ht => fit_wake ht) (fit_put h)) (fit_ite (fit_forEach (fit_put h)
    fun _ _ ht => fit_wake ht) (fit_put h))) (fit_regStore h))))

theorem fit_storeTimer {a v : Nat} : (s.storeTimer a v).Fit := by
  refine fit_ite (fit_tmGlobal h) (fit_ite h ?_)
  dsimp only
  split
  · exact fit_tmCtrl h
  · exact fit_tmSet h
  · exact fit_tmSet h
  · exact fit_tmMatHi h
  · exact fit_tmSet h
  · exact fit_tmSet h
  · exact fit_regStore h

theorem fit_storeStall {a v : Nat} {w : Writer} : (s.storeStall w a v).Fit :=
  fit_ite (fit_stlCtrl h) (fit_ite (fit_kick h) (fit_ite (fit_hostPost h) (fit_ite (fit_mbxCtrl h) (fit_regStore h))))

theorem fit_storeSec {a v : Nat} {w : Writer} : (s.storeSec w a v).Fit := by
  unfold State.storeSec
  split
  · exact fit_lcRequest h
  · exact fit_otpCmd h
  · exact fit_tpCtrl h
  · exact fit_tpMag0 h
  · exact fit_tpMag1 h
  · exact fit_regStore h

theorem fit_store {a v : Nat} {w : Writer} : (s.store w a v).Fit :=
  fit_ite (fit_bkWrite h) (fit_ite (fit_storeSys h) (fit_ite (fit_storePwr h) (fit_ite (fit_storeKpr h) (fit_ite (fit_storeMlc h) (fit_ite
    (fit_storeChan h) (fit_ite (fit_storeCrier h) (fit_ite (fit_storePath h) (fit_ite (fit_storePort h) (fit_ite (fit_storeGauge h) (fit_ite
    (fit_storeLedger h) (fit_ite h (fit_ite (fit_storeIrq h) (fit_ite (fit_storeTimer h) (fit_ite (fit_storeStall h) (fit_ite (fit_storeSec h)
    (fit_ite (fit_nvmWrite h) h))))))))))))))))

theorem fit_busWrite {a v : Nat} {w : Writer} : (s.busWrite w a v).2.Fit := by
  unfold State.busWrite
  extract_lets word awake reached
  have hr : reached.Fit := fit_ite (fit_tapDbg (fit_ite h (fit_demand h))) (fit_ite h (fit_demand h))
  split
  · exact h
  · split
    · exact fit_reportRefused hr
    · exact fit_store hr

theorem fit_spiFrame {w : Writer} : (s.spiFrame w).Fit := fit_ifDo h fun _ ht => fit_put ht

/- The events of a loop. -/

theorem fit_softBegins {n vPre : Nat} : (s.softBegins n vPre).Fit := fit_put (fit_put (fit_put (fit_put h)))

theorem fit_softEnds {n : Nat} : (s.softEnds n).Fit := fit_tryGoods (fit_put (fit_put (fit_put (fit_put h))))

theorem fit_pgTick {n : Nat} : (s.pgTick n).Fit :=
  fit_ite (fit_put h) (fit_ite (fit_ite (fit_pgLow h) (fit_put h)) (fit_ite (fit_put (fit_pgHigh h)) (fit_put h)))

theorem fit_loopUs {n : Nat} : (s.loopUs n).Fit :=
  fit_ite h (fit_ite (fit_loopStopped (fit_rampTick h)) (fit_pgTick (fit_eventEnds (fit_loopClock (fit_ifDo (fit_rampTick h) fun _ ht =>
    fit_softEnds ht)))))

/- The events of the criers. -/

theorem fit_crierSet {c : Nat} {hi v : Bool} : (s.crierSet c hi v).Fit := fit_ifDo (fit_crierMove h) fun _ ht => fit_crierTake ht

theorem fit_blankEnds {c : Nat} : (s.blankEnds c).Fit :=
  fit_ifDo (fit_put h) fun _ ht => fit_ifDo (fit_ifDo ht fun _ hu => fit_crierTake hu) fun _ hu => fit_crierTake hu

theorem fit_crierSees {c uv ns : Nat} {hi : Bool} : (s.crierSees c hi uv ns).Fit :=
  fit_ite (fit_crierMove h) (fit_ifDo h fun _ ht => fit_crierMove ht)

/- Timed records. -/

theorem fit_timedDue : s.timedDue.Fit := fit_stageOther (fit_demand (fit_put h))

/- Inputs and the charger. -/

theorem fit_stepsInput {i : Nat} : (s.stepsInput i).Fit := fit_ite h (fit_ite (fit_rest (fit_put h)) (fit_ifDo h fun _ ht => fit_rest ht))

theorem fit_tripNote {x : Nat} : (s.tripNote x).Fit := fit_sat (fit_put (fit_put h))

theorem fit_sinkOv {x : Nat} : (s.sinkOv x).Fit :=
  fit_ifDo (fit_ifDo (fit_ifDo (fit_ite (fit_lostInput (fit_flag (fit_put (fit_raise (fit_portFlag (fit_tripNote h)))))) (fit_notReady (fit_setInSt
    (fit_put (fit_raise (fit_portFlag (fit_tripNote h))))))) fun _ ht => fit_sendHardReset ht) fun _ ht => fit_portAbort ht) fun _ ht => fit_put
    (fit_unattach ht)

theorem fit_lossBy {i : Nat} {cause : LossCause} : (s.lossBy i cause).Fit := by
  unfold State.lossBy
  split
  · exact fit_ite (fit_lostInput (fit_put (fit_mark h))) (fit_ifDo (fit_lostInput (fit_put (fit_mark h))) fun _ ht => fit_portAbort ht)
  · exact fit_ite (fit_lostInput (fit_put (fit_flag h))) (fit_sinkOv h)
  · exact fit_ifDo (fit_lostInput (fit_mark (fit_flag h))) fun _ ht => fit_raise (fit_portFlag ht)

theorem fit_phaseMove {vbat : Nat} : (s.phaseMove vbat).Fit := by
  unfold State.phaseMove
  dsimp only
  split
  · exact fit_ifDo (fit_ifDo h fun _ ht => fit_mark ht) fun _ ht => fit_phaseFrom ht
  · exact fit_ifDo (fit_ifDo h fun _ ht => fit_mark ht) fun _ ht => fit_setPhase ht
  · exact fit_ifDo (fit_ifDo h fun _ ht => fit_mark ht) fun _ ht => fit_setPhase ht
  · exact fit_ifDo h fun _ ht => fit_mark ht

/- Attachment, messages and swaps. -/

theorem fit_attach {x : Nat} {a : Attach} : (s.attach x a).Fit := by
  unfold State.attach
  split
  · exact fit_ifDo h fun _ ht => fit_put ht
  · exact fit_ifDo h fun _ ht => fit_portFlag (fit_put (fit_mark (fit_put (fit_put (fit_put (fit_put ht))))))
  · exact
      fit_ite h (fit_ite (fit_put (fit_put h)) (fit_sourceStart (fit_mark (fit_portFlag (fit_put (fit_mark (fit_put (fit_put (fit_put (fit_put
        h))))))))))

theorem fit_rev {x : Nat} {rev3 : Bool} : (s.rev x rev3).Fit := fit_put h

theorem fit_requestNow {x : Nat} : (s.requestNow x).Fit := fit_request h

theorem fit_prStart {x : Nat} : (s.prStart x).Fit := fit_ite (fit_put (fit_sourceOff (fit_noContract h))) (fit_put (fit_portEnds (fit_protoReset h)))

theorem fit_swapDone {x : Nat} : (s.swapDone x).Fit := fit_put (fit_portFlag h)

theorem fit_flipData {x : Nat} : (s.flipData x).Fit := fit_swapDone (fit_put h)

theorem fit_refusedReq {x : Nat} : (s.refusedReq x).Fit := by
  unfold State.refusedReq
  exact fit_ifDo (fit_put (fit_portFlag h)) fun _ ht => fit_put ht

theorem fit_afterContract {x : Nat} : (s.afterContract x).Fit := fit_ite (fit_tx (fit_put (fit_put h))) (fit_eprEnter h)

theorem fit_prRdy {x : Nat} : (s.prRdy x).Fit := fit_ite (fit_swapDone (fit_put (fit_put h))) (fit_sourceStart (fit_put (fit_put h)))

theorem fit_eprMode {x action : Nat} : (s.eprMode x action).Fit := by
  unfold State.eprMode
  split
  · exact fit_ifDo h fun _ ht => fit_put ht
  · exact fit_ifDo h fun _ ht => fit_put (fit_put (fit_put ht))
  · exact fit_ifDo h fun _ ht => fit_eprFail ht
  · exact fit_ifDo h fun _ ht => fit_ite (fit_sendHardReset ht) (fit_put (fit_put (fit_put ht)))
  · exact fit_nsup h

theorem fit_settleFail {x : Nat} : (s.settleFail x).Fit := fit_raise (fit_portFlag h)

theorem fit_sourceTrip {x : Nat} {bit : Fld} : (s.sourceTrip x bit).Fit := fit_ifDo h fun _ ht => fit_raise (fit_unattach (fit_portFlag ht))

/- The fault bus and the backup domain. -/

theorem fit_tmWait {n d : Nat} : (s.tmWait n d).Fit := fit_ite (fit_passTime h) (fit_passTime h)

/- The host links. -/

theorem fit_readBurst {a n : Nat} {w : Writer} : (s.readBurst w a n).2.Fit := by
  induction n generalizing s a with
  | zero => exact h
  | succ k ih => exact ih (fit_busRead h)

theorem fit_writeBurst {a : Nat} {w : Writer} {l : List Word} : (s.writeBurst w a l).Fit := by
  induction l generalizing s a with
  | nil => exact h
  | cons v l ih => exact ih (fit_busWrite h)

theorem fit_lastCrc : s.lastCrc.Fit := fit_setBit h

theorem fit_headCrcBad : s.headCrcBad.Fit := fit_sat h

theorem fit_frameBad : s.frameBad.Fit := fit_put (fit_put h)

theorem fit_cml {bit : Nat} : (s.cml bit).Fit := fit_setBit h

theorem fit_nack {bit : Nat} : (s.nack bit).Fit := fit_top (fit_cml h)

theorem fit_smbWrite {cmd : BitVec 8} {data : List (BitVec 8)} {pec : Option (BitVec 8)} {f : State → State}
    (hf : ∀ t : State, t.Fit → (f t).Fit) : (s.smbWrite cmd data pec f).Fit := by
  unfold State.smbWrite
  dsimp only
  split
  · exact fit_ite (hf _ (fit_top h)) (fit_cml (fit_put (fit_top h)))
  · exact fit_ite (fit_put (fit_top h)) (hf _ (fit_top h))

theorem fit_smbSend {cmd : BitVec 8} {data : List (BitVec 8)} : (s.smbSend cmd data).Fit := fit_top h

theorem fit_ptrOn {p n : Nat} : (s.ptrOn p n).Fit := fit_put h

theorem fit_relatch {p : Nat} : (s.relatch p).Fit := by
  refine
    fit_ite ?_ (fit_ifDo (fit_ifDo (fit_ifDo (fit_ifDo ?_ fun _ ht => fit_pmSet ht) fun _ ht => fit_pmSet ht) fun _ ht => fit_pmSet ht) fun _ ht =>
      fit_pmSet ht)
  · split
    · exact fit_ifDo h fun _ ht => fit_pmSet ht
    · exact h
  · split
    · exact fit_ifDo h fun _ ht => fit_pmSet ht
    · exact h

theorem fit_alertOff : s.alertOff.Fit := fit_ifDo h fun _ ht => fit_put ht

theorem fit_pageClear {p : Nat} : (s.pageClear p).Fit := fit_relatch (fit_put (fit_put (fit_put (fit_put h))))

theorem fit_latchUnknown : s.latchUnknown.Fit := by
  unfold State.latchUnknown
  split
  · exact fit_ifDo h fun _ ht => fit_pmSet ht
  · exact h

theorem fit_statusReg {cmd : BitVec 8} {f : Fld} {value pack : Nat → Nat} {wr pec : Option (BitVec 8)} :
    (s.statusReg cmd f value pack wr pec).Fit := by
  unfold State.statusReg
  split
  · exact fit_smbSend h
  · exact fit_smbWrite h fun _ ht => fit_alertOff (fit_relatch (fit_put ht))

theorem fit_sendVolt {cmd : BitVec 8} {f : Fld} : (s.sendVolt cmd f).Fit := by
  unfold State.sendVolt
  split
  · exact fit_smbSend h
  · exact fit_nack h

theorem fit_limit {cmd : BitVec 8} {f : Fld} {wr : Bool} : (s.limit cmd f wr).Fit := fit_ite (fit_top h) (fit_sendVolt h)

/- Flags. -/

theorem fit_setFlags {st : Nat} {x : Alu} : (s.setFlags st x).Fit := by
  unfold State.setFlags
  dsimp only
  split
  · refine fit_mark ?_
    split
    · exact fit_mark (fit_mark (fit_mark h))
    · exact fit_mark (fit_mark h)
  · split
    · exact fit_mark (fit_mark (fit_mark h))
    · exact fit_mark (fit_mark h)

/- Registers. -/

theorem fit_setReg {st : Nat} {r : RegN} {v : Word} : (s.setReg st r v).Fit := fit_ite h (fit_put h)

/- Power transitions. -/

theorem fit_wakeCauses {l : List Nat} : (s.wakeCauses l).Fit := fit_mark (fit_mark (fit_mark (fit_mark (fit_mark (fit_mark h)))))

theorem fit_vaoUp {r : Nat} {also : List Nat} {core ana : Bool} : (s.vaoUp r also core ana).Fit :=
  fit_ifDo (fit_forEach (fit_portsClamp (fit_put (fit_put (fit_put (fit_put (fit_put (fit_put (fit_mark (fit_mark (fit_put (fit_clearCauses (fit_put
    (fit_put (fit_put (fit_put (fit_ite (fit_ifDo (fit_wakeCauses h) fun _ ht => fit_put ht) (fit_ifDo (fit_ifDo (fit_wakeCauses h) fun _ ht =>
    fit_put ht) fun _ ht => fit_put ht))))))))))))))))) fun _ _ ht => fit_mark ht) fun _ ht => fit_qualify (fit_selectInput (fit_put ht))

theorem fit_runEnd : s.runEnd.Fit :=
  fit_ite (fit_pwrRefuse (fit_fclkOn (fit_put h))) (fit_ifDo (fit_ite (fit_portsActive (fit_put (fit_forEach (fit_put (fit_put (fit_put (fit_fclkOn
    (fit_put h))))) fun _ _ ht => fit_put ht))) (fit_enterHold (fit_forEach (fit_put (fit_put (fit_put (fit_fclkOn (fit_put h))))) fun _ _ ht =>
    fit_put ht))) fun _ ht => fit_scanStart ht)

/- Retirement, faults and side effects. -/

theorem fit_retireAt {st pc : Nat} : (s.retireAt st pc).Fit := fit_put (fit_put h)

theorem fit_retire {st : Nat} : (s.retire st).Fit := fit_retireAt h

theorem fit_progFault {st code : Nat} : (s.progFault st code).Fit := fit_raise (fit_setSl (fit_put (fit_put h)))

theorem fit_unlessFault {st : Nat} {ill : Bool} {l : List (Bool × Nat)} {f : State → State} (hf : ∀ t : State, t.Fit → (f t).Fit) :
    (s.unlessFault st ill l f).Fit := by
  unfold State.unlessFault
  split
  · exact hf s h
  · exact fit_progFault h

theorem fit_plain {st : Nat} {f : State → State} (hf : ∀ t : State, t.Fit → (f t).Fit) : (s.plain st f).Fit :=
  fit_unlessFault h fun t ht => fit_retire (hf t ht)

theorem fit_newRecord {st c : Nat} : (s.newRecord st c).Fit := fit_put (fit_put (fit_put (fit_put h)))

omit h in
theorem fit_answer {p : Prop} [Decidable p] {x y : Answer} (hx : x.after.Fit) (hy : y.after.Fit) : (if p then x else y).after.Fit := by
  split
  · exact hx
  · exact hy

theorem fit_complete1 {st c : Nat} {f : State → Answer} (hf : ∀ t : State, t.Fit → (f t).after.Fit) : (s.complete1 st c f).after.Fit := by
  unfold State.complete1
  extract_lets k r t
  have ht : t.Fit := fit_ifDo (hf _ (fit_put (fit_newRecord h))) fun _ hu => fit_put hu
  split
  · exact fit_put h
  · exact fit_ifDo (e := fun t => t.put Hid.CP_DAT k r.data) ht fun _ hu => fit_put hu

theorem fit_sideEffect {st c : Nat} {f : State → Answer} {g : Bool → Nat → State → State} (hf : ∀ t : State, t.Fit → (f t).after.Fit)
    (hg : ∀ refused data (t : State), t.Fit → (g refused data t).Fit) : (s.sideEffect st c f g).Fit :=
  hg _ _ _ (fit_ifDo (fit_complete1 (fit_retire (fit_put h)) hf) fun _ ht => fit_put ht)

theorem fit_keepArch {st : Nat} {old : State} : (s.keepArch old st).Fit := fit_foldl h fun _ _ ht => fit_forEach ht fun _ _ hu => fit_put hu

omit h in
theorem fit_runOne {st : Nat} {f : State → State} (hf : (f s).Fit) : (s.runOne st f).Fit := fit_ite (fit_mismatch (fit_put (fit_keepArch hf))) hf

/- The ALU. -/

theorem fit_alu {st : Nat} {rd : RegN} {x : Alu} : (s.alu st rd x).Fit := fit_plain h fun _ ht => fit_setFlags (fit_setReg ht)

theorem fit_aluFlags {st : Nat} {x : Alu} : (s.aluFlags st x).Fit := fit_plain h fun _ ht => fit_setFlags ht

theorem fit_load {st : Nat} {rd : RegN} {v : Word} : (s.load st rd v).Fit := fit_plain h fun _ ht => fit_setReg ht

theorem fit_aluImm {st : Nat} {rd : RegN} {imm : BitVec 14} {f : Nat → Alu} : (s.aluImm st rd imm f).Fit :=
  fit_unlessFault h fun _ ht => fit_retire (fit_setFlags (fit_setReg ht))

/- Branches and measurement. -/

theorem fit_branchTo {st : Nat} {taken : Bool} {there : Int} {l : List (Bool × Nat)} {f : State → State} (hf : ∀ t : State, t.Fit → (f t).Fit) :
    (s.branchTo st taken there l f).Fit := by
  unfold State.branchTo
  split
  · exact fit_ite (fit_retireAt (hf s h)) (fit_retire h)
  · exact fit_progFault h

theorem fit_pushCall {st a : Nat} : (s.pushCall st a).Fit := fit_put (fit_put h)

theorem fit_zoneFlags {st zone : Nat} : (s.zoneFlags st zone).Fit := fit_mark (fit_mark (fit_mark h))

/- Rail actions, records and mailboxes. -/

theorem fit_keeperDoes {why : Nat} {r : Option Nat} {f : State → State} (hf : ∀ t : State, t.Fit → (f t).Fit) : (s.keeperDoes why r f).after.Fit :=
  fit_answer (hf s h) (fit_raise (fit_put (fit_put h)))

theorem fit_railAction {st : Nat} {cls : BitVec 4} {f : State → Answer} (hf : ∀ t : State, t.Fit → (f t).after.Fit) : (s.railAction st cls f).Fit :=
  fit_unlessFault h fun _ ht => fit_sideEffect ht hf fun _ _ _ hu => hu

theorem fit_onOutput {u : Option (Nat × Nat)} {why : State → Nat → Nat → Nat} {f : Nat → Nat → State → State}
    (hf : ∀ k n (t : State), t.Fit → (f k n t).Fit) : (s.onOutput u why f).after.Fit := by
  unfold State.onOutput
  split
  · exact fit_keeperDoes h fun _ ht => ht
  · exact fit_keeperDoes h (hf _ _)

theorem fit_onUnit {u : Option Nat} {why : State → Nat → Nat} {f : Nat → State → State} (hf : ∀ n (t : State), t.Fit → (f n t).Fit) :
    (s.onUnit u why f).after.Fit := by
  unfold State.onUnit
  split
  · exact fit_keeperDoes h fun _ ht => ht
  · exact fit_keeperDoes h (hf _)

theorem fit_logRecord {st : Nat} {id mask : Nat} {user : List (BitVec 8)} : (s.logRecord st id mask user).after.Fit :=
  fit_answer (fit_raise (fit_stageOther h)) (fit_stageOther h)

theorem fit_receive {st k : Nat} : (s.receive st k).after.Fit := by
  unfold State.receive
  split
  · exact h
  · exact fit_ifDo h fun _ ht => fit_mboxDrop ht

/- Waits and running words. -/

theorem fit_setWait {st kind sel p : Nat} {inv : Bool} {dl : Option Nat} : (s.setWait st kind sel inv p dl).Fit := by
  unfold State.setWait
  dsimp only
  split
  · exact fit_put (fit_put (fit_put (fit_put (fit_mark (fit_put (fit_put h))))))
  · exact fit_put (fit_put (fit_put (fit_mark (fit_put (fit_put h)))))

theorem fit_endWait {st : Nat} {z : Bool} : (s.endWait st z).Fit := fit_retire (fit_stallGo (fit_put (fit_put (fit_ifDo h fun _ ht => fit_mark ht))))

theorem fit_firstLook {st : Nat} {timeUp : Bool} : (s.firstLook st timeUp).Fit := fit_ite (fit_endWait h) (fit_ite (fit_endWait h) (fit_setSl h))

theorem fit_opHalt {st : Stl} : (opHalt st s).Fit := by
  unfold opHalt
  exact fit_plain h fun _ ht => fit_setSl ht

theorem fit_opSend {st : Stl} {rd ra : RegN} {imm : BitVec 14} : (opSend st rd ra imm s).Fit := by
  refine fit_unlessFault h fun _ ht => fit_sideEffect ht (fun t hu => ?_) fun _ _ _ hv => hv
  split
  · exact fit_raise hu
  · next sendable =>
    have room : t.mboxFull (s.sum14 st ra imm) = false := by
      simp only [State.sendBad, Bool.or_eq_true, not_or, Bool.not_eq_true] at sendable
      exact sendable.2
    exact fit_mboxPut hu room

theorem fit_opOf (i : Instr) : (opOf i s).Fit := by
  cases i with
  | tAdd _ _ _ _ | tSub _ _ _ _ | tAnd _ _ _ _ | tOr _ _ _ _ | tXor _ _ _ _ | tShl _ _ _ _ | tShr _ _ _ _ | tAsr _ _ _ _ | tMul16 _ _ _ _
  | tAddi _ _ _ _ | tAndi _ _ _ _ | tOri _ _ _ _ | tXori _ _ _ _ =>
    exact fit_alu h
  | tCmp _ _ _ | tCmpi _ _ _ => exact fit_aluFlags h
  | tJr _ _ | tBr _ _ _ => exact fit_branchTo h fun _ ht => ht
  | tShli _ _ _ _ | tShri _ _ _ _ | tAsri _ _ _ _ => exact fit_aluImm h
  | tLdi _ _ _ | tLui _ _ _ | tRdt _ _ => exact fit_load h
  | tLd _ _ _ _ | tMeas _ _ _ _ => exact fit_unlessFault h fun _ ht => fit_retire (fit_setReg ht)
  | tSt _ _ _ _ => exact fit_unlessFault h fun _ ht => fit_retire (fit_top ht)
  | tPin _ _ _ _ =>
    exact
      fit_unlessFault h fun _ ht => fit_ite (fit_setReg (fit_complete1 (fit_retire ht) fun _ hu => fit_busRead hu)) (fit_retire (fit_setReg
        (fit_busRead ht)))
  | tPout _ _ _ _ => exact fit_unlessFault h fun _ ht => fit_sideEffect ht (fun _ hu => fit_busWrite hu) fun _ _ _ hu => hu
  | tCall _ _ _ => exact fit_branchTo h fun _ ht => fit_pushCall ht
  | tRet _ => exact fit_ite (fit_progFault h) (fit_retireAt (fit_put h))
  | tWait _ _ _ _ _ | tWaitt _ _ _ _ _ | tYield _ => exact fit_unlessFault h fun _ ht => fit_firstLook (fit_setWait ht)
  | tRamp _ _ _ _ => exact fit_railAction h fun _ ht => fit_onOutput ht fun _ _ _ hu => fit_doRamp hu
  | tEnab _ _ _ => exact fit_railAction h fun _ ht => fit_onOutput ht fun _ _ _ hu => fit_doEnab hu
  | tDisb _ _ _ => exact fit_railAction h fun _ ht => fit_onOutput ht fun _ _ _ hu => fit_doDisb hu
  | tFence _ _ _ => exact fit_railAction h fun _ ht => fit_onUnit ht fun _ _ hu => fit_doFence hu
  | tAdmit _ _ _ => exact fit_railAction h fun _ ht => fit_onUnit ht fun _ _ hu => fit_doAdmit hu
  | tMeasb _ _ _ _ | tCopyb _ _ _ _ => exact fit_ite (fit_plain h fun _ ht => ht) (fit_unlessFault h fun _ ht => fit_retire (fit_top ht))
  | tJudge _ _ _ _ => exact fit_unlessFault h fun _ ht => fit_retire (fit_zoneFlags (fit_setReg ht))
  | tLog _ _ _ _ => exact fit_unlessFault h fun _ ht => fit_sideEffect ht (fun _ hu => fit_logRecord hu) fun _ _ _ hu => hu
  | tLogb _ _ _ _ =>
    exact fit_ite (fit_plain h fun _ ht => ht) (fit_unlessFault h fun _ ht => fit_sideEffect ht (fun _ hu => fit_logRecord hu) fun _ _ _ hu => hu)
  | tRaise _ _ _ => exact fit_unlessFault h fun _ ht => fit_sideEffect ht (fun _ hu => fit_answer (fit_raise hu) (fit_raise hu)) fun _ _ _ hu => hu
  | tSend _ _ _ _ => exact fit_opSend h
  | tRecv _ _ _ =>
    exact
      fit_unlessFault h fun _ ht => fit_sideEffect ht (fun _ hu => fit_answer (fit_raise hu) (fit_receive hu)) fun _ _ _ hu => fit_ite hu (fit_mark
        (fit_setReg hu))
  | tSeal _ => exact fit_unlessFault h fun _ ht => fit_sideEffect ht (fun _ hu => fit_answer (fit_closeWindow hu) (fit_raise hu)) fun _ _ _ hu => hu
  | tHalt _ => exact fit_opHalt h
  | _ => exact h

theorem fit_runWord {st : Stl} {w : Word} : (s.runWord st w).Fit := by
  unfold State.runWord
  split
  · exact fit_opOf h _
  · exact fit_progFault h

theorem fit_stepOne {st : Stl} : (s.stepOne st).Fit :=
  fit_ite (fit_runOne (fit_runWord h)) (fit_ite (fit_runOne (fit_endWait h)) (fit_ite (fit_runOne (fit_endWait h)) h))

theorem fit_partWords {moved : Nat} {st : Stl} {w : Word} : (s.partWords st w moved).Fit := by
  unfold State.partWords
  split
  · exact fit_ite h (fit_top h)
  · exact fit_ite h (fit_top h)
  · exact h

theorem fit_issueOnly {moved : Nat} {st : Stl} {w : Word} : (s.issueOnly st w moved).1.Fit := by
  unfold State.issueOnly
  dsimp only
  split
  · exact h
  · split
    · exact fit_runWord h
    · split
      · exact fit_keepArch (fit_runWord h)
      · exact fit_partWords h

/- The microsecond that passes. -/

theorem fit_slowTnow : s.slowTnow.Fit := fit_passTnow (fit_put h)

theorem fit_tokenTick : s.tokenTick.Fit := fit_ifDo h fun _ ht => fit_sat ht

theorem fit_timedTick : s.timedTick.Fit := fit_ifDo h fun _ ht => fit_timedDue ht

theorem fit_slowPeriod : s.slowPeriod.Fit :=
  fit_ite (fit_ifDo (fit_slowTick h) fun _ ht => fit_almFire ht) (fit_timedTick (fit_tokenTick (fit_forEach (fit_ifDo (fit_ifDo (fit_bkDrain
    (fit_ifDo (fit_slowTick h) fun _ ht => fit_almFire ht)) fun _ ht => fit_put ht) fun _ ht => fit_slowTnow ht) fun _ _ ht => fit_tmTick ht)))

theorem fit_slowUs : s.slowUs.Fit := fit_ifDo (fit_put h) fun _ ht => fit_slowPeriod ht

theorem fit_fastUs : s.fastUs.Fit := fit_forEach (fit_passTnow h) fun _ _ ht => fit_loopUs ht

theorem fit_criersBack : s.criersBack.Fit := fit_ifDo h fun _ ht => fit_forEach ht fun _ _ hu => fit_put hu

theorem fit_blanksEnd : s.blanksEnd.Fit := fit_forEach h fun _ _ ht => fit_blankEnds ht

theorem fit_idle : s.idle.Fit :=
  fit_ite (fit_ifDo h fun _ ht => fit_slowUs ht) (fit_blanksEnd (fit_criersBack (fit_ifDo (fit_ifDo h fun _ ht => fit_slowUs ht) fun _ ht =>
    fit_fastUs ht)))

end

end Sys2Proof.Machine
end

section
/-! PROOFS. Every step keeps the queues within their sizes. -/

-- The proofs of this section are elaborated one after another: the text is compiled as one, and its threads stand near the memory limit.
set_option deprecated.oldSectionVars true

namespace Sys2Proof.Machine
open Sys2Proof

/-- A meaning completes with its queues within their sizes. -/
def Fits (o : Out) : Prop := Keeps State.Fit o

section
variable {s : State} (h : s.Fit)
include h

/- The shapes of a command's outcome. -/

theorem fits_done : Fits (done s) := ⟨s, rfl, h⟩

theorem fits_ended : Fits (ended s) := ⟨_, rfl, closed_finish _ closed_fit s h⟩

theorem fits_regWrite {w : Writer} {a v : Nat} : Fits (regWrite s w a v) := fits_ended (fit_busWrite (fit_spiFrame h))

theorem fits_regGet {w : Writer} {a : Nat} : Fits (regGet s w a) := keeps_ite (fits_done h) (fits_ended (fit_busRead (fit_spiFrame h)))

theorem fits_heard {x : Nat} {f : State → State} (hf : ∀ t : State, t.Fit → (f t).Fit) : Fits (s.heard x f) := fits_ended (fit_ifDo (fit_bmc h) hf)

theorem fits_smbus {f : State → State} (hf : ∀ t : State, t.Fit → (f t).Fit) : Fits (smbus s f) :=
  keeps_ite (fits_ended (hf _ (fit_demand h))) (fits_done h)

theorem fits_paged {f : State → State} (hf : ∀ t : State, t.Fit → (f t).Fit) : Fits (paged s f) :=
  fits_smbus h fun t ht => fit_ite (fit_nack ht) (hf t ht)

theorem fits_tar {st : Nat} {f : State → State} (hf : (f s).Fit) : Fits (tar st s f) := keeps_ite (fits_ended (fit_runOne hf)) (fits_done h)

theorem fits_instr {i : Instr} {st : Nat} (hi : exec i s = tar st s (opOf i)) : Fits (exec i s) := hi ▸ fits_tar h (fit_opOf h i)

/- The commands that are more than one operation where a condition holds. -/

theorem fits_resetHoldEnd {viohMode viopMode : Bool} {rel : HoldEnd} : Fits (execResetHoldEnd viohMode viopMode rel s) :=
  fits_done (fit_ifDo h fun _ ht => fit_forEach (fit_put (fit_put (fit_put (fit_put (fit_mark (fit_mark ht)))))) fun _ _ hu => fit_put hu)

theorem fits_readmitCheckEnd {k : PhaseN} {visen : Nat} : Fits (execReadmitCheckEnd k visen s) :=
  fits_ended (fit_ifDo (fit_put h) fun _ ht => fit_ifDo (fit_passTime ht) fun _ hu => fit_ite (fit_phaseJoin hu) (fit_raise (fit_put (fit_put
    (fit_put hu)))))

theorem fits_sqRailGoodDelay {p : SqN} : Fits (execSqRailGoodDelay p s) := by
  refine fits_ended (fit_ifDo h fun _ ht => ?_)
  split
  · exact ht
  · exact fit_ifDo ht fun _ hu => fit_becomeGood hu

theorem fits_waitResume {st : Stl} : Fits (execWaitResume st s) := keeps_ite (fits_ended (fit_runOne (fit_endWait h))) (fits_done h)

theorem fits_waitTimeout {st : Stl} : Fits (execWaitTimeout st s) :=
  keeps_ite (fits_ended (fit_ifDo (fit_advanceTo h) fun _ ht => fit_runOne (fit_endWait ht))) (fits_done h)

theorem fits_unassignedOpcode {st : Stl} {word : Word} : Fits (execUnassignedOpcode st word s) :=
  keeps_ite (fits_tar h (fit_runWord h)) (fits_done h)

theorem fits_lockstepMismatch {pair : PairN} {issue : CoreIssue} : Fits (execLockstepMismatch pair issue s) := by
  refine keeps_ite (fits_done h) (fits_ended (fit_mismatch ?_))
  split
  · exact fit_issueOnly h
  · exact h

theorem fits_shadowBankError {st : Stl} : Fits (execShadowBankError st s) :=
  fits_ended (fit_ifDo h fun _ ht => fit_ite (fit_raise (fit_put (fit_put ht))) (fit_ifDo ht fun _ hu => fit_secondFailure (fit_raise (fit_put
    (fit_put hu)))))

theorem fits_inputOutOfRange {out : InputLeft} : Fits (execInputOutOfRange out s) :=
  fits_ended (fit_ifDo h fun _ ht => fit_ifDo (fit_ifDo (fit_notReady (fit_setInSt (fit_mark (fit_put ht)))) fun _ hu => fit_portAbort hu)
    fun _ hu => fit_stepsInput hu)

theorem fits_inputUpgrade {i : InputN} : Fits (execInputUpgrade i s) := by
  unfold execInputUpgrade
  exact fits_ended (fit_ifDo h fun _ ht => fit_ite (fit_holdUpgrade ht) (fit_upgrade ht))

theorem fits_inputLoss {cause : LossCause} : Fits (execInputLoss cause s) := by
  refine fits_ended (fit_ite h ?_)
  split
  · exact h
  · exact fit_lossBy h

theorem fits_typecDetach {x : PortN} : Fits (execTypecDetach x s) :=
  fits_ended (fit_ite (fit_ifDo h fun _ ht => fit_put ht) (fit_ifDo h fun _ ht => fit_ifDo (fit_portFlag (fit_put (fit_unattach (fit_portEnds ht))))
    fun _ hu => fit_portFlag hu))

theorem fits_sourceCapabilities {x : PortN} {rev3 epr : Bool} {pdos : List Word} : Fits (execSourceCapabilities x rev3 epr pdos s) :=
  fits_heard h fun _ ht => fit_ite (fit_nsup ht) (fit_ifDo (fit_put (fit_put (fit_ifDo (fit_put (fit_forEach (fit_eprCut (fit_rev ht)) fun _ _ hu =>
    fit_put hu)) fun _ hu => fit_mark hu))) fun _ hu => fit_requestNow hu)

theorem fits_acceptMessage {x : PortN} : Fits (execAcceptMessage x s) := by
  refine fits_heard h fun _ ht => ?_
  split
  · exact fit_put (fit_put ht)
  · exact fit_prStart ht
  · exact fit_flipData ht
  · exact ht

theorem fits_rejectMessage {x : PortN} : Fits (execRejectMessage x s) := by
  refine fits_heard h fun _ ht => ?_
  split
  · exact fit_refusedReq ht
  · exact fit_refusedReq ht
  · exact fit_refusedReq ht
  · exact fit_put ht
  · exact ht

theorem fits_waitMessage {x : PortN} : Fits (execWaitMessage x s) := by
  refine fits_heard h fun _ ht => ?_
  split
  · exact fit_ifDo (fit_put (fit_put (fit_sat ht))) fun _ hu => fit_portFlag hu
  · exact fit_put (fit_refusedReq ht)
  · exact fit_put (fit_refusedReq ht)
  · exact ht

theorem fits_psRdy {x : PortN} : Fits (execPsRdy x s) := by
  refine fits_heard h fun _ ht => ?_
  split
  · exact fit_afterContract (fit_newContract ht)
  · exact fit_prRdy ht
  · exact fit_swapDone (fit_put (fit_put ht))
  · exact ht

theorem fits_requestMessage {x : PortN} {rev3 epr : Bool} {rdo : Word} : Fits (execRequestMessage x rev3 epr rdo s) :=
  fits_heard h fun _ ht => fit_ite (fit_nsup ht) (fit_ite (fit_tx (fit_rev ht)) (fit_ite (fit_tx (fit_rev ht)) (fit_answerRequest (fit_rev ht))))

theorem fits_vconnSwap {x : PortN} : Fits (execVconnSwap x s) :=
  fits_heard h fun _ ht => fit_ite (fit_tx ht) (fit_ite (fit_tx (fit_put ht)) (fit_ite (fit_ite (fit_tx (fit_swapDone (fit_put (fit_put ht))))
    (fit_tx (fit_put (fit_swapDone (fit_put (fit_put ht)))))) (fit_tx ht)))

theorem fits_pwrbtnPress : Fits (execPwrbtnPress s) :=
  fits_ended (fit_ifDo h fun _ ht => fit_ifDo (fit_ifDo (fit_wake (fit_put ht)) fun _ hu => fit_put hu) fun _ hu => fit_shipCancel hu)

theorem fits_spiReadFrame {addr : BitVec 16} {burst hdrCrc : BitVec 8} {early : Nat} : Fits (execSpiReadFrame addr burst hdrCrc early s) :=
  keeps_ite (fits_done h) (fits_ended (fit_top (fit_ifDo (fit_ifDo (fit_readBurst (fit_spiFrame h)) fun _ ht => fit_lastCrc (fit_headCrcBad ht))
    fun _ ht => fit_flag ht)))

theorem fits_spiWriteFrame {addr : BitVec 16} {burst : BitVec 8} {words : List Word} {crc : BitVec 8} :
    Fits (execSpiWriteFrame addr burst words crc s) :=
  keeps_ite (fits_done h) (keeps_ite (fits_ended (fit_frameBad (fit_demand h))) (keeps_ite (fits_ended (fit_lastCrc (fit_sat (fit_spiFrame
    (fit_demand h))))) (fits_ended (fit_writeBurst (fit_spiFrame (fit_demand h))))))

theorem fits_spiStatusFrame {hdrCrc : BitVec 8} {early : Bool} : Fits (execSpiStatusFrame hdrCrc early s) :=
  keeps_ite (fits_done h) (fits_ended (fit_top (fit_ifDo (fit_ifDo (fit_demand h) fun _ ht => fit_headCrcBad ht) fun _ ht => fit_flag ht)))

theorem fits_spiFrameBad {kind : SpiBad} : Fits (execSpiFrameBad kind s) := by
  refine keeps_ite (fits_done h) ?_
  dsimp only
  split
  · exact fits_ended (fit_put (fit_frameBad (fit_demand h)))
  · exact fits_ended (fit_frameBad (fit_demand h))
  · exact fits_ended (fit_put (fit_frameBad (fit_demand h)))
  · exact fits_ended (fit_top (fit_frameBad (fit_readBurst (fit_spiFrame (fit_demand h)))))

theorem fits_mfrRegPtr {wr : Option (BitVec 16)} {pec : Option (BitVec 8)} : Fits (execMfrRegPtr wr pec s) := by
  refine fits_smbus h fun _ ht => ?_
  split
  · exact fit_smbSend ht
  · exact fit_smbWrite ht fun _ hu => fit_put hu

theorem fits_mfrRegDataWrite {data : List (BitVec 8)} {pec : Option (BitVec 8)} : Fits (execMfrRegDataWrite data pec s) :=
  fits_smbus h fun _ ht => fit_smbWrite (fit_ifDo ht fun _ hu => fit_cml (fit_put hu)) fun _ hu => fit_ite hu (fit_ptrOn (fit_writeBurst hu))

theorem fits_mfrRegDataRead : Fits (execMfrRegDataRead s) := fits_smbus h fun _ ht => fit_smbSend (fit_ptrOn (fit_readBurst ht))

theorem fits_mfrRegLen {wr pec : Option (BitVec 8)} : Fits (execMfrRegLen wr pec s) := by
  refine fits_smbus h fun _ ht => ?_
  split
  · exact fit_smbSend ht
  · exact fit_smbWrite ht fun _ hu => fit_put hu

theorem fits_page {wr pec : Option (BitVec 8)} : Fits (execPage wr pec s) := by
  refine fits_smbus h fun _ ht => ?_
  split
  · exact fit_smbSend ht
  · exact fit_ite (fit_smbWrite ht fun _ hu => fit_put hu) (fit_nack ht)

theorem fits_clearFaults {pec : Option (BitVec 8)} : Fits (execClearFaults pec s) :=
  fits_smbus h fun _ ht => fit_smbWrite ht fun _ hu => fit_alertOff (fit_forEach hu fun _ _ hv => fit_pageClear hv)

theorem fits_capability : Fits (execCapability s) := fits_paged h fun _ ht => fit_smbSend ht

theorem fits_voutMode : Fits (execVoutMode s) := fits_paged h fun _ ht => fit_smbSend ht

theorem fits_voutCommand {wr : Bool} : Fits (execVoutCommand wr s) := fits_paged h fun _ ht => fit_ite (fit_nack ht) (fit_smbSend ht)

theorem fits_voutOvFaultLimit {wr : Bool} : Fits (execVoutOvFaultLimit wr s) := fits_paged h fun _ ht => fit_limit ht

theorem fits_voutOvWarnLimit {wr : Bool} : Fits (execVoutOvWarnLimit wr s) := fits_paged h fun _ ht => fit_limit ht

theorem fits_voutUvWarnLimit {wr : Bool} : Fits (execVoutUvWarnLimit wr s) := fits_paged h fun _ ht => fit_limit ht

theorem fits_voutUvFaultLimit {wr : Bool} : Fits (execVoutUvFaultLimit wr s) := fits_paged h fun _ ht => fit_limit ht

theorem fits_statusByte : Fits (execStatusByte s) := fits_paged h fun _ ht => fit_smbSend (fit_latchUnknown ht)

theorem fits_statusWord : Fits (execStatusWord s) := fits_paged h fun _ ht => fit_smbSend (fit_latchUnknown ht)

theorem fits_statusVout {wr pec : Option (BitVec 8)} : Fits (execStatusVout wr pec s) := fits_paged h fun _ ht => fit_statusReg ht

theorem fits_statusIout {wr pec : Option (BitVec 8)} : Fits (execStatusIout wr pec s) := fits_paged h fun _ ht => fit_statusReg ht

theorem fits_statusTemperature {wr pec : Option (BitVec 8)} : Fits (execStatusTemperature wr pec s) := fits_paged h fun _ ht => fit_statusReg ht

theorem fits_statusCml {wr pec : Option (BitVec 8)} : Fits (execStatusCml wr pec s) := by
  refine fits_smbus h fun _ ht => ?_
  split
  · exact fit_smbSend ht
  · exact fit_smbWrite ht fun _ hu => fit_put hu

theorem fits_readVout : Fits (execReadVout s) := fits_paged h fun _ ht => fit_sendVolt ht

theorem fits_readIout : Fits (execReadIout s) := by
  refine fits_paged h fun _ ht => fit_ite (fit_nack ht) ?_
  dsimp only
  split
  · exact fit_smbSend ht
  · exact fit_smbSend (fit_drawFree ht)

theorem fits_pmbusRevision : Fits (execPmbusRevision s) := fits_paged h fun _ ht => fit_smbSend ht

theorem fits_mfrId : Fits (execMfrId s) := fits_paged h fun _ ht => fit_smbSend ht

theorem fits_mfrModel : Fits (execMfrModel s) := fits_paged h fun _ ht => fit_smbSend ht

theorem fits_mfrRevision : Fits (execMfrRevision s) := fits_paged h fun _ ht => fit_smbSend ht

theorem fits_mfrReadRaw : Fits (execMfrReadRaw s) := by
  refine fits_paged h fun _ ht => ?_
  split
  · exact fit_smbSend ht
  · exact fit_nack ht

theorem fits_pmbusInvalidCommand {code : BitVec 8} : Fits (execPmbusInvalidCommand code s) := fits_smbus h fun _ ht => fit_ite ht (fit_nack ht)

theorem fits_alertResponse {win : Bool} : Fits (execAlertResponse win s) := fits_smbus h fun _ ht => fit_ifDo ht fun _ hu => fit_top (fit_put hu)

theorem fits_debugChallenge : Fits (execDebugChallenge s) :=
  fits_ended (fit_ifDo h fun _ ht => fit_ite (fit_tapDbg ht) (fit_put (fit_forEach (fit_put (fit_tapDbg ht)) fun _ _ hu => fit_put (fit_drawFree
    hu))))

theorem fits_debugResponse {scope : BitVec 8} {key sig : BitVec 512} : Fits (execDebugResponse scope key sig s) :=
  fits_ended (fit_ifDo h fun _ ht => fit_ite (fit_tapDbg ht) (fit_ite (fit_spendNonce (fit_tapDbg ht)) (fit_mark (fit_put (fit_put (fit_tapDbg
    ht))))))

theorem fits_debugResponseVerified : Fits (execDebugResponseVerified s) :=
  fits_ended (fit_ifDo h fun _ ht => fit_ite (fit_openSession (fit_spendNonce (fit_put ht))) (fit_put (fit_put (fit_sat (fit_spendNonce (fit_put
    ht))))))

theorem fits_debugStep {st : Stl} : Fits (execDebugStep st s) :=
  keeps_ite (keeps_ite (fits_ended (fit_ifDo (fit_stepOne (fit_put (fit_tapDbg h))) fun _ ht => fit_ifDo ht fun _ hu => fit_put hu)) (fits_ended
    (fit_tapDbg h))) (fits_done h)

theorem fits_tpertApply {w : Writer} {addr : BitVec 16} {v : Word} : Fits (execTpertApply w addr v s) := keeps_ite (fits_regWrite h) (fits_done h)

theorem fits_portFeedEntry {x : PortN} : Fits (execPortFeedEntry x s) := by
  unfold execPortFeedEntry
  exact fits_ended (fit_ifDo h fun _ ht => fit_feed ht)

theorem fits_vbusDischarged {x : PortN} : Fits (execVbusDischarged x s) := by
  unfold execVbusDischarged
  exact fits_ended (fit_ifDo h fun _ ht => fit_ifDo (fit_ifDo (fit_put ht) fun _ hu => fit_put hu) fun _ hu => fit_tx hu)

theorem fits_extendedControlMessage {x : PortN} {kind : BitVec 8} : Fits (execExtendedControlMessage x kind s) := by
  refine fits_heard h fun _ ht => ?_
  split
  · exact fit_ite (fit_tx ht) (fit_nsup ht)
  · exact fit_ite (fit_tx ht) (fit_nsup ht)
  · exact ht
  · exact ht
  · exact fit_nsup ht

theorem fits_notSupportedMessage {x : PortN} : Fits (execNotSupportedMessage x s) := by
  refine fits_heard h fun _ ht => ?_
  split
  · exact fit_refusedReq ht
  · exact fit_refusedReq ht
  · exact fit_refusedReq ht
  · exact fit_eprFail ht
  · exact fit_put ht
  · exact ht

/-- Every command completes, and keeps the queues within their sizes. -/
theorem fits_exec (c : Instr) : Fits (exec c s) := by
  cases c with
  -- A register write.
  | orderViolClear _ | hostReset _ | softRstKeyBad _ _ | pwrReqStandby _ | pwrReqRun _ | pwrReqShip _ | pwrReqCancel _ | pwrReqUndefined _ _
  | stbyCfgWrite _ _ | hssClear _ _ | chnCfgWrite _ _ _ | chnThresholdWrite _ _ _ _ | crierCfgWrite _ _ _ _ | keeperOnRequest _
  | keeperOffRequest _ | latchClear _ | daybookAck _ | dbkCfgWrite _ _ | hostSnapshot _ | stallStart _ _ | stallRestart _ _ | watchdogKick _ _ _
  | hostMailboxPost _ _ _ | mailboxPop _ | mailboxFlushHost _ | mailboxFlushRx _ _ | searchRestart _ | batGo _ | retest _ | eprExit _ _
  | ppsWrite _ _ _ | cmdRenegotiate _ _ | cmdPrSwap _ _ | cmdDrSwap _ _ | cmdHardReset _ _ | cmdClrLatch _ _ | newPack _ | hostAdmit _ _
  | rcvClr _ _ | stickyClear _ _ _ | rtcSet _ _ | softwarePend _ _ _ | softwareClear _ _ _ | irqComplete _ _ _ | timerStart _ _ | timerStop _ _
  | gstart _ | gstop _ | timerMatHiWrite _ _ _ | lifecycleRequest _ _ | otpHashProgram _ _ | tpertLockstepOneshot _ _ | tpertRefFail _ _
  | nvmWindowWrite _ _ _ | bootCfgWrite _ _ | registerWrite _ _ _ =>
    exact fits_regWrite h
  -- A register read.
  | daybookCrcRead _ _ | irqClaim _ _ | timerCountRead _ _ _ => exact fits_regGet h
  -- The operations of the part, where the command's condition holds.
  | vbkupRise => exact fits_done (fit_ifDo (fit_put (fit_put h)) fun _ ht => fit_put ht)
  | vaoRise _ _ _ _ => exact fits_done (fit_ifDo h fun _ ht => fit_vaoUp ht)
  | vcollapse | shipPendInputRemoved => exact fits_done (fit_ifDo h fun _ ht => fit_mainDown)
  | supplyBrownout _ | pinReset => exact fits_ended (fit_ifDo h fun _ ht => fit_coldReset)
  | hostioLow => exact fits_ended (fit_ifDo h fun _ ht => fit_raise (fit_put ht))
  | hostioResume => exact fits_done (fit_ifDo h fun _ ht => fit_foldl (fit_put ht) fun _ _ hu => fit_put hu)
  | orderViolDetect _ => exact fits_done (fit_ifDo h fun _ ht => fit_put (fit_put (fit_put (fit_put ht))))
  | warmTmoExpiry => exact fits_ended (fit_ifDo h fun _ ht => fit_release ht)
  | romBootStage => exact fits_ended (fit_ifDo h fun _ ht => fit_romBoot ht)
  | bootWindowTimeout => exact fits_ended (fit_ifDo h fun _ ht => fit_closeWindow (fit_raise (fit_put ht)))
  | standbyEntryDone => exact fits_ended (fit_ifDo h fun _ ht => fit_rest ht)
  | runTransitionEnd => exact fits_ended (fit_ifDo h fun _ ht => fit_runEnd ht)
  | standbyBurst => exact fits_ended (fit_ifDo h fun _ ht => fit_ifDo (fit_ifDo ht fun _ hu => fit_passTime hu) fun _ hu => fit_burstStart hu)
  | fclkUsable => exact fits_ended (fit_ifDo h fun _ ht => fit_fclkOn ht)
  | fclkLock | drpToggle _ | crystalReturn => exact fits_done (fit_ifDo h fun _ ht => fit_put ht)
  | clkFault => exact fits_ended (fit_ifDo h fun _ ht => fit_raise ht)
  | fclkStop | fltbusNHigh | vbkupLowClear => exact fits_done (fit_ifDo h fun _ ht => fit_put (fit_put ht))
  | vbatLegWindowEnd => exact fits_done (fit_ifDo h fun _ ht => fit_put (fit_ifDo ht fun _ hu => fit_put hu))
  | holdDwellEnd => exact fits_ended (fit_ifDo h fun _ ht => fit_ifDo (fit_put (fit_passTime ht)) fun _ hu => fit_backToActive hu)
  | phaseCurrentLimit _ => exact fits_done (fit_ifDo (fit_put h) fun _ ht => fit_put (fit_put (fit_put ht)))
  | highSideShort _ _ => exact fits_ended (fit_ifDo (fit_sense h) fun _ ht => fit_raise (fit_put (fit_swOpen (fit_put (fit_put ht)))))
  | prestartCheckPass _ _ => exact fits_done (fit_ifDo (fit_sense h) fun _ ht => fit_ifDo (fit_passTime ht) fun _ hu => fit_softBegins hu)
  | softStartEnd _ => exact fits_ended (fit_ifDo h fun _ ht => fit_ifDo (fit_passTime ht) fun _ hu => fit_softEnds hu)
  | loopStopComplete _ => exact fits_ended (fit_ifDo h fun _ ht => fit_ifDo (fit_passTime ht) fun _ hu => fit_loopStopped hu)
  | rushStart _ | brakeStart _ => exact fits_done (fit_ifDo (fit_sense h) fun _ ht => fit_put (fit_put (fit_put ht)))
  | rushEnd _ => exact fits_done (fit_ifDo (fit_sense h) fun _ ht => fit_rushEnd (fit_ifDo ht fun _ hu => fit_passTime hu))
  | brakeEnd _ => exact fits_done (fit_ifDo (fit_sense h) fun _ ht => fit_brakeEnd (fit_ifDo ht fun _ hu => fit_passTime hu))
  | pgAssert _ => exact fits_ended (fit_ifDo (fit_sense h) fun _ ht => fit_ifDo (fit_passTime ht) fun _ hu => fit_put (fit_pgHigh hu))
  | pgDeassert _ => exact fits_ended (fit_ifDo (fit_sense h) fun _ ht => fit_pgLow (fit_passTime ht))
  | phaseFaultDetect _ _ => exact fits_ended (fit_ifDo (fit_sense h) fun _ ht => fit_raise (fit_put ht))
  | phaseReadmit _ => exact fits_done (fit_ifDo h fun _ ht => fit_phaseReadmit ht)
  | syncLoss => exact fits_done (fit_ifDo h fun _ ht => fit_irq (fit_put (fit_put (fit_put ht))))
  | syncLock _ => exact fits_done (fit_ifDo h fun _ ht => fit_put (fit_put (fit_put ht)))
  | scanEnd _ => exact fits_ended (fit_ifDo h fun _ ht => fit_scanEnd ht)
  | crierTrip _ _ | crierRelease _ _ => exact fits_ended (fit_ifDo h fun _ ht => fit_crierSet ht)
  | crierBlankEnd _ _ _ =>
    exact fits_ended (fit_ifDo h fun _ ht => fit_ifDo (fit_passTime ht) fun _ hu => fit_blankEnds (fit_crierSees (fit_crierSees hu)))
  | toffMinExpiry => exact fits_ended (fit_ifDo h fun _ ht => fit_enterRising ht)
  | shutdownStep => exact fits_ended (fit_ifDo h fun _ ht => fit_shutdownStep ht)
  | shutdownTimeout => exact fits_ended (fit_ifDo h fun _ ht => fit_raise (fit_release ht))
  | upTimeout _ => exact fits_ended (fit_ifDo h fun _ ht => fit_shutdown (fit_raise (fit_setLatch ht)))
  | blindTimeout => exact fits_ended (fit_ifDo h fun _ ht => fit_shutdown (fit_record (fit_setLatch (fit_put ht))))
  | sqPgFilter _ _ => exact fits_ended (fit_ifDo h fun _ ht => fit_ifDo (fit_mark ht) fun _ hu => fit_pgChange (fit_mark hu))
  | daybookUnitWriteDone _ => exact fits_ended (fit_ifDo h fun _ ht => fit_daybookUnit ht)
  | daybookToken => exact fits_done (fit_ifDo h fun _ ht => fit_sat ht)
  | timedRecord => exact fits_ended (fit_ifDo h fun _ ht => fit_timedDue ht)
  | takeoverComplete _ => exact fits_ended (fit_ifDo h fun _ ht => fit_takeoverEnd ht)
  | spareSelfTest _ => exact fits_ended (fit_ifDo h fun _ ht => fit_spareLost ht)
  | watchdogEarly _ | watchdogExpiry _ | preTmoExpiry | safeTmoExpiry => exact fits_ended (fit_ifDo h fun _ ht => fit_passTime ht)
  | inputInRange _ => exact fits_ended (fit_ifDo h fun _ ht => fit_stepsInput (fit_ifDo (fit_put (fit_put ht)) fun _ hu => fit_setInSt hu))
  | inputDebounceEnd _ => exact fits_ended (fit_ifDo h fun _ ht => fit_selectNext (fit_forEach ht fun _ _ hu => fit_setInSt hu))
  | inputSwitchFail _ => exact fits_ended (fit_ifDo h fun _ ht => fit_afterLoss (fit_openInput (fit_raise (fit_flag ht))))
  | searchStep _ _ _ =>
    exact fits_ended (fit_ifDo h fun _ ht => fit_ite (fit_searchStep (fit_mark ht)) (fit_ifDo (fit_mark ht) fun _ hu => fit_searchBack hu))
  | supplementStart => exact fits_ended (fit_ifDo h fun _ ht => fit_ifDo (fit_irq (fit_flag (fit_put ht))) fun _ hu => fit_put hu)
  | supplementEnd => exact fits_done (fit_put h)
  | batfetSoftstartEnd => exact fits_ended (fit_ifDo h fun _ ht => fit_bfetRefresh (fit_put ht))
  | batfetSoftstartFail | dischargeShort => exact fits_ended (fit_ifDo h fun _ ht => fit_raise (fit_flag (fit_put (fit_put ht))))
  | chargerPhaseChange _ => exact fits_ended (fit_ifDo h fun _ ht => fit_phaseMove ht)
  | chargeTermination => exact fits_ended (fit_ifDo h fun _ ht => fit_setPhase ht)
  | recharge => exact fits_ended (fit_ifDo h fun _ ht => fit_setPhase (fit_mark ht))
  | chargeOvercurrent => exact fits_ended (fit_ifDo h fun _ ht => fit_chgFault ht)
  | chgClr _ _ => exact fits_ended (fit_ifDo (fit_ifDo (fit_busWrite (fit_spiFrame h)) fun _ ht => fit_chgFault ht) fun _ ht => fit_phaseFrom ht)
  | chgNeed => exact fits_ended (fit_ifDo h fun _ ht => fit_irq (fit_put ht))
  | presenceTestPeriod => exact fits_ended (fit_ifDo h fun _ ht => fit_ptStart ht)
  | presenceTestEnd _ => exact fits_ended (fit_ifDo h fun _ ht => fit_ptEnd ht)
  | batteryRemoval => exact fits_ended (fit_ifDo h fun _ ht => fit_raise (fit_flag (fit_batGone ht)))
  | batteryUndervoltage => exact fits_ended (fit_ifDo h fun _ ht => fit_ifDo (fit_raise (fit_flag ht)) fun _ hu => fit_batteryEmpty hu)
  | dischargeOvercurrent => exact fits_ended (fit_ifDo h fun _ ht => fit_raise (fit_flag ht))
  | converterRestart => exact fits_ended (fit_ifDo h fun _ ht => fit_put (fit_put ht))
  | typecAttach _ _ => exact fits_ended (fit_ifDo h fun _ ht => fit_attach ht)
  | rpLevelChange _ _ | errorRecoveryEnd _ | smbusTimeout => exact fits_ended (fit_ifDo h fun _ ht => fit_put ht)
  | sourceCapTimeout _ =>
    exact fits_ended (fit_ifDo h fun _ ht => fit_ite (fit_portFlag (fit_put (fit_put ht))) (fit_sendHardReset (fit_sat (fit_put ht))))
  | waitRetry _ => exact fits_ended (fit_ifDo h fun _ ht => fit_ite (fit_request ht) (fit_requestNow ht))
  | getSourceCap _ | getSinkCap _ => exact fits_heard h fun _ ht => fit_ite (fit_tx ht) (fit_nsup ht)
  | prSwap _ => exact fits_heard h fun _ ht => fit_ite (fit_tx ht) (fit_ite (fit_tx (fit_prStart ht)) (fit_tx ht))
  | drSwap _ => exact fits_heard h fun _ ht => fit_ite (fit_tx ht) (fit_ite (fit_tx (fit_flipData ht)) (fit_tx ht))
  | softResetMessage _ => exact fits_heard h fun _ ht => fit_ifDo (fit_tx (fit_endExchange (fit_eprCut ht))) fun _ hu => fit_sendCaps hu
  | pingMessage _ | sinkCapabilitiesMessage _ _ => exact fits_heard h fun _ ht => ht
  | hardResetReceived _ => exact fits_ended (fit_ifDo (fit_bmc h) fun _ ht => fit_hardReset (fit_portFlag ht))
  | sourceHardResetRestore _ => exact fits_ended (fit_ifDo h fun _ ht => fit_sendCaps (fit_vconnOn (fit_put (fit_sourceStart (fit_put ht)))))
  | eprModeMessage _ _ => exact fits_heard h fun _ ht => fit_ite (fit_eprMode ht) (fit_ite (fit_tx ht) (fit_nsup ht))
  | eprKeepaliveTimer _ => exact fits_done (fit_ifDo h fun _ ht => fit_tx ht)
  | ppsRefresh _ => exact fits_ended (fit_ifDo h fun _ ht => fit_request ht)
  | bistMessage _ _ => exact fits_heard h fun _ ht => fit_put ht
  | discoverIdentityReply _ _ _ _ _ => exact fits_heard h fun _ ht => fit_ifDo ht fun _ hu => fit_put (fit_put (fit_mark (fit_put hu)))
  | unsupportedMessage _ => exact fits_heard h fun _ ht => fit_nsup ht
  | sourceSupplyReady _ =>
    exact fits_ended (fit_ifDo h fun _ ht => fit_sendCaps (fit_vconnOn (fit_ifDo (fit_put ht) fun _ hu => fit_tx (fit_swapDone hu))))
  | sourceSettled _ => exact fits_ended (fit_ifDo h fun _ ht => fit_ifDo (fit_newContract (fit_put ht)) fun _ hu => fit_tx hu)
  | sourceSettleTimeout _ => exact fits_ended (fit_ifDo h fun _ ht => fit_settleFail (fit_sendHardReset ht))
  | vbusSinkOv _ => exact fits_ended (fit_ifDo h fun _ ht => fit_sinkOv ht)
  | sourceOvercurrent _ | sourceShort _ | sourceOvervoltage _ | sourceReverseCurrent _ => exact fits_ended (fit_sourceTrip h)
  | ccOvervoltage _ =>
    exact fits_ended (fit_ifDo h fun _ ht => fit_put (fit_unattach (fit_ifDo (fit_raise (fit_portFlag ht)) fun _ hu => fit_portEnds hu)))
  | ccOvRecovery _ => exact fits_ended (fit_ifDo h fun _ ht => fit_ifDo (fit_put ht) fun _ hu => fit_put hu)
  | vconnOvercurrent _ => exact fits_ended (fit_ifDo h fun _ ht => fit_raise (fit_portFlag (fit_put (fit_put ht))))
  | swapRetry _ => exact fits_ended (fit_ifDo h fun _ ht => fit_portAct (fit_put ht))
  | dischargeTimeout _ => exact fits_ended (fit_ifDo h fun _ ht => fit_settleFail ht)
  | portCommandRelease _ => exact fits_ended (fit_ifDo h fun _ ht => fit_ifDo ht fun _ hu => fit_portAct (fit_put hu))
  | gaugeUpdate _ => exact fits_ended (fit_ifDo h fun _ ht => fit_ifDo (fit_gaugeUpdate ht) fun _ hu => fit_raise (fit_chgFault hu))
  | relaxedReference _ => exact fits_ended (fit_ifDo h fun _ ht => fit_levels (fit_gaugeReport (fit_gaugeRef ht)))
  | refStaleSet => exact fits_done (fit_ifDo h fun _ ht => fit_put (fit_setStale ht))
  | journalWriteDone _ => exact fits_ended (fit_ifDo h fun _ ht => fit_journalDone ht)
  | gaugeStartEstimate _ _ => exact fits_ended (fit_ifDo h fun _ ht => fit_gaugeStart ht)
  | ledgerWindowExpiry _ => exact fits_ended (fit_ifDo h fun _ ht => fit_put (fit_put (fit_passTime ht)))
  | quietPeriodEnd _ => exact fits_ended (fit_ifDo h fun _ ht => fit_ifDo (fit_passTime ht) fun _ hu => fit_quietEnd hu)
  | fltbusIn => exact fits_ended (fit_ifDo h fun _ ht => fit_ifDo (fit_put ht) fun _ hu => fit_raise (fit_put hu))
  | backupDomainReset => exact fits_done (fit_ifDo h fun _ ht => fit_put (fit_domainReset ht))
  | supplyChangeover _ => exact fits_done (fit_ifDo h fun _ ht => fit_mark ht)
  | vbkupLow => exact fits_ended (fit_ifDo h fun _ ht => fit_ifDo (fit_put ht) fun _ hu => fit_raise hu)
  | crystalLoss => exact fits_ended (fit_ifDo h fun _ ht => fit_ifDo (fit_put (fit_put ht)) fun _ hu => fit_raise hu)
  | trimWindow _ => exact fits_done (fit_ifDo h fun _ ht => fit_trimStart ht)
  | backupWriteSync => exact fits_done (fit_ifDo h fun _ ht => fit_bkReach ht)
  | rtcTimeLoad => exact fits_done (fit_ifDo h fun _ ht => fit_slowTick ht)
  | alarmFire => exact fits_ended (fit_ifDo h fun _ ht => fit_almFire ht)
  | timerMatch _ | timerOverflow _ | timerMatchCommit _ => exact fits_ended (fit_ifDo h fun _ ht => fit_tmWait ht)
  | lifecycleOtpDone => exact fits_ended (fit_ifDo h fun _ ht => fit_warmReset (fit_lcStepped ht))
  | otpHashDone => exact fits_ended (fit_ifDo h fun _ ht => fit_hashDone ht)
  | debugOpen => exact fits_ended (fit_ifDo h fun _ ht => fit_ifDo (fit_tapDbg ht) fun _ hu => fit_openSession hu)
  | nonceExpiry => exact fits_ended (fit_ifDo h fun _ ht => fit_spendNonce (fit_passTime ht))
  | debugClose | trstLow => exact fits_ended (fit_ifDo h fun _ ht => fit_endSession ht)
  | debugHalt _ =>
    exact fits_ended (fit_ifDo h fun _ ht => fit_ifDo (fit_tapDbg ht) fun _ hu => fit_ite (fit_put hu) (fit_ifDo hu fun _ hv => fit_put hv))
  | idcode => exact fits_ended (fit_ifDo h fun _ ht => fit_top (fit_tapDbg ht))
  | extest => exact fits_ended (fit_ifDo h fun _ ht => fit_ite (fit_put ht) (fit_put ht))
  | nvmUnitWriteDone _ => exact fits_ended (fit_ifDo h fun _ ht => fit_nvmNext (fit_queueUnit ht))
  | debugLockoutEnd => exact fits_ended (fit_ifDo h fun _ ht => fit_put (fit_passTime ht))
  -- The lemmas above.
  | resetHoldEnd _ _ _ => exact fits_resetHoldEnd h
  | readmitCheckEnd _ _ => exact fits_readmitCheckEnd h
  | sqRailGoodDelay _ => exact fits_sqRailGoodDelay h
  | waitResume _ => exact fits_waitResume h
  | waitTimeout _ => exact fits_waitTimeout h
  | unassignedOpcode _ _ => exact fits_unassignedOpcode h
  | lockstepMismatch _ _ => exact fits_lockstepMismatch h
  | shadowBankError _ => exact fits_shadowBankError h
  | inputOutOfRange _ => exact fits_inputOutOfRange h
  | inputUpgrade _ => exact fits_inputUpgrade h
  | inputLoss _ => exact fits_inputLoss h
  | typecDetach _ => exact fits_typecDetach h
  | sourceCapabilities _ _ _ _ => exact fits_sourceCapabilities h
  | acceptMessage _ => exact fits_acceptMessage h
  | rejectMessage _ => exact fits_rejectMessage h
  | waitMessage _ => exact fits_waitMessage h
  | psRdy _ => exact fits_psRdy h
  | requestMessage _ _ _ _ => exact fits_requestMessage h
  | vconnSwap _ => exact fits_vconnSwap h
  | pwrbtnPress => exact fits_pwrbtnPress h
  | spiReadFrame _ _ _ _ => exact fits_spiReadFrame h
  | spiWriteFrame _ _ _ _ => exact fits_spiWriteFrame h
  | spiStatusFrame _ _ => exact fits_spiStatusFrame h
  | spiFrameBad _ => exact fits_spiFrameBad h
  | mfrRegPtr _ _ => exact fits_mfrRegPtr h
  | mfrRegDataWrite _ _ => exact fits_mfrRegDataWrite h
  | mfrRegDataRead => exact fits_mfrRegDataRead h
  | mfrRegLen _ _ => exact fits_mfrRegLen h
  | page _ _ => exact fits_page h
  | clearFaults _ => exact fits_clearFaults h
  | capability => exact fits_capability h
  | voutMode => exact fits_voutMode h
  | voutCommand _ => exact fits_voutCommand h
  | voutOvFaultLimit _ => exact fits_voutOvFaultLimit h
  | voutOvWarnLimit _ => exact fits_voutOvWarnLimit h
  | voutUvWarnLimit _ => exact fits_voutUvWarnLimit h
  | voutUvFaultLimit _ => exact fits_voutUvFaultLimit h
  | statusByte => exact fits_statusByte h
  | statusWord => exact fits_statusWord h
  | statusVout _ _ => exact fits_statusVout h
  | statusIout _ _ => exact fits_statusIout h
  | statusTemperature _ _ => exact fits_statusTemperature h
  | statusCml _ _ => exact fits_statusCml h
  | readVout => exact fits_readVout h
  | readIout => exact fits_readIout h
  | pmbusRevision => exact fits_pmbusRevision h
  | mfrId => exact fits_mfrId h
  | mfrModel => exact fits_mfrModel h
  | mfrRevision => exact fits_mfrRevision h
  | mfrReadRaw => exact fits_mfrReadRaw h
  | pmbusInvalidCommand _ => exact fits_pmbusInvalidCommand h
  | alertResponse _ => exact fits_alertResponse h
  | debugChallenge => exact fits_debugChallenge h
  | debugResponse _ _ _ => exact fits_debugResponse h
  | debugResponseVerified => exact fits_debugResponseVerified h
  | debugStep _ => exact fits_debugStep h
  | tpertApply _ _ _ => exact fits_tpertApply h
  | portFeedEntry _ => exact fits_portFeedEntry h
  | vbusDischarged _ => exact fits_vbusDischarged h
  | extendedControlMessage _ _ => exact fits_extendedControlMessage h
  | notSupportedMessage _ => exact fits_notSupportedMessage h
  -- A Tarragon instruction.
  | _ => exact fits_instr h rfl

/-- Every step, of a command or of time, keeps the queues within their sizes. -/
theorem fits_step : Fits (step s) := by
  unfold step
  split
  next => exact fits_ended (fit_idle h)
  next c rest _ => exact fits_exec (s := { s with pending := rest }) h c

end

end Sys2Proof.Machine

open Sys2Proof Sys2Proof.Machine

/-- Settles O5: the queues stay within their sizes over every command's meaning, and over the microsecond that passes without one. -/
theorem queuesNeverOverflow : Obligations.QueuesNeverOverflow := by
  intro s t h stepped
  obtain ⟨u, reached, fit⟩ := fits_step (s := s) h
  have same : u = t := Host.Outcome.next.inj (reached.symm.trans stepped)
  exact same ▸ fit
end

section
/-! PROOFS. The inputs of the power path: their states and the selection, the command bits of PP_CTRL, and the events of the inputs. -/

namespace Sys2Proof.Machine
open Sys2Proof

/-- An event whose condition the state meets, with the state that it reaches. -/
theorem ended_reaches {s u : State} {c : Bool} {f : State → State} (acts : c = true) (reaches : f s = u) :
    ∃ t, ended (s.ifDo c f) = .next t ∧ Settles u t := reaches ▸ ended_of acts

/- The states of the inputs. -/

/-- The field of an input's state. -/
def inFld (i : Nat) : Fld :=
  match i with
  | 0 => Reg.PP_STAT_DCIN_ST
  | 1 => Reg.PP_STAT_P0_ST
  | _ => Reg.PP_STAT_P1_ST

/-- The fields of the inputs' states. -/
def inFlds : List Fld := [Reg.PP_STAT_DCIN_ST, Reg.PP_STAT_P0_ST, Reg.PP_STAT_P1_ST]

theorem inFld_mem (i : Nat) : inFld i ∈ inFlds := by unfold inFld; split <;> decide

theorem inSt_eq (s : State) (i : Nat) : s.inSt i = s.get (inFld i) 0 :=
  match i with
  | 0 | 1 | _ + 2 => rfl

theorem setInSt_eq (s : State) (i v : Nat) : s.setInSt i v = s.put (inFld i) 0 v :=
  match i with
  | 0 | 1 | _ + 2 => rfl

section
variable {l : List Fld} {s t : State}

theorem SameApart.setInSt (h : SameApart l s t) {i v : Nat} (hl : inFlds ⊆ l := by decide) : SameApart l s (t.setInSt i v) := by
  rw [setInSt_eq]
  exact h.put (hl (inFld_mem i))

theorem SameApart.inSt (h : SameApart l s t) (i : Nat) (hl : ∀ g ∈ inFlds, ∀ f ∈ l, Fld.apart f g = true := by decide) : t.inSt i = s.inSt i := by
  rw [inSt_eq, inSt_eq, h.get (hl _ (inFld_mem i))]

end

section
variable (s : State)

theorem inSt_setInSt_self (i : Nat) {v : Nat} (fits : v < 8) : (s.setInSt i v).inSt i = v := by
  have one : ∀ f ∈ inFlds, 0 < f.count ∧ f.width = 3 := by decide
  obtain ⟨there, wide⟩ := one _ (inFld_mem i)
  rw [setInSt_eq, inSt_eq, State.get_put_self _ _ _ _ there, wide]
  exact Nat.mod_eq_of_lt fits

theorem inSt_setInSt_ne {i j : InputN} (v : Nat) (other : i ≠ j) : (s.setInSt i v).inSt j = s.inSt j := by
  have apart : ∀ i j : InputN, i ≠ j → Fld.apart (inFld i) (inFld j) = true := by decide
  rw [setInSt_eq, inSt_eq, inSt_eq, State.get_put_apart _ _ _ _ _ _ (apart i j other)]

/-- An input that is READY stays so as any input becomes READY. -/
theorem inSt_setInSt_ready {i j : Nat} (ready : s.inSt j = 2) : (s.setInSt i 2).inSt j = 2 := by
  by_cases same : inFld i = inFld j
  · rw [inSt_eq, setInSt_eq, same, ← setInSt_eq, ← inSt_eq]
    exact inSt_setInSt_self s j (by decide)
  · have apart : ∀ f ∈ inFlds, ∀ g ∈ inFlds, f ≠ g → Fld.apart f g = true := by decide
    rw [inSt_eq, setInSt_eq, State.get_put_apart _ _ _ _ _ _ (apart _ (inFld_mem i) _ (inFld_mem j) same), ← inSt_eq, ready]

/-- Each input of a list becomes READY. -/
theorem inSt_forEach_ready {l : List Nat} {j : Nat} (h : j ∈ l ∨ s.inSt j = 2) : (s.forEach l fun s i => s.setInSt i 2).inSt j = 2 := by
  unfold State.forEach
  induction l generalizing s with
  | nil => simpa using h
  | cons i l ih =>
    refine ih (s.setInSt i 2) ?_
    rcases h with named | ready
    · rcases List.mem_cons.1 named with rfl | later
      · exact .inr (inSt_setInSt_self s _ (by decide))
      · exact .inl later
    · exact .inr (inSt_setInSt_ready s ready)

/- The selection. -/

theorem selectInput_sel (i : InputN) : (s.selectInput i).sel = some i.val := by
  have selected : SameApart (inFlds ++ [Hid.IN_SW, Hid.CONV_ON, Hid.CONV_REL, Reg.PP_ILIM_IIN_LIM, Hid.SR_QUIET, Reg.PP_STAT_SRCH_END])
      (s.put Reg.PP_STAT_SEL 0 (i + 1)) (s.selectInput i) := (SameApart.refl.setInSt).put.put.put.put.put.put
  have number : (s.selectInput i).get Reg.PP_STAT_SEL 0 = i + 1 :=
    selected.get.trans ((State.get_put_self s _ 0 _ (by decide)).trans (Nat.mod_eq_of_lt (show i.val + 1 < 4 by omega)))
  simp [State.sel, number]

/-- A selection leaves the states of the other inputs. -/
theorem selectInput_inSt {i j : InputN} (other : i ≠ j) : (s.selectInput i).inSt j = s.inSt j := by
  have before : SameApart [Reg.PP_STAT_SEL] s (s.put Reg.PP_STAT_SEL 0 (i + 1)) := SameApart.refl.put
  have after : SameApart [Hid.IN_SW, Hid.CONV_ON, Hid.CONV_REL, Reg.PP_ILIM_IIN_LIM, Hid.SR_QUIET, Reg.PP_STAT_SRCH_END]
      ((s.put Reg.PP_STAT_SEL 0 (i + 1)).setInSt i 3) (s.selectInput i) := SameApart.refl.put.put.put.put.put.put
  rw [after.inSt, inSt_setInSt_ne _ _ other, before.inSt]

theorem prio_lt {i : Nat} (h : i ∈ s.prio) : i < 3 := by
  unfold State.prio at h
  split at h <;> simp at h <;> omega

/-- An input that is READY is so still as the next one is selected, but where it is that one. -/
theorem selectNext_ready (j : InputN) (ready : s.inSt j = 2) : s.selectNext.inSt j = 2 ∨ s.selectNext.sel = some j.val := by
  unfold State.selectNext
  split
  next k _ best =>
    let i : InputN := ⟨k, prio_lt s (List.mem_of_find?_eq_some best)⟩
    by_cases same : i = j
    · exact .inr (same ▸ selectInput_sel s i)
    · exact .inl ((selectInput_inSt s same).trans ready)
  next => exact .inl ready

/- The debounce. -/

/-- The inputs whose debounce ends with that of one of them. -/
def State.settling (s : State) (i : InputN) (same : List InputN) : List Nat :=
  below 3 fun j => (j == i || same.any (fun k => k.val == j)) && s.inSt j == inDebounce && s.is Hid.IN_OK j

theorem mem_settling {i j : InputN} {same : List InputN} (named : j = i ∨ j ∈ same) (debounces : s.inSt j = 1) (inRange : s.is Hid.IN_OK j = true) :
    j.val ∈ s.settling i same := by
  have ends : (j.val == i || same.any (fun k => k.val == j)) = true := by
    simp only [Bool.or_eq_true, beq_iff_eq, List.any_eq_true]
    exact named.imp (congrArg _) fun mem => ⟨j, mem, rfl⟩
  simp [State.settling, below, inDebounce, ends, debounces, inRange]

theorem settling_alone {i : InputN} (debounces : s.inSt i = 1) (inRange : s.is Hid.IN_OK i = true) : s.settling i [] = [i.val] := by
  have alone : (fun j => (j == i.val || [].any (fun k : InputN => k.val == j)) && s.inSt j == inDebounce && s.is Hid.IN_OK j) = (· == i.val) := by
    funext j
    by_cases same : j = i
    · simp [same, debounces, inRange, inDebounce]
    · have other : (j == i.val) = false := by simpa using same
      simp [other]
  rw [State.settling, alone]
  fin_cases i <;> rfl

end

/- A port's abort. -/

/-- An abort at a port leaves the step of a transition. -/
theorem get_portAbort_tstep (s : State) (x : Nat) : (s.portAbort x).get Hid.TSTEP 0 = s.get Hid.TSTEP 0 := by
  simp (disch := decide) only [State.portAbort, State.unattach, State.protoReset, State.noContract, State.endExchange, State.sourceOff, State.portFlag,
    State.flag, State.wake, State.demand, State.get_ifDo, State.get_put_apart, get_forEach_put_at, ite_self]

/-- Outside step 5 of a transition an input in range means nothing for it. -/
theorem stepsInput_none {s : State} {i : Nat} (step : s.get Hid.TSTEP 0 ≠ 5) : s.stepsInput i = s := by simp [State.stepsInput, step]

theorem stepsInput_ship {s : State} {i : Nat} (step : s.get Hid.TSTEP 0 = 5) (ship : s.trans = 3) : s.stepsInput i = s.rest 4 := by
  simp [State.stepsInput, State.ifDo, step, ship, trEmpty, trShip]

theorem stepsInput_empty {s : State} {i : Nat} (step : s.get Hid.TSTEP 0 = 5) (empty : s.trans = 4) :
    s.stepsInput i = (s.put Hid.RAISER 0 (i + 1)).rest 1 := by
  simp [State.stepsInput, step, empty, trEmpty]

/- PP_CTRL. -/

theorem fieldsAt_ppCtrl : fieldsAt 0x3004 = [(Reg.PP_CTRL_SRCH_GO, 0), (Reg.PP_CTRL_CHG_CLR, 0), (Reg.PP_CTRL_RETEST, 0), (Reg.PP_CTRL_BAT_GO, 0),
    (Reg.PP_CTRL_CHG_EN, 0)] := by decide +kernel

/-- A write to PP_CTRL puts CHG_EN alone: its other fields are write-only. -/
theorem regStore_ppCtrl (s : State) (v : Nat) : s.regStore 0x3004 v = s.put Reg.PP_CTRL_CHG_EN 0 (v % 2) := by
  have bit : v / 2 ^ 0 % 2 ^ 1 = v % 2 := by omega
  rw [State.regStore, fieldsAt_ppCtrl, ← bit]
  rfl

/-- The command bits of PP_CTRL and what they do. -/
def ppCommands : List (Nat × (State → State)) := [(2, State.batGo), (4, State.retest), (8, State.chgClr), (16, State.searchAgain)]

/-- A write to PP_CTRL with one command bit. -/
theorem ppCtrl_command (s : State) {e : Nat} (en : e ≤ 1) : ∀ c ∈ ppCommands, s.ppCtrl (e + c.1) = c.2 (s.regStore 0x3004 (e + c.1)) := by
  have bits : e = 0 ∨ e = 1 := by omega
  simp only [ppCommands, List.forall_mem_cons, List.not_mem_nil, false_imp_iff, implies_true, and_true]
  rcases bits with rfl | rfl <;> exact ⟨rfl, rfl, rfl, rfl⟩

section
variable {s : State} {w : Writer} {bit : Nat} {f : State → State} (listed : (bit, f) ∈ ppCommands) (en : s.get Reg.PP_CTRL_CHG_EN 0 ≤ 1)
  (hp : Permitted s w 0x3004 (s.ppWord bit))
include listed en hp

/-- A permitted write of a command to PP_CTRL acts in the state in which it arrives. -/
theorem busWrite_ppCtrl : ((s.spiFrame w).busWrite w 0x3004 (s.ppWord bit)).2 = f ((s.arrive w).regStore 0x3004 (s.ppWord bit)) := by
  obtain ⟨linked, allowed⟩ := hp
  have reached := busWrite_linked s w 0x3004#16 (s.ppWord bit) linked
  exact (reached.trans (if_neg (by simpa using allowed))).trans (ppCtrl_command (s.arrive w) en _ listed)

theorem regWrite_ppCtrl :
    ∃ t, regWrite s w 0x3004 (s.ppWord bit) = .next t ∧ Settles (f ((s.arrive w).regStore 0x3004 (s.ppWord bit))) t :=
  ⟨_, by rw [regWrite, busWrite_ppCtrl listed en hp, ended], settles_finish _⟩

end

/- The events of the inputs. -/

/-- An input in its range: one that was absent and is enabled debounces (R241). -/
def State.comes (s : State) (i : Nat) : State :=
  if s.inSt i = 0 ∧ s.inEn i = true then ((s.put Hid.IN_OK i 1).put Hid.IN_PWR i 1).setInSt i 1 else (s.put Hid.IN_OK i 1).put Hid.IN_PWR i 1

/-- An input out of its range, whether or not it still stands above the pre-regulator's threshold (R241). -/
def State.leaves (s : State) (i : Nat) (above : Bool) : State := (((s.put Hid.IN_OK i 0).mark Hid.IN_PWR i above).setInSt i 0).notReady i

section
variable (s : State) (i : Nat)

theorem sameApart_comes : SameApart ([Hid.IN_OK, Hid.IN_PWR] ++ inFlds) s (s.comes i) := by
  unfold State.comes
  split
  · exact SameApart.refl.put.put.setInSt
  · exact SameApart.refl.put.put

theorem sameApart_leaves (above : Bool) : SameApart ([Hid.IN_OK, Hid.IN_PWR, Hid.UPG_HELD] ++ inFlds) s (s.leaves i above) := by
  have absent : SameApart ([Hid.IN_OK, Hid.IN_PWR, Hid.UPG_HELD] ++ inFlds) s (((s.put Hid.IN_OK i 0).mark Hid.IN_PWR i above).setInSt i 0) :=
    (SameApart.refl.put.mark).setInSt
  unfold State.leaves State.notReady
  exact absent.ifDo fun _ hu => hu.put

theorem moving_leaves (above : Bool) (x : Nat) : (s.leaves i above).moving x = s.moving x := by
  rw [State.moving, State.exch, (sameApart_leaves s i above).get, State.moving, State.exch]

end

section
variable {s : State} {i : InputN} (alive : s.vao = true)
include alive

theorem exec_inputInRange (can : s.canRange i = true) : ∃ t, exec (.inputInRange i) s = .next t ∧ Settles ((s.comes i).stepsInput i) t := by
  have acts : (s.vao && s.canRange i) = true := by simp [alive, can]
  refine ended_reaches acts (congrArg (fun u : State => u.stepsInput i) ?_)
  simp [State.comes, State.ifDo, inAbsent, inDebounce]

theorem exec_inputOutOfRange {above : Bool} (other : s.sel ≠ some i.val) (calm : above = false ∨ s.get Hid.TSTEP 0 ≠ 5) :
    ∃ t, exec (.inputOutOfRange ⟨i, above⟩) s = .next t ∧
      Settles ((s.leaves i above).ifDo (i.val != 0 && (s.leaves i above).moving (i.val - 1)) fun u => u.portAbort (i.val - 1)) t := by
  have acts : (s.vao && s.sel != some i.val) = true := by simpa [alive] using other
  have left : (s.leaves i above).get Hid.TSTEP 0 = s.get Hid.TSTEP 0 := (sameApart_leaves s i above).get
  have aborted (c : Bool) (x : Nat) : ((s.leaves i above).ifDo c fun u => u.portAbort x).get Hid.TSTEP 0 = s.get Hid.TSTEP 0 := by
    rw [State.get_ifDo, get_portAbort_tstep, ite_self, left]
  have rests (u : State) (same : u.get Hid.TSTEP 0 = s.get Hid.TSTEP 0) : (u.ifDo above fun u => u.stepsInput i) = u := by
    rcases calm with rfl | step
    · rfl
    · exact (congrArg (fun v => if above then v else u) (stepsInput_none (same ▸ step))).trans (ite_self _)
  exact ended_reaches acts (rests _ (aborted _ _))

theorem exec_outOfRange_dcin {above : Bool} (other : s.sel ≠ some 0) (calm : above = false ∨ s.get Hid.TSTEP 0 ≠ 5) :
    ∃ t, exec (.inputOutOfRange ⟨0, above⟩) s = .next t ∧ Settles (s.leaves 0 above) t := exec_inputOutOfRange (i := 0) alive other calm

/-- A transition that runs at the port of an input that leaves is aborted. -/
theorem exec_outOfRange_port {above : Bool} {x : PortN} (port : i.val = x.val + 1) (other : s.sel ≠ some i.val)
    (calm : above = false ∨ s.get Hid.TSTEP 0 ≠ 5) : ∃ t, exec (.inputOutOfRange ⟨i, above⟩) s = .next t ∧
      Settles ((s.leaves i above).ifDo (s.moving x) fun u => u.portAbort x) t := by
  have left := exec_inputOutOfRange alive other calm
  have place : i.val - 1 = x := by omega
  have named : (i.val != 0) = true := by simp [port]
  rwa [place, named, moving_leaves, Bool.true_and] at left

/-- The debounce ends of an input and of those with it. -/
theorem exec_inputDebounceEnd (same : List InputN) :
    ∃ t, exec (.inputDebounceEnd ⟨i, same⟩) s = .next t ∧ Settles ((s.forEach (s.settling i same) fun u j => u.setInSt j 2).selectNext) t :=
  ended_of alive

/-- An input may take the selection over only where one is selected. -/
theorem exec_inputUpgrade (may : s.mayUpgrade i = true) : ∃ t, exec (.inputUpgrade i) s = .next t ∧
    Settles (if s.sel.any (fun j => s.inSt j == inSearch) then s.holdUpgrade i else s.upgrade i) t := by
  have acts : (s.vao && s.mayUpgrade i) = true := by simp [alive, may]
  exact ended_of (s := s) (f := fun s => if s.sel.any (fun j => s.inSt j == inSearch) then s.holdUpgrade i else s.upgrade i) acts

theorem exec_inputLoss {j : Nat} (selected : s.sel = some j) (cause : LossCause) :
    ∃ t, exec (.inputLoss cause) s = .next t ∧ Settles (s.lossBy j cause) t := by
  have lost : execInputLoss cause s = ended (s.lossBy j cause) := by simp [execInputLoss, alive, selected]
  exact ⟨_, lost, settles_finish _⟩

/-- The level and the overvoltage of DCIN. -/
theorem exec_inputLoss_dcin (selected : s.sel = some 0) :
    (∀ above, ∃ t, exec (.inputLoss (.level above)) s = .next t ∧ Settles (((s.mark Hid.IN_PWR 0 above).put Hid.IN_OK 0 0).lostInput 0 0) t) ∧
    ∃ t, exec (.inputLoss .ov) s = .next t ∧ Settles (((s.flag Reg.PP_EVT_OV 0 1).put Hid.IN_OK 0 0).lostInput 0 0) t :=
  ⟨fun _ => exec_inputLoss alive selected _, exec_inputLoss alive selected _⟩

/-- The level and the overvoltage of a port. -/
theorem exec_inputLoss_port {x : PortN} (selected : s.sel = some (x.val + 1)) :
    (∀ above, ∃ t, exec (.inputLoss (.level above)) s = .next t ∧ Settles ((s.mark Hid.IN_PWR (x + 1) above).sinkLow x) t) ∧
    ∃ t, exec (.inputLoss .ov) s = .next t ∧ Settles (s.sinkOv x) t :=
  ⟨fun _ => exec_inputLoss alive selected _, exec_inputLoss alive selected _⟩

theorem exec_inputSwitchFail (selected : s.sel = some i.val) : ∃ t, exec (.inputSwitchFail i) s = .next t ∧
    Settles ((((s.flag Reg.PP_EVT_INSW_FAIL 0 1).raise 88).openInput i 5).afterLoss i (s.qualified i)) t := by
  have acts : (s.vao && s.sel == some i.val) = true := by simp [alive, selected]
  exact ended_of (s := s) (f := fun s => (((s.flag Reg.PP_EVT_INSW_FAIL 0 1).raise 88).openInput i 5).afterLoss i (s.qualified i)) acts

theorem exec_portFeedEntry {x : PortN} (selected : s.sel = some (x.val + 1)) (searches : s.inSt (x + 1) = 3) (runs : s.convOn = true) :
    ∃ t, exec (.portFeedEntry x) s = .next t ∧ Settles (s.feed (x + 1)) t := by
  have acts : (s.vao && s.sel == some (x.val + 1) && s.inSt (x + 1) == inSearch && s.convOn) = true := by
    simp [alive, selected, searches, runs, inSearch]
  exact ended_of acts

/-- A step on the selected DCIN, in the search or after it. -/
theorem exec_searchStep {vin0 vin reg : Nat} (selected : s.sel = some 0) (runs : s.convOn = true) :
    let b := s.mark Hid.CHG_CUT 0 (50 ≤ reg)
    ∃ t, exec (.searchStep vin0 vin reg) s = .next t ∧ Settles (if s.inSt 0 = 3 then b.searchStep (s.dips vin0 vin) (50 ≤ reg)
      else if s.inSt 0 = 4 then b.searchBack (s.dips vin0 vin) (100 ≤ reg) else b) t := by
  intro b
  have acts : (s.vao && s.sel == some 0 && s.convOn) = true := by simp [alive, selected, runs]
  have noted : SameApart [Hid.CHG_CUT] s b := SameApart.refl.mark
  have state : b.inSt 0 = s.inSt 0 := noted.inSt 0
  have dips : b.dips vin0 vin = s.dips vin0 vin := by rw [State.dips, State.dcQmin, noted.get, noted.get, State.dips, State.dcQmin]
  refine ended_reaches acts ?_
  rw [← state, ← dips]
  simp [b, State.ifDo, inSearch, inFeed]

theorem exec_supplementStart (fed : s.sel.isSome = true) (battery : s.batAvail = true) (new : s.is Reg.PP_STAT_SUPPL 0 = false) :
    ∃ t, exec .supplementStart s = .next t ∧ Settles ((((s.put Reg.PP_STAT_SUPPL 0 1).flag Reg.PP_EVT_SUPPL_SEEN 0 1).irq 58).ifDo
      (s.is Hid.CONV_REL 0) fun s => s.put Reg.PP_STAT_BFET 0 3) t := by
  have acts : (s.vao && s.sel.isSome && s.batAvail && !s.is Reg.PP_STAT_SUPPL 0) = true := by simp [alive, fed, battery, new]
  exact ended_of acts

end

end Sys2Proof.Machine

open Sys2Proof Sys2Proof.Machine

/-- Settles O40: each event of an input acts as the state meets its condition, and a permitted SRCH_GO restarts the search. -/
theorem inputsComeAndGo : Obligations.InputsComeAndGo := by
  intro s w i alive
  refine ⟨fun can => ?_, fun above other calm => ?_, fun debounces inRange => ⟨?_, fun same => ?_⟩, fun j selected may => ?_,
    exec_inputLoss_dcin alive,
    fun j r selected => exec_inputLoss alive selected _,
    fun x selected => ?_,
    exec_inputSwitchFail alive, fun vin0 vin reg selected runs => ?_, fun en hp => ?_, fun fed battery new => ?_, rfl⟩
  · have comes := exec_inputInRange alive can
    have kept := sameApart_comes s i
    refine ⟨fun step => ?_, fun step ship => ?_, fun step empty => ?_⟩
    · have still : (s.comes i).get Hid.TSTEP 0 ≠ 5 := fun five => step (kept.get.symm.trans five)
      rwa [stepsInput_none still] at comes
    · rwa [stepsInput_ship (kept.get.trans step) (kept.get.trans ship)] at comes
    · rwa [stepsInput_empty (kept.get.trans step) (kept.get.trans empty)] at comes
  · refine ⟨?_, fun x port => ⟨fun still => ?_, fun moves => ?_⟩⟩
    · rintro rfl
      exact exec_outOfRange_dcin alive other calm
    · have left := exec_outOfRange_port alive port other calm
      rwa [still, State.ifDo_false] at left
    · have left := exec_outOfRange_port alive port other calm
      rwa [moves, State.ifDo_true] at left
  · obtain ⟨t, runs, follows⟩ := exec_inputDebounceEnd (i := i) alive []
    rw [settling_alone s debounces inRange] at follows
    exact ⟨t, runs, follows⟩
  · obtain ⟨t, runs, follows⟩ := exec_inputDebounceEnd (i := i) alive same
    refine ⟨_, t, runs, follows, fun j named debounces inRange => selectNext_ready _ j ?_⟩
    exact inSt_forEach_ready s (.inl (mem_settling s named debounces inRange))
  · have upgrades := exec_inputUpgrade alive may
    rw [selected] at upgrades
    exact ⟨fun searches => by simpa [searches, inSearch] using upgrades, fun still => by simpa [still, inSearch] using upgrades⟩
  · obtain ⟨low, high⟩ := exec_inputLoss_port alive selected
    exact ⟨low, high, exec_portFeedEntry alive selected⟩
  · have steps := exec_searchStep (vin0 := vin0) (vin := vin) (reg := reg) alive selected runs
    exact ⟨fun searches => by simpa [searches] using steps, fun feeds => by simpa [feeds] using steps⟩
  · exact regWrite_ppCtrl (f := State.searchAgain) (by simp [ppCommands]) en hp
  · have starts := exec_supplementStart alive fed battery new
    exact ⟨fun kept => by rwa [kept, State.ifDo_false] at starts, fun released => by rwa [released, State.ifDo_true] at starts⟩
end

section
/-! PROOFS. The battery, the BATFET and the charger: the phases and their timers, the events, and CHG_CLR where it does nothing. -/

namespace Sys2Proof.Machine
open Sys2Proof

/- The battery and the BATFET. -/

section
variable {s : State} (alive : s.vao = true)
include alive

section
variable (soft : s.get Reg.PP_STAT_BFET 0 = 1)
include soft

theorem exec_batfetSoftstartEnd : ∃ t, exec .batfetSoftstartEnd s = .next t ∧ Settles ((s.put Reg.PP_STAT_BFET 0 2).bfetRefresh) t := by
  have acts : (s.vao && s.get Reg.PP_STAT_BFET 0 == bfSoft) = true := by simp [alive, soft, bfSoft]
  exact ended_of acts

theorem exec_batfetSoftstartFail : ∃ t, exec .batfetSoftstartFail s = .next t ∧
    Settles ((((s.put Reg.PP_STAT_BFET 0 0).put Hid.BF_LOCK 0 1).flag Reg.PP_EVT_BFET_SS_FAIL 0 1).raise 89) t := by
  have acts : (s.vao && s.get Reg.PP_STAT_BFET 0 == bfSoft) = true := by simp [alive, soft, bfSoft]
  exact ended_of acts

end

/-- A presence test is due while the battery is absent, and while it is present, is not charged and has a period. -/
theorem exec_presenceTestPeriod (due : s.is Reg.PP_STAT_BATT_ABSENT 0 = true ∨
      (s.batPresent = true ∧ s.get Reg.CHG_TMR_PT_PERIOD 0 ≠ 0 ∧ s.charging = false)) :
    ∃ t, exec .presenceTestPeriod s = .next t ∧ Settles s.ptStart t := by
  have acts : (s.vao && (s.is Reg.PP_STAT_BATT_ABSENT 0 || (s.batPresent && s.is Reg.CHG_TMR_PT_PERIOD 0 && !s.charging))) = true := by
    rcases due with absent | ⟨present, timed, idle⟩
    · simp [alive, absent]
    · simp [alive, present, State.is, timed, idle]
  exact ended_of acts

theorem exec_presenceTestEnd {r : PresenceResult} (runs : s.is Hid.PT_RUN 0 = true) :
    ∃ t, exec (.presenceTestEnd r) s = .next t ∧ Settles (s.ptEnd (s.ptResult r)) t := by
  have acts : (s.vao && s.is Hid.PT_RUN 0) = true := by simp [alive, runs]
  exact ended_of (s := s) (f := fun s => s.ptEnd (s.ptResult r)) acts

theorem exec_batteryRemoval (charging : s.charging = true) :
    ∃ t, exec .batteryRemoval s = .next t ∧ Settles ((s.batGone.flag Reg.PP_EVT_BAT_REMOVED 0 1).raise 89) t := by
  have acts : (s.vao && s.charging) = true := by simp [alive, charging]
  exact ended_of acts

/-- An undervoltage tells of itself; outside ACTIVE the battery is empty. -/
theorem exec_batteryUndervoltage (feeds : s.onBatt = true) : ∃ t, exec .batteryUndervoltage s = .next t ∧
    Settles (((s.flag Reg.PP_EVT_BUV 0 1).raise 90).ifDo (s.hold || s.standby) State.batteryEmpty) t := by
  have acts : (s.vao && s.onBatt) = true := by simp [alive, feeds]
  exact ended_of acts

theorem exec_converterRestart (released : s.is Hid.CONV_REL 0 = true) :
    ∃ t, exec .converterRestart s = .next t ∧ Settles ((s.put Hid.CONV_REL 0 0).put Hid.CONV_ON 0 1) t := by
  have acts : (s.vao && s.is Hid.CONV_REL 0) = true := by simp [alive, released]
  exact ended_of acts

end

/-- A presence test runs neither on the battery nor beside another one, nor in SHIP_PEND. -/
theorem ptStart_starts {s : State} (fed : s.onBatt = false) (free : s.is Hid.PT_RUN 0 = false) (awake : s.cur ≠ 4) : s.ptStart =
    ((((s.put Hid.PT_PREV 0 (s.get Reg.PP_STAT_BFET 0)).put Hid.PT_RUN 0 1).put Hid.PT_RE 0 0).put Reg.PP_STAT_BFET 0 0).stepCut := by
  simp [State.ptStart, State.ifDo, fed, free, awake, bfOff]

/-- ACTIVE is neither HOLD nor STANDBY. -/
theorem not_hold_or_standby_of_active {s : State} (active : s.active = true) : (s.hold || s.standby) = false := by
  have state : s.cur = 2 := by simpa [State.active] using active
  simp [State.hold, State.standby, state]

/- The charger. -/

section
variable {s : State}

/-- A change of phase that leaves the timers of R258: from a phase other than FAULT to one other than PRECHARGE and FAULT. -/
theorem setPhase_goes {p q why : Nat} (was : s.phase = q) (moves : q ≠ p ∧ q ≠ 5 ∧ p ≠ 1 ∧ p ≠ 5 := by decide) :
    s.setPhase p why = ((s.put Reg.CHG_STAT_PHASE 0 p).put Reg.CHG_STAT_FLT_WHY 0 why).irq 59 := by
  simp [State.setPhase, State.ifDo, was, moves]

/-- FAULT raises the charger's source. -/
theorem setPhase_fault {why : Nat} (noFault : s.phase ≠ 5) :
    s.setPhase 5 why = (((s.put Reg.CHG_STAT_PHASE 0 5).put Reg.CHG_STAT_FLT_WHY 0 why).irq 59).raise 92 := by
  simp [State.setPhase, State.ifDo, noFault]

variable {t : State} {vbat : Nat}

/- What the charger compares is not a matter of CHG_LIN. -/

section
variable (same : ∀ g m, Fld.apart Hid.CHG_LIN g = true → t.get g m = s.get g m)
include same

theorem is_linear (g : Fld) (m : Nat) (apart : Fld.apart Hid.CHG_LIN g = true) : t.is g m = s.is g m := congrArg (· != 0) (same g m apart)

theorem cells_linear : t.cells = s.cells := by simp (disch := decide) only [State.cells, same]

theorem vreg_linear : t.vreg = s.vreg := by simp (disch := decide) only [State.vreg, State.vregF, cells_linear same, is_linear same, same]

theorem vpre_linear : t.vpre = s.vpre := by simp (disch := decide) only [State.vpre, State.vpreF, vreg_linear same, same]

theorem vregNow_linear : t.vregNow = s.vregNow := by
  have temperature : t.chgTemp = s.chgTemp := by simp (disch := decide) only [State.chgTemp, is_linear same, same]
  rw [State.vregNow, State.vregNow, vreg_linear same, temperature]

end

theorem get_mark_linear (s : State) (b : Bool) (g : Fld) (m : Nat) (apart : Fld.apart Hid.CHG_LIN g = true) :
    (s.mark Hid.CHG_LIN 0 b).get g m = s.get g m := State.get_put_apart _ _ _ _ _ _ apart

theorem phase_mark (s : State) (b : Bool) : (s.mark Hid.CHG_LIN 0 b).phase = s.phase := get_mark_linear s b _ _ (by decide)

theorem phaseMove_inhibit (off : s.phase = 0) (free : s.inhibit = 0) : s.phaseMove vbat = s.phaseFrom vbat := by
  simp [State.phaseMove, State.charging, State.ifDo, off, free]

theorem phaseMove_precharge (pre : s.phase = 1) (reached : s.cells * (s.vpre + 100) ≤ vbat) :
    s.phaseMove vbat = (s.mark Hid.CHG_LIN 0 (vbat < s.vsysMin)).setPhase 2 0 := by
  have charging : s.charging = true := by simp [State.charging, pre]
  have same := get_mark_linear s (vbat < s.vsysMin)
  simp [State.phaseMove, charging, State.ifDo_true, phase_mark, cells_linear same, vpre_linear same, pre, reached]

theorem phaseMove_fast (fast : s.phase = 2) (reached : s.cells * s.vregNow ≤ vbat) :
    s.phaseMove vbat = (s.mark Hid.CHG_LIN 0 (vbat < s.vsysMin)).setPhase 3 0 := by
  have charging : s.charging = true := by simp [State.charging, fast]
  have same := get_mark_linear s (vbat < s.vsysMin)
  simp [State.phaseMove, charging, State.ifDo_true, phase_mark, cells_linear same, vregNow_linear same, fast, reached]

/-- The precharge timer's expiry. -/
theorem chgTime_precharge {d : Nat} (pre : s.phase = 1) (expires : s.preTmo ≤ s.get Hid.CHG_PRE_T 0 + d) :
    s.chgTime d = (s.put Hid.CHG_PRE_T 0 (s.get Hid.CHG_PRE_T 0 + d)).chgFault 1 := by
  simp [State.chgTime, pre, expires, State.ifDo_true]

/-- The safety timer's expiry. -/
theorem chgTime_safe {d : Nat} (charges : s.phase = 2 ∨ s.phase = 3) (expires : s.safeTmo ≤ s.get Hid.CHG_SAFE_T 0 + s.safeRate * d) :
    s.chgTime d = (s.put Hid.CHG_SAFE_T 0 (s.get Hid.CHG_SAFE_T 0 + s.safeRate * d)).chgFault 2 := by
  rcases charges with fast | cv
  · simp [State.chgTime, fast, expires, State.ifDo_true]
  · simp [State.chgTime, cv, expires, State.ifDo_true]

end

/- The events of the charger. -/

section
variable {s : State} (alive : s.vao = true)
include alive

theorem exec_chargerPhaseChange (vbat : Nat) : ∃ t, exec (.chargerPhaseChange vbat) s = .next t ∧ Settles (s.phaseMove vbat) t :=
  ended_of (s := s) (f := fun s => s.phaseMove vbat) alive

theorem exec_chargeTermination (cv : s.phase = 3) : ∃ t, exec .chargeTermination s = .next t ∧ Settles (s.setPhase 4 0) t := by
  have acts : (s.vao && s.phase == 3) = true := by simp [alive, cv]
  exact ended_of (s := s) (f := fun s => s.setPhase 4 0) acts

theorem exec_recharge (full : s.phase = 4) : ∃ t, exec .recharge s = .next t ∧
    Settles ((s.mark Hid.CHG_LIN 0 (s.cells * (s.vregNow - s.vrechg) ≤ s.vsysMin)).setPhase 2 0) t := by
  have acts : (s.vao && s.phase == 4) = true := by simp [alive, full]
  exact ended_of (s := s) (f := fun s => (s.mark Hid.CHG_LIN 0 (s.cells * (s.vregNow - s.vrechg) ≤ s.vsysMin)).setPhase 2 0) acts

theorem exec_preTmoExpiry (pre : s.phase = 1) :
    ∃ t, exec .preTmoExpiry s = .next t ∧ Settles (s.passTime (s.preTmo - s.get Hid.CHG_PRE_T 0)) t := by
  have acts : (s.vao && s.phase == 1) = true := by simp [alive, pre]
  exact ended_of (s := s) (f := fun s => s.passTime (s.preTmo - s.get Hid.CHG_PRE_T 0)) acts

theorem exec_safeTmoExpiry (charges : s.phase = 2 ∨ s.phase = 3) : ∃ t, exec .safeTmoExpiry s = .next t ∧
    Settles (s.passTime ((s.safeTmo - s.get Hid.CHG_SAFE_T 0 + s.safeRate - 1) / s.safeRate)) t := by
  have acts : (s.vao && (s.phase == 2 || s.phase == 3)) = true := by simpa [alive] using charges
  exact ended_of (s := s) (f := fun s => s.passTime ((s.safeTmo - s.get Hid.CHG_SAFE_T 0 + s.safeRate - 1) / s.safeRate)) acts

theorem exec_chargeOvercurrent : ∃ t, exec .chargeOvercurrent s = .next t ∧ Settles (s.chgFault 4) t :=
  ended_of (s := s) (f := fun s => s.chgFault 4) alive

theorem exec_chgNeed (rests : s.standby = true) (present : s.batPresent = true) (fed : s.anyInput = true) (first : s.is Hid.CHG_ONCE 0 = false) :
    ∃ t, exec .chgNeed s = .next t ∧ Settles ((s.put Hid.CHG_ONCE 0 1).irq 48) t := by
  have acts : (s.vao && s.standby && s.batPresent && s.anyInput && !s.is Hid.CHG_ONCE 0) = true := by simp [alive, rests, present, fed, first]
  exact ended_of acts

end

/-- A write to PP_CTRL on its way and its CHG_EN leave the phase. -/
theorem phase_ppCtrl (s : State) (w : Writer) (v : Nat) : ((s.arrive w).regStore 0x3004 v).phase = s.phase := by
  rw [State.phase, regStore_ppCtrl, State.get_put_apart _ _ _ _ _ _ (by decide), get_arrive _ _ _ _ (by decide) (by decide) (by decide), State.phase]

/-- CHG_CLR does nothing in a phase other than FAULT, and nothing follows it but where the charger is in INHIBIT. -/
theorem exec_chgClr_none {s : State} {w : Writer} {now : ChgSense} (hp : Permitted s w 0x3004 (s.ppWord 8)) (en : s.get Reg.PP_CTRL_CHG_EN 0 ≤ 1)
    (noFault : s.phase ≠ 5) (busy : s.phase ≠ 0) :
    ∃ t, exec (.chgClr w now) s = .next t ∧ Settles ((s.arrive w).regStore 0x3004 (s.ppWord 8)) t := by
  have phase := phase_ppCtrl s w (s.ppWord 8)
  have idle : ((s.arrive w).regStore 0x3004 (s.ppWord 8)).chgClr = (s.arrive w).regStore 0x3004 (s.ppWord 8) := by
    simp [State.chgClr, phase, noFault]
  have written := (busWrite_ppCtrl (f := State.chgClr) (by simp [ppCommands]) en hp).trans idle
  have stays : execChgClr w now s = ended ((s.arrive w).regStore 0x3004 (s.ppWord 8)) := by
    simp [execChgClr, State.ifDo, written, phase, noFault, busy]
  exact ⟨_, stays, settles_finish _⟩

end Sys2Proof.Machine

open Sys2Proof Sys2Proof.Machine

/-- Settles O41: each event acts as the state meets its condition, and a permitted BAT_GO or RETEST acts on the state in which it arrives. -/
theorem batteryAndBatfet : Obligations.BatteryAndBatfet := by
  intro s w r
  refine ⟨fun en => ⟨regWrite_ppCtrl (f := State.batGo) (by simp [ppCommands]) en, regWrite_ppCtrl (f := State.retest) (by simp [ppCommands]) en⟩,
    fun alive => ⟨fun soft => ⟨exec_batfetSoftstartEnd alive soft, exec_batfetSoftstartFail alive soft⟩, fun due fed free awake => ?_,
      exec_presenceTestEnd alive, exec_batteryRemoval alive, fun feeds => ?_, ended_of alive, ended_of alive, exec_converterRestart alive⟩⟩
  · rw [← ptStart_starts fed free awake]
    exact exec_presenceTestPeriod alive due
  · have told := exec_batteryUndervoltage alive feeds
    refine ⟨fun active => ?_, fun rests => ?_⟩
    · rwa [not_hold_or_standby_of_active active, State.ifDo_false] at told
    · have empty : (s.hold || s.standby) = true := by simpa using rests
      rwa [empty, State.ifDo_true] at told

/-- Settles O42: each event moves the charger to the next phase, or to FAULT with its cause, from the phases that it asks for. -/
theorem chargerPhases : Obligations.ChargerPhases := by
  intro s w vbat alive fault goes
  refine ⟨fun off free => ?_, fun pre reached => ?_, fun fast reached => ?_, fun cv => ?_, fun full => ?_, exec_preTmoExpiry alive,
    exec_safeTmoExpiry alive, fun d => ⟨chgTime_precharge, chgTime_safe⟩, fun noFault => ?_,
    fun hp en noFault busy high => exec_chgClr_none hp en noFault busy, exec_chgNeed alive⟩
  · rw [← phaseMove_inhibit off free]
    exact exec_chargerPhaseChange alive vbat
  · obtain ⟨t, runs, follows⟩ := exec_chargerPhaseChange alive vbat
    rw [phaseMove_precharge pre reached] at follows
    exact ⟨_, t, runs, follows, setPhase_goes ((phase_mark s _).trans pre)⟩
  · obtain ⟨t, runs, follows⟩ := exec_chargerPhaseChange alive vbat
    rw [phaseMove_fast fast reached] at follows
    exact ⟨_, t, runs, follows, setPhase_goes ((phase_mark s _).trans fast)⟩
  · obtain ⟨t, runs, follows⟩ := exec_chargeTermination alive cv
    exact ⟨_, t, runs, follows, setPhase_goes cv⟩
  · obtain ⟨t, runs, follows⟩ := exec_recharge alive full
    exact ⟨_, t, runs, follows, setPhase_goes ((phase_mark s _).trans full)⟩
  · obtain ⟨t, runs, follows⟩ := exec_chargeOvercurrent alive
    exact ⟨_, t, runs, follows, setPhase_fault noFault⟩
end

section
/-! PROOFS. The gauge, the Ledger, the claims and the host links: what each command leaves, and the obligations of the family. -/

/- One declaration after the other: the check's memory limit leaves little room for threads beside those of the tests. -/
set_option Elab.async false

namespace Sys2Proof.Machine
open Sys2Proof

/- Effects under a condition, and the states that commands settle from. -/

section
variable {s u : State} {c : Bool} {f : State → State}

theorem ifDo_pos (h : c = true) : s.ifDo c f = f s := if_pos h

theorem ifDo_neg (h : c = false) : s.ifDo c f = s := if_neg (ne_true_of_eq_false h)

/- The state that a command settles from, with what is said of it. -/
theorem settles_with {o : Out} {P : State → Prop} (h : ∃ t, o = .next t ∧ Settles u t) (p : P u) :
    ∃ u t, o = .next t ∧ Settles u t ∧ P u :=
  ⟨u, h.imp fun _ ht => ⟨ht.1, ht.2, p⟩⟩

end

/- Claims. The choice that a claim makes (R356) is Mathlib's `argmax` of the priorities. -/

/- Of rising numbers, the first that is best is the lowest of the best. -/
theorem argmax_precedes {l : List Nat} {m n : Nat} {f : Nat → Nat} (rising : l.SortedLT) (best : n ∈ l.argmax f) (hm : m ∈ l) :
    f m < f n ∨ f m = f n ∧ n ≤ m :=
  (List.le_of_mem_argmax hm best).lt_or_eq.imp_right fun same =>
    ⟨same, (rising.getIso l).symm.le_iff_le (x := ⟨n, List.argmax_mem best⟩) (y := ⟨m, hm⟩) |>.1 (List.index_of_argmax best hm same.ge)⟩

/- The gauge. -/

section
variable {s : State}

/- GG_CTRL stands at its address, and takes NEW_PACK. -/
theorem store_newPack (w : Writer) (k : Nat) : s.store w 0x401C (k * 256 + 1) = (s.regStore 0x401C (k * 256 + 1)).newPack :=
  show (s.regStore 0x401C (k * 256 + 1)).ifDo ((k * 256 + 1).testBit 0) State.newPack = _ from
    ifDo_pos ((Nat.testBit_zero _).trans (decide_eq_true (Nat.odd_iff.1 (Even.mul_left ⟨128, rfl⟩ k).add_one)))

section
variable (valid : s.is Reg.GG_STAT_VALID 0 = true)
include valid

/- A valid estimate stays so as another field is written. -/
theorem valid_put {f : Fld} {n v : Nat} (other : Fld.apart f Reg.GG_STAT_VALID = true) : (s.put f n v).is Reg.GG_STAT_VALID 0 = true :=
  (congrArg (· != 0) (State.get_put_apart s f _ n 0 v other)).trans valid

/- The empty point takes a free value at most. -/
theorem valid_xEmpty {g : Gauge} : ({ s.xEmpty.2 with gauge := g } : State).is Reg.GG_STAT_VALID 0 = true :=
  iteInduction (motive := fun r : Rat × State => r.2.is Reg.GG_STAT_VALID 0 = true) (fun _ => valid) fun _ => valid

/- A report writes other fields than VALID. -/
theorem valid_gaugeReport : s.gaugeReport.is Reg.GG_STAT_VALID 0 = true :=
  (is_mark_apart _ Reg.GG_STAT_RSV_BIG Reg.GG_STAT_VALID 0 0 _ (Eq.refl true)).trans (valid_put (f := Reg.GG_LVL_Q_RIF)
    ((is_mark_apart _ Reg.GG_STAT_TBL_BAD Reg.GG_STAT_VALID 0 0 _ (Eq.refl true)).trans (valid_put (f := Reg.GG_R0_R0)
      (valid_put (f := Reg.GG_UNC_HRS) (valid_put (f := Reg.GG_UNC_U) (valid_put (f := Reg.GG_QFC_Q_FC) (valid_put (f := Reg.GG_FCC_FCC_U)
        (valid_put (f := Reg.GG_Q_SOC_PCT) (valid_put (f := Reg.GG_Q_Q_U) (valid_xEmpty valid)
          (Eq.refl true)) (Eq.refl true)) (Eq.refl true)) (Eq.refl true)) (Eq.refl true)) (Eq.refl true)) (Eq.refl true))) (Eq.refl true))

end

/- The start estimate ends with VALID set and a report (R315). -/
theorem gaugeStart_ends {P : State → Prop} {s : State} (h : ∀ u : State, P ((u.put Reg.GG_STAT_VALID 0 1).gaugeReport)) {v i : Rat} :
    P (s.gaugeStart v i) := h _

theorem valid_gaugeStart {v i : Rat} : (s.gaugeStart v i).is Reg.GG_STAT_VALID 0 = true :=
  gaugeStart_ends (P := fun u => u.is Reg.GG_STAT_VALID 0 = true) fun _ => valid_gaugeReport (congrArg (· != 0) (State.get_put_self _ _ _ _ Nat.one_pos))

end

/- The Ledger's commands. -/

section
variable {s u : State} {w : Writer}

/- LG_ADMIT stands at its address; a host link alone acts there (R327). -/
theorem lgAdmit_acts {v : Nat} (hp : Permitted s w 0x4808 v) (hu : (s.arrive w).ifDo (isLink w) (fun s => s.hostAdmit v) = u) :
    ∃ t, regWrite s w 0x4808 v = .next t ∧ Settles u t := regWrite_word (Nat.le_of_ble_eq_true (Eq.refl true)) rfl hp hu

/- RCV_CLR alone admits nothing. -/
theorem hostAdmit_rcvClr {v : Nat} (quiet : v.testBit 8 = false) (clr : v.testBit 9 = true) :
    s.hostAdmit v = s.put Reg.LS_STAT_RCV (v % 128) 0 :=
  (ifDo_pos (f := fun s => s.put Reg.LS_STAT_RCV (v % 128) 0) clr).trans
    (congrArg (State.put · Reg.LS_STAT_RCV (v % 128) 0) (ifDo_neg (congrArg (· && _ && _) quiet)))

/- The word that RCV_CLR writes: its fields ADMIT, CLR and SRC. -/
theorem rcvClr_fields : ∀ n : SrcN, (n.val + 512).testBit 8 = false ∧ (n.val + 512).testBit 9 = true ∧ (n.val + 512) % 128 = n.val := by
  decide

theorem below_succ {P : Nat → Prop} {k : Nat} (rest : ∀ j < k, P j) (top : P k) : ∀ j < k + 1, P j :=
  Nat.forall_lt_succ_right.2 ⟨rest, top⟩

/- LG_STICKYj stands at its address. -/
theorem store_sticky (v : Nat) : ∀ j < 4, s.store w (0x4810 + 4 * j) v =
    s.forEach (below 32 (fun i => v.testBit i)) (fun s i => s.clearSticky (32 * j + i)) :=
  below_succ (P := fun j => s.store w (0x4810 + 4 * j) v = s.forEach (below 32 (fun i => v.testBit i)) (fun s i => s.clearSticky (32 * j + i)))
    (below_succ (below_succ (below_succ (fun j h => absurd h (Nat.not_lt_zero j)) rfl) rfl) rfl) rfl

end

/- SPI frames. -/

section
variable {s u : State} {o p : List Word} {bad : Bool} {l head : List (BitVec 8)}

/- What a linked host sends leads to a state, which settles. -/
theorem linked_acts {s : State} {w : Writer} (linked : s.linked w = true) {u : State} {o : Out} (acts : o = ended u) :
    ∃ t, (if !s.linked w then done s else o) = .next t ∧ Settles u t :=
  ⟨_, (if_neg (ne_true_of_eq_false (congrArg not linked))).trans acts, settles_finish u⟩

/- A frame that finds nothing bad and nothing early sends its words alone. -/
theorem frame_sends {early : Bool} {f g : State → State} (good : bad = false) (clock : early = false) (sends : o = p) :
    ended { (s.ifDo bad f).ifDo early g with out := o } = ended { s with out := p } :=
  congrArg₂ (fun (u : State) o => ended { u with out := o }) ((ifDo_neg clock).trans (ifDo_neg good)) sends

theorem length_readBurst (w : Writer) (a n : Nat) : (spiBytes (s.readBurst w a n).1).length = 4 * n := by
  induction n generalizing s a with
  | zero => rfl
  | succ n ih => exact congrArg (· + 4) (ih _)

/- The data of a read frame that come in time, and their CRC (R371). -/
theorem readFrame_out {early n : Nat} (good : bad = false) (clock : early = 0) (whole : l.length = n) :
    spiWords ((List.replicate early 0xFF ++ l.drop early).take n) ++
      [frameCrc (bad || 0 < early) (head ++ (List.replicate early 0xFF ++ l.drop early).take n)] =
    spiWords l ++ [BitVec.ofNat 32 (crc8 (head ++ l))] := by
  subst good clock
  exact congrArg (fun l => spiWords l ++ [BitVec.ofNat 32 (crc8 (head ++ l))]) (List.take_of_length_le whole.le)

/- The status byte and its CRC, while FCLK runs (R372). -/
theorem statusFrame_out {early : Bool} {k : Nat} {hdr : BitVec 8} (clock : early = false) :
    [(if early then 0xFF else BitVec.ofNat 8 k : BitVec 8).setWidth 32, frameCrc early [0x05, hdr, 0, if early then 0xFF else BitVec.ofNat 8 k]] =
      [BitVec.ofNat 32 (k % 256), BitVec.ofNat 32 (crc8 [0x05, hdr, 0, BitVec.ofNat 8 k])] := by
  subst clock
  exact congrArg (· :: _) (BitVec.eq_of_toNat_eq (BitVec.toNat_setWidth 32 (BitVec.ofNat 8 k)))

end

/- SMBus and PMBus transactions. What a command does is read off its definition (`runs`), down to the one choice that its condition makes (`acts`). -/

section
variable {s : State} (up : s.smbUp = true)
include up
variable {u v b : State} {o : Out} {p : BitVec 8} {k : Nat}

theorem smbus_acts (acts : v = u) (runs : o = if s.smbUp then ended v else done s) : ∃ t, o = .next t ∧ Settles u t :=
  ⟨_, runs.trans ((if_pos up).trans (congrArg ended acts)), settles_finish u⟩

/- A write acts where its PEC is right, and is refused whole where it is wrong (R377). -/
theorem smbus_writes (runs : o = if s.smbUp then ended (if p.toNat == k then u else (b.put Reg.HL_SMB_STAT_PEC_ERR 0 1).setBit Hid.PM_CML 0 5 true)
    else done s) : (p.toNat = k → ∃ t, o = .next t ∧ Settles u t) ∧ (¬ p.toNat = k → ∃ u t, o = .next t ∧ Settles u t ∧
      u = (b.put Reg.HL_SMB_STAT_PEC_ERR 0 1).setBit Hid.PM_CML 0 5 true) :=
  ⟨fun good => smbus_acts up (if_pos (beq_of_eq good)) runs, fun bad => settles_with (smbus_acts up (if_neg fun e => bad (eq_of_beq e)) runs) rfl⟩

variable (one : s.demand.page ≠ 0xFF)
include one

/- A command that reads one page acts while PAGE names one (R378). -/
theorem paged_acts {u v : State} {o : Out} (acts : v = u)
    (runs : o = if s.smbUp then ended (if s.demand.page == 0xFF then s.demand.nack 6 else v) else done s) : ∃ t, o = .next t ∧ Settles u t :=
  smbus_acts up ((if_neg fun all => one (eq_of_beq all)).trans acts) runs

/- A status register is read as it stands, and written under its PEC (R379). -/
theorem paged_status {u v b : State} {o r : Out} {p : BitVec 8} {k : Nat}
    (reads : r = if s.smbUp then ended (if s.demand.page == 0xFF then s.demand.nack 6 else v) else done s)
    (writes : o = if s.smbUp then ended (if s.demand.page == 0xFF then s.demand.nack 6 else if p.toNat == k then u else
      (b.put Reg.HL_SMB_STAT_PEC_ERR 0 1).setBit Hid.PM_CML 0 5 true) else done s) :
    (∃ t, r = .next t ∧ Settles v t) ∧ (p.toNat = k → ∃ t, o = .next t ∧ Settles u t) :=
  ⟨paged_acts up one rfl reads, fun good => paged_acts up one (if_pos (beq_of_eq good)) writes⟩

end

/- CLEAR_FAULTS clears the page that PAGE names (R379). -/
theorem clearFaults_one {e : State} (one : e.page ≠ 0xFF) :
    (e.forEach (if e.page == 0xFF then below 224 pageOk else [e.page]) State.pageClear).alertOff = (e.pageClear e.page).alertOff :=
  have page : (if e.page == 0xFF then below 224 pageOk else [e.page]) = [e.page] := if_neg fun all => one (eq_of_beq all)
  have single (f : State → Nat → State) : e.forEach [e.page] f = f e e.page := rfl
  congrArg State.alertOff ((congrArg (e.forEach · State.pageClear) page).trans (single State.pageClear))

/- A demand starts FCLK and writes no other field (R18). -/
theorem demand_is {s : State} {f : Fld} {b : Bool} (other : Fld.apart Hid.FCLK f = true) (h : s.is f 0 = b) : s.demand.is f 0 = b :=
  iteInduction (motive := fun u : State => u.is f 0 = b) (fun _ => (congrArg (· != 0) (State.get_put_apart s Hid.FCLK f 0 0 1 other)).trans h) fun _ => h

/- PMBus readings (R381). -/

section
variable {s : State} {n v : Nat} {cmd : BitVec 8} {f : Fld}

/- The model matches on the value by a matcher of its own, which smart unfolding does not see through. -/

set_option smartUnfolding false in
theorem sendVolt_some (chan : s.pageChan s.page = some n) (value : s.linear16 n (s.get f n) = some v) :
    s.sendVolt cmd f = s.smbSend cmd (leBytes 2 v) :=
  congrArg (Option.casesOn (motive := fun _ => State) · (s.nack 7) fun v => s.smbSend cmd (leBytes 2 v))
    ((congrArg (Option.bind · fun n => s.linear16 n (s.get f n)) chan).trans value)

set_option smartUnfolding false in
theorem sendVolt_none (chan : s.pageChan s.page = none) : s.sendVolt cmd f = s.nack 7 :=
  congrArg (fun o => Option.casesOn (motive := fun _ => State) (Option.bind o fun n => s.linear16 n (s.get f n)) (s.nack 7)
    fun v => s.smbSend cmd (leBytes 2 v)) chan

variable (up : s.smbUp = true) (one : s.demand.page ≠ 0xFF)
include up one

/- A page's reading in volts, by its channel's mode. -/
theorem paged_volt {c : Instr} (runs : exec c s = if s.smbUp then ended (if s.demand.page == 0xFF then s.demand.nack 6 else s.demand.sendVolt cmd f)
    else done s) :
    (∀ n, s.demand.pageChan s.demand.page = some n → s.demand.get Reg.CH_CFG_MODE n = 0 → ∃ t, exec c s = .next t ∧
      Settles (s.demand.smbSend cmd (leBytes 2 ((2 * (5 * s.demand.get f n) + 32) / 64))) t) ∧
    (∀ n, s.demand.pageChan s.demand.page = some n → s.demand.get Reg.CH_CFG_MODE n = 1 → ∃ t, exec c s = .next t ∧
      Settles (s.demand.smbSend cmd (leBytes 2 ((2 * (3 * s.demand.get f n) + 8) / 16))) t) ∧
    (s.demand.pageChan s.demand.page = none → ∃ u t, exec c s = .next t ∧ Settles u t ∧ u = s.demand.nack 7) :=
  ⟨fun _ chan mode => paged_acts up one (sendVolt_some chan ((if_pos (beq_of_eq mode)).trans
      (congrArg (some <| roundHalf · 32) (Nat.mul_comm _ 5)))) runs,
    fun _ chan mode => paged_acts up one (sendVolt_some chan ((if_neg fun e => absurd (mode.symm.trans (eq_of_beq e)) Nat.one_ne_zero).trans
      ((if_pos (beq_of_eq mode)).trans (congrArg (some <| roundHalf · 8) (Nat.mul_comm _ 3))))) runs,
    fun none => settles_with (paged_acts up one (sendVolt_none none) runs) rfl⟩

set_option smartUnfolding false in
theorem mfrReadRaw_acts (chan : s.demand.pageChan s.demand.page = some n) :
    ∃ t, execMfrReadRaw s = .next t ∧ Settles (s.demand.smbSend 0xD3 (4 :: leBytes 4 (s.demand.chData n).toNat)) t :=
  paged_acts up one (congrArg (Option.casesOn (motive := fun _ => State) · (s.demand.nack 7)
    fun n => s.demand.smbSend 0xD3 (4 :: leBytes 4 (s.demand.chData n).toNat)) chan) rfl

theorem readIout_acts {a : Bool × Nat × Nat} (loop : s.demand.page < 8) (low : s.demand.get Reg.PM_LOOP_ICH s.demand.page < 192)
    (even : s.demand.get Reg.PM_LOOP_ICH s.demand.page % 2 = 0) (mode : s.demand.get Reg.CH_CFG_MODE (s.demand.get Reg.PM_LOOP_ICH s.demand.page) = 2)
    (amps : shuntAmps (s.demand.get Reg.CH_DATA_VALUE (s.demand.get Reg.PM_LOOP_ICH s.demand.page)) (s.demand.get Reg.PM_LOOP_RSH s.demand.page) = a)
    (sent : linear11 a.1 a.2.1 a.2.2 = some v) : ∃ t, execReadIout s = .next t ∧ Settles (s.demand.smbSend 0x8C (leBytes 2 v)) t := by
  refine paged_acts up one ((if_neg (ne_true_of_eq_false (congrArg₂ or (congrArg₂ or (congrArg₂ or (congrArg not (decide_eq_true loop))
    (decide_eq_false (not_le.2 low))) (bne_eq_false_iff_eq.2 even)) (bne_eq_false_iff_eq.2 mode)))).trans ?_) rfl
  rw [amps]
  set_option smartUnfolding false in
    exact congrArg (Option.casesOn (motive := fun _ => State) · ((s.demand.drawFree 16).2.smbSend 0x8C (leBytes 2 (s.demand.drawFree 16).1))
      fun v => s.demand.smbSend 0x8C (leBytes 2 v)) sent

end

/- Writes at any address, and the NVM window (R408, R409). -/

section
variable {s u : State} {w : Writer} {a : Nat}

/- A permitted write acts at the word that its address lies in. -/
theorem write_acts {o : Out} {b v : Nat} (runs : o = regWrite s w a v) (fits : a < 2 ^ 16) (word : a / 4 * 4 = b) (hp : Permitted s w b v)
    (acts : (s.arrive w).store w b v = u) : ∃ t, o = .next t ∧ Settles u t :=
  ⟨_, runs.trans (congrArg ended ((busWrite_linked s w (BitVec.ofNatLT a fits) v hp.1).trans ((congrArg (a₁ := (BitVec.ofNatLT a fits).toNat / 4 * 4)
    (fun a => if s.denied w a v then (s.arrive w).reportRefused w a else (s.arrive w).store w a v) word).trans ((if_neg (ne_true_of_eq_false hp.2)).trans
      acts)))), settles_finish u⟩

/- The rule of `State.store` for an address of the window goes past the tests of the blocks below it and of the backup domain. Each step says so for
one test, under the address's bounds. -/

section
variable {c : Nat} {x y z : State}

theorem skip_block (top : Nat.ble c 0x8000 = true) (rest : 0x8000 ≤ a ∧ a < 0xC000 → y = z) :
    0x8000 ≤ a ∧ a < 0xC000 → (if a < c then x else y) = z :=
  fun place => (if_neg (Nat.not_lt_of_le ((Nat.le_of_ble_eq_true top).trans place.1))).trans (rest place)

theorem other_address (top : Nat.blt c 0x8000 = true) (place : 0x8000 ≤ a ∧ a < 0xC000) : (a == c) = false :=
  beq_false_of_ne (Nat.ne_of_gt ((Nat.le_of_ble_eq_true top).trans place.1))

theorem skip_domain (rest : 0x8000 ≤ a ∧ a < 0xC000 → y = z) :
    0x8000 ≤ a ∧ a < 0xC000 → (if inDomain a then x else y) = z :=
  fun place => (if_neg (ne_true_of_eq_false (congrArg₂ or (congrArg₂ or (congrArg₂ or (congrArg₂ or
    ((congrArg (decide (0x5000 ≤ a) && ·) (decide_eq_false (p := a < 0x5400) (Nat.not_lt_of_le
      (Nat.le_trans (m := 0x8000) (Nat.le_of_ble_eq_true (Eq.refl true)) place.1)))).trans (Bool.and_false _))
        (other_address (c := 0x8) (Eq.refl true) place)) (other_address (c := 0x10) (Eq.refl true) place))
        (other_address (c := 0x40C) (Eq.refl true) place)) (other_address (c := 0x80C) (Eq.refl true) place)))).trans (rest place)

theorem store_window (s : State) (w : Writer) (a v : Nat) : 0x8000 ≤ a ∧ a < 0xC000 → s.store w a v = s.nvmWrite a v :=
  skip_domain (skip_block (Eq.refl true) (skip_block (Eq.refl true) (skip_block (Eq.refl true) (skip_block (Eq.refl true) (skip_block (Eq.refl true)
    (skip_block (Eq.refl true) (skip_block (Eq.refl true) (skip_block (Eq.refl true) (skip_block (Eq.refl true) (skip_block (Eq.refl true)
    (skip_block (Eq.refl true) (skip_block (Eq.refl true) (skip_block (Eq.refl true) (skip_block (Eq.refl true) (skip_block (Eq.refl true)
    fun place => if_pos place.2)))))))))))))))

end

/- A word at a place of the window is queued while there is room, in a page that takes writes. -/
theorem window_acts {off : BitVec 14} {v : Word} (acts : (if (pageRegion s.nvmPage).isSome then if 16 ≤ s.nvmq.length then
      (s.arrive w).put Reg.NVM_STAT_DROP 0 1 else { s.arrive w with nvmq := s.nvmq ++ [(s.nvmPage * 0x4000 + off.toNat / 4 * 4, v)] }.nvmNext
    else s.arrive w) = u) (hp : Permitted s w (0x8000 + off.toNat / 4 * 4) v.toNat) : ∃ t, exec (.nvmWindowWrite w off v) s = .next t ∧ Settles u t :=
  write_acts (Eq.refl (regWrite s w (0x8000 + off.toNat) v.toNat)) ((Nat.add_lt_add_left off.isLt 0x8000).trans (Nat.le_of_ble_eq_true (Eq.refl true)))
    ((congrArg (· * 4) (Nat.mul_add_div (m := 4) (Nat.succ_pos 3) 0x2000 off.toNat)).trans (Nat.add_mul 0x2000 _ 4)) hp
    ((store_window _ w _ _ ⟨Nat.le_add_right 0x8000 _, Nat.add_lt_add_left ((Nat.div_mul_le_self off.toNat 4).trans_lt off.isLt) 0x8000⟩).trans
      ((congrArg (fun r : Nat × List (Nat × Word) × Nat × Word => if (pageRegion r.1).isSome then if 16 ≤ r.2.1.length then
        (s.arrive w).put Reg.NVM_STAT_DROP 0 1 else ({ s.arrive w with nvmq := r.2.1 ++ [(r.1 * 0x4000 + r.2.2.1, r.2.2.2)] } : State).nvmNext
        else s.arrive w)
          (congrArg₂ Prod.mk (get_arrive s w Reg.NVM_PAGE_PAGE 0 (Eq.refl true) (Eq.refl true) (Eq.refl true)) (congrArg₂ Prod.mk
            (@id ((s.arrive w).nvmq = s.nvmq) (congrArg State.nvmq (reports_arrive s w).2 :)) (congrArg₂ Prod.mk
              (Nat.add_sub_cancel_left 0x8000 (off.toNat / 4 * 4))
              (BitVec.eq_of_toNat_eq ((BitVec.toNat_ofNat _ 32).trans (Nat.mod_eq_of_lt v.isLt))))))).trans acts))

end
end Sys2Proof.Machine

open Sys2Proof Sys2Proof.Machine

/-- Settles O4: `finish` keeps whatever the fields named in Safety.lean cannot break, and so what `Settles` says. -/
theorem settlingReachesItsFieldsOnly : Obligations.SettlingReachesItsFieldsOnly := settles_finish

/- `State.claimPick` and `argmax` are the same fold, by two matchers. -/
set_option smartUnfolding false in
/-- Settles O53: a claim takes the best of the presentable sources, which stand in the order of their numbers. -/
theorem claimTakesTheHighestPriority : Obligations.ClaimTakesTheHighestPriority := fun s _ =>
  ⟨fun none _ low => Bool.eq_false_of_not_eq_true fun h => List.not_mem_nil ((List.argmax_eq_none (f := s.isPri)).1 none ▸
      List.mem_filter.2 ⟨List.mem_range.2 low, h⟩),
    fun _ best =>
      have mem := List.mem_filter.1 (List.argmax_mem (f := s.isPri) best)
      ⟨List.mem_range.1 mem.1, mem.2, fun _ low h => argmax_precedes (List.pairwise_lt_range.filter _).sortedLT best
        (List.mem_filter.2 ⟨List.mem_range.2 low, h⟩)⟩⟩

/-- Settles O48: each command acts where the state meets its condition. -/
theorem gaugeCommands : Obligations.GaugeCommands := fun s _ m _ _ _ _ =>
  ⟨fun live first => ended_reaches live
      (if_neg fun e => first ((Bool.and_eq_true_iff.1 e).imp eq_of_beq eq_of_beq) : s.gaugeSecond m = s.gaugeUpdate m),
    fun live before after => ended_reaches live
      (if_pos (Bool.and_intro (beq_of_eq before) (beq_of_eq after)) : s.gaugeSecond m = ((s.gaugeUpdate m).chgFault 3).raise 93),
    fun live rests => ended_of (Bool.and_intro live (decide_eq_true rests)),
    fun live fresh old => (done_of (Bool.and_intro (Bool.and_intro live (congrArg not fresh)) (decide_eq_true old))).trans
      (congrArg (fun u : State => Host.Outcome.next (u.put Reg.GG_STAT_STEPS 0 0))
        (congrArg (State.put · Reg.GG_STAT_REF_STALE 0 1) (ifDo_pos (congrArg not fresh)))),
    fun hp => regWrite_word (of_decide_eq_true (Eq.refl true)) rfl hp (store_newPack _ _),
    fun live writes => ended_of (Bool.and_intro live (beq_of_eq writes)),
    fun live due battery => settles_with (ended_of (Bool.and_intro (Bool.and_intro live due) (congrArg not battery))) ⟨rfl, valid_gaugeStart⟩⟩

/-- Settles O49: times pass up to the end of a window or quiet period, the writes act at their addresses, and the fault bus is heard while released. -/
theorem ledgerCommands : Obligations.LedgerCommands := fun s w n j v =>
  ⟨fun up opened => ended_of (Bool.and_intro up opened),
    by
      intro b up unit quiet still
      exact ⟨fun left => ended_reaches (Bool.and_intro (Bool.and_intro up unit) quiet)
          ((ifDo_pos (s := b) (f := fun s => s.quietEnd n) still).trans (if_pos left)),
        fun spent => ended_reaches (Bool.and_intro (Bool.and_intro up unit) quiet)
          ((ifDo_pos (s := b) (f := fun s => s.quietEnd n) still).trans (if_neg (not_lt.2 spent)))⟩,
    fun link => ⟨fun hp => lgAdmit_acts hp (ifDo_pos link), fun hp => lgAdmit_acts hp ((ifDo_pos link).trans
      ((hostAdmit_rcvClr (rcvClr_fields n).1 (rcvClr_fields n).2.1).trans (congrArg (State.put _ _ · 0) (rcvClr_fields n).2.2)))⟩,
    fun other => ⟨fun hp => lgAdmit_acts hp (ifDo_neg other), fun hp => lgAdmit_acts hp (ifDo_neg other)⟩,
    fun hp => regWrite_word
      ((Nat.add_lt_add_left (Nat.mul_lt_mul_of_pos_left j.isLt (Nat.succ_pos 3)) 0x4810).trans (Nat.le_of_ble_eq_true (Eq.refl true)))
      (Nat.div_mul_cancel (Nat.dvd_add (Dvd.intro 0x1204 rfl) (Nat.dvd_mul_right 4 j))) hp (store_sticky v.toNat j j.isLt),
    fun up released =>
      have heard := Bool.and_intro up (congrArg not released)
      ⟨fun armed => ended_reaches heard (ifDo_pos armed), fun spent => ended_reaches heard (ifDo_neg spent), done_of heard⟩⟩

/-- Settles O55: a frame acts by its CRC, its length and the clock. -/
theorem spiFrames : Obligations.SpiFrames := fun _ _ _ _ _ _ early _ linked =>
  ⟨fun whole => ⟨fun good => linked_acts linked ((if_neg (ne_true_of_eq_false (bne_eq_false_iff_eq.2 whole))).trans
        (if_neg (ne_true_of_eq_false (bne_eq_false_iff_eq.2 good.symm)))),
      fun wrong => linked_acts linked ((if_neg (ne_true_of_eq_false (bne_eq_false_iff_eq.2 whole))).trans (if_pos (bne_iff_ne.2 wrong.symm)))⟩,
    fun ill => linked_acts linked (if_pos (bne_iff_ne.2 ill)),
    fun clock good => linked_acts linked (frame_sends (bne_eq_false_iff_eq.2 good) (decide_eq_false (if_pos clock ▸ lt_irrefl 0))
      (readFrame_out (bne_eq_false_iff_eq.2 good) (if_pos clock) (length_readBurst _ _ _))),
    fun clock good =>
      have late := (congrArg (early && !·) clock).trans (Bool.and_false early)
      linked_acts linked (frame_sends (bne_eq_false_iff_eq.2 good) late (statusFrame_out late)),
    linked_acts linked rfl, linked_acts linked rfl, linked_acts linked rfl⟩

/-- Settles O56: the pointer, the length and blocks through them, each write under its PEC; the timeout and the alert response. -/
theorem smbusRegisterAccess : Obligations.SmbusRegisterAccess := by
  intro s p v pec data up b n q refused good
  exact ⟨And.left (smbus_writes (b := b) up rfl), And.right (smbus_writes (b := b) (u := b.put Hid.PM_PTR 0 p.toNat) up rfl),
    smbus_acts up rfl rfl,
    fun h => smbus_acts up ((if_pos (beq_of_eq h)).trans (congrArg (b.put Reg.HL_SMB_STAT_RD_WORDS 0)
      (if_congr (beq_iff_eq.trans (@BitVec.toNat_eq 8 v 0).symm) rfl rfl))) rfl,
    smbus_acts up rfl rfl,
    -- A block of whole words, one to eight, is not refused, and the pointer moves past them (R376).
    fun some whole short =>
      have fits : (data.length == 0 || data.length % 4 != 0 || decide (32 < data.length)) = false := congrArg₂ or
        (congrArg₂ or (beq_eq_false_iff_ne.2 fun e => some (List.length_eq_zero_iff.1 e)) (bne_eq_false_iff_eq.2 whole))
        (decide_eq_false (not_lt.2 short))
      smbus_writes (b := b) up (congrArg₂ (fun bad k => smbus s (fun s => (s.ifDo bad (fun s => (s.put Reg.HL_SMB_STAT_BLK_BAD 0 1).cml 6)).smbWrite
        0xD1 (BitVec.ofNat 8 data.length :: data) pec (fun s => if bad then s else
          (s.writeBurst .smbus (s.get Hid.PM_PTR 0) (smbWords data)).put Hid.PM_PTR 0 (s.get Hid.PM_PTR 0 + k))))
        fits (Nat.mul_div_cancel' (Nat.dvd_of_mod_eq_zero whole)) :),
    settles_with (smbus_acts up rfl rfl) rfl, fun tmo => ended_of (Bool.and_intro up tmo),
    fun ara alert => smbus_acts up (ifDo_pos (Bool.and_intro (Bool.and_intro (demand_is (f := Reg.HL_SMB_CFG_ARA_EN) (Eq.refl true) ara)
      (demand_is (f := Hid.PM_ALERT) (Eq.refl true) alert)) (Eq.refl true))) rfl⟩

/-- Settles O58: a page takes a command alone, PAGE 0xFF none; a status register is read as it stands, and cleared under its PEC. -/
theorem pmbusPagesAndStatus : Obligations.PmbusPagesAndStatus := by
  intro s v pec code up b e nack good clears
  exact ⟨fun ok h => smbus_acts up ((if_pos ok).trans (if_pos (beq_of_eq h))) rfl,
    fun bad => settles_with (smbus_acts up (if_neg (ne_true_of_eq_false bad)) rfl) rfl, smbus_acts up rfl rfl,
    fun h one => smbus_acts up ((if_pos (beq_of_eq h)).trans (clearFaults_one one)) rfl, And.left (smbus_writes (b := e) up rfl),
    fun unknown => settles_with (smbus_acts up (if_neg fun e => unknown (List.contains_iff_mem.1 e)) rfl) rfl,
    fun all => ⟨settles_with (smbus_acts up (if_pos (beq_of_eq all)) rfl) rfl, settles_with (smbus_acts up (if_pos (beq_of_eq all)) rfl) rfl⟩,
    fun one => ⟨paged_acts up one rfl rfl, paged_acts up one rfl rfl,
      paged_status (b := e) up one rfl rfl, paged_status (b := e) up one rfl rfl, paged_status (b := e) up one rfl rfl⟩⟩

/-- Settles O57: a constant is sent as it stands, a reading by its channel's mode; what a page does not have is refused. -/
theorem pmbusReadings : Obligations.PmbusReadings := by
  intro s up one b nack volt
  exact ⟨paged_acts up one rfl rfl, paged_acts up one rfl rfl, paged_acts up one rfl rfl, paged_acts up one rfl rfl, paged_acts up one rfl rfl,
    paged_acts up one rfl rfl,
    fun loop => paged_acts up one (if_neg (ne_true_of_eq_false (congrArg not (decide_eq_true loop)))) rfl,
    fun far => settles_with (paged_acts up one (if_pos (congrArg not (decide_eq_false (not_lt.2 far)))) rfl) rfl,
    settles_with (paged_acts up one rfl rfl) rfl,
    paged_volt up one rfl, paged_volt up one rfl, paged_volt up one rfl, paged_volt up one rfl, paged_volt up one rfl,
    -- The four limits, written, do the same.
    fun _ limit => paged_acts up one rfl (List.eq_of_mem_replicate (n := 4) (List.mem_map_of_mem (f := (exec · s)) limit)),
    fun _ => mfrReadRaw_acts up one,
    fun far => settles_with (paged_acts up one (if_pos (Bool.or_inl (Bool.or_inl (Bool.or_inl (congrArg not (decide_eq_false (not_lt.2 far))))))) rfl) rfl,
    fun n _ loop ich low even mode => readIout_acts up one loop (ich.trans_lt low) ((congrArg (· % 2) ich).trans even)
      ((congrArg (b.get Reg.CH_CFG_MODE) ich).trans mode) (congrArg (fun n => shuntAmps (b.get Reg.CH_DATA_VALUE n) (b.get Reg.PM_LOOP_RSH b.page)) ich)⟩

/-- Settles O60: a TPERT register is written at its address, a word of the NVM window is queued while there is room, and BOOT_CFG is queued as a word. -/
theorem perturbationAndNvm : Obligations.PerturbationAndNvm := fun _ _ _ addr _ _ =>
  ⟨fun low high hp => write_acts (if_pos (Bool.and_intro (decide_eq_true low) (decide_eq_true high))) addr.isLt rfl hp rfl,
    fun out => if_neg fun within => (Bool.and_eq_true_iff.1 within).elim fun low high =>
      out.elim (not_lt.2 (of_decide_eq_true low)) (not_le.2 (of_decide_eq_true high)),
    fun hp => regWrite_word (Nat.le_of_ble_eq_true (Eq.refl true)) rfl hp rfl,
    fun hp => regWrite_word (Nat.le_of_ble_eq_true (Eq.refl true)) rfl hp rfl,
    fun some room => window_acts ((if_pos some).trans (if_neg (not_le.2 room))),
    fun some full => window_acts ((if_pos some).trans (if_pos full)),
    fun none hp => window_acts (if_neg (ne_true_of_eq_false (congrArg Option.isSome none))) hp,
    fun on job => ended_of (Bool.and_intro on (beq_of_eq job)),
    fun hp => regWrite_word (Nat.le_of_ble_eq_true (Eq.refl true)) rfl hp rfl⟩

end
